-- ==== Sys2Proof/Word.lean ====
section
/-! DEFINITION. The words of the module: bytes, 16-, 32- and 64-bit words, and the wide words in which the spec
gives its structures (R12: bit 0 is the least significant bit). -/

namespace Sys2Proof

/-- One byte. -/
abbrev Byte := BitVec 8
/-- A 32-bit word: a register, a vector element. -/
abbrev W32 := BitVec 32
/-- A 64-bit word. -/
abbrev W64 := BitVec 64
/-- A granule of 32 bytes (R266), also the size of every 256-bit record of the spec. -/
abbrev W256 := BitVec 256
/-- A 64-byte record: a descriptor (R453), a sample record (R571). -/
abbrev W512 := BitVec 512

end Sys2Proof
end

