-- ==== Sys2Proof/Syntax.lean ====
section
/-! DEFINITION. The commands of the module: one constructor of `Instr` per row of the spec's table of operations and
events. Each docstring names the rule that governs the command and says what its operands are. -/

namespace Sys2Proof

/-- The two host ports (R436). -/
inductive HostPort where
  | h0
  | h1
deriving DecidableEq, Repr, Inhabited

/-- The masters of BAR0 (R469): the two host ports and the steward. -/
inductive Master where
  | h0
  | h1
  | steward
deriving DecidableEq, Repr, Inhabited

/-- The states that a MOD_CONTROL write names (R469). -/
inductive ModState where
  | run
  | pause
  | halt
  | reset
  | powerOff
deriving DecidableEq, Repr, Inhabited

/-- A caravan frame as a port receives it (R477): addresses, tag, EtherType, header, subheader, data. -/
structure Frame where
  dmac  : BitVec 48
  pcp   : BitVec 3
  vid   : BitVec 12
  etype : BitVec 16
  hdr   : W256
  sub   : W256
  data  : List Byte
deriving DecidableEq, Repr, Inhabited

/-- A gradient sum as it reaches a tally unit: its sum header (R341) and its elements (INT32 or INT64 values, or the
bits of FP32 values when the header's FP32 bit is set; none when NULL is set). -/
structure SumInput where
  hdr   : W256
  elems : List Int
deriving DecidableEq, Repr, Inhabited

/-- Where a tally unit's input comes from (R340). -/
inductive SumSource where
  /-- A fabric sum of a region, which reaches the region exit unit: the core and the receive stream whose bench granules hold it,
  its sum header, and how many inputs the plan lists for the tile in the region. -/
  | fabric (core : Fin 7680) (stream : Fin 256) (hdr : W256) (of : Nat)
  /-- A tile word alone, of the first pass of R189, from a core; `of` as above. -/
  | word (core : Fin 7680) (tile : W32) (word : W32) (of : Nat)
  /-- The oldest sum that a caravan port has delivered. -/
  | delivered
deriving DecidableEq, Repr, Inhabited

/-- What a read of an accumulator meets (R138, R143): how many elements a single-bit correction mends, and which hold an
uncorrectable error. -/
structure AccRead where
  corr : Nat := 0
  lost : List (Fin 4096) := []
deriving DecidableEq, Repr, Inhabited

/-- What disturbs a tile operation as it runs (R136 to R143, R260): elements of P that the cells form otherwise than they
should; whether a check cell or an adder tree gives a wrong sum; the operands (true for A) whose buffer words hold an
uncorrectable error, and those whose expansion fails its check; whether the two adders disagree; what the addition's read of
the accumulator meets; and the core cycles that the array has waited for an operand (R126). -/
structure TileUpset where
  prod     : List (Fin 4096 × W32) := []
  sums     : Bool := false
  operand  : List Bool := []
  expander : List Bool := []
  adders   : Bool := false
  reads    : AccRead := {}
  stalls   : Nat := 0
deriving DecidableEq, Repr, Inhabited

/-- How a data request of a lower tier ends when the hardware ends it (R303). -/
inductive TierEnd where
  | uncorr
  | late
deriving DecidableEq, Repr, Inhabited

/-- A peer's answer to a fetch (R327, R368, R393, R413, R425): the data with the tag it carries, or a refusal. -/
inductive PeerAnswer where
  | data (tag : Byte) (bytes : List Byte)
  | refuses
  | silent
deriving DecidableEq, Repr, Inhabited

/-- What a host access returned (R462). -/
inductive HostError where
  | poisoned
  | unsupported
  | abort
  | timeout
deriving DecidableEq, Repr, Inhabited

/-- The ways in which a host port is lost (R441, R606). -/
inductive PortLossKind where
  | linkDown
  | hotReset
  | functionReset
  | perst
deriving DecidableEq, Repr, Inhabited

/-- The units whose lasting loss makes a region loss (R401, R412), and the causes of R401's table. -/
inductive DarkCause where
  | notServiceable
  | power
  | unitFault
  | serviceCores
  | riskLevel
  | thermal
deriving DecidableEq, Repr, Inhabited

/-- The units of a stack's base die (R414). -/
inductive BaseDieUnit where
  | ledgerUpdate
  | tally
deriving DecidableEq, Repr, Inhabited

/-- Why a regulator phase is disabled (R511). -/
inductive PhaseFault where
  | overcurrent
  | regulation
  | switching
deriving DecidableEq, Repr, Inhabited

/-- What an electronic fuse met (R509). -/
inductive FuseCause where
  | above600
  | above380
deriving DecidableEq, Repr, Inhabited

/-- The input condition under which the steward writes POWER_OFF (R506). -/
inductive InputFault where
  | vinRange
  | currentLimit
deriving DecidableEq, Repr, Inhabited

/-- One temperature reading (R523). -/
structure Reading where
  logic   : Nat
  cellar  : List Nat
  stage   : Nat
deriving DecidableEq, Repr, Inhabited

/-- One firmware image as the verification of R533 sees it. -/
structure FwImage where
  component : Fin 4
  version   : Nat
  svn       : Nat
  keySlot   : Fin 4
  signature : Bool
deriving DecidableEq, Repr, Inhabited

/-- The authority whose signature a lifecycle request bears (R551). -/
inductive Authority where
  | twirun
  | owner
  | none
deriving DecidableEq, Repr, Inhabited

/-- The lifecycle states (R550). -/
inductive Lifecycle where
  | blank
  | provisioned
  | deployed
  | service
  | retired
deriving DecidableEq, Repr, Inhabited

/-- The management interfaces (R556). -/
inductive MgmtPort where
  | smb
  | pcie (p : HostPort)
  | mg
  | mailbox (p : HostPort)
deriving DecidableEq, Repr, Inhabited

/-- The SPDM requests of R554. -/
inductive SpdmRequest where
  | getVersion
  | getCapabilities
  | negotiateAlgorithms
  | getDigests
  | getCertificate (slot : Nat)
  | challenge (slot : Nat)
  | getMeasurements (index : Nat)
  | keyExchange
  | finish
  | endSession
deriving DecidableEq, Repr, Inhabited

/-- The sensors of R557. -/
inductive Sensor where
  | regionLogic (r : Fin 64)
  | regionCellar (r : Fin 64)
  | stack (n : Fin 48)
  | vin
  | inputPower
  | supplyA
  | returnA
  | flowA
  | supplyB
  | returnB
  | flowB
  | riskLevel
  | lifecycle
  | regionPower (r : Fin 64)
deriving DecidableEq, Repr, Inhabited

/-- The certificate that a Redfish client presents (R557). -/
inductive ClientCert where
  | owner
  | twirunService
  | none
deriving DecidableEq, Repr, Inhabited

/-- The Redfish services of R556. -/
inductive RedfishService where
  | sensor (x : Sensor)
  | logs
  | firmwareUpdate
  | lifecycleRequest
deriving DecidableEq, Repr, Inhabited

/-- What the steps of a region test found (R538): the dead cores that march and scan found, the VLOG phases that
failed, and for each other step whether it passed. -/
structure RegionTestResult where
  powerOk   : Bool
  fuseOpens : Bool
  phases    : W64
  riserOk   : Bool
  svcFailed : Nat
  deadCores : List Nat
  columnOk  : Bool
  bayOk     : Bool
  badRows   : Nat
  badSlots  : List Nat
  seamOk    : Bool
  millis    : Nat
deriving DecidableEq, Repr, Inhabited

/-- The routers of the fabric (R74, R80): a logical core's, a region's column router, a region's service router. -/
inductive RouterId where
  | core (l : Fin 7680)
  | column (r : Fin 64)
  | service (r : Fin 64)
deriving DecidableEq, Repr, Inhabited

/-- A residue failure of one lane element (R238, R239): the element, and whether the recomputation passes. -/
structure LaneFault where
  elem   : Nat
  passes : Bool
deriving DecidableEq, Repr, Inhabited

/-- What goes with a vector instruction: the scalar registers that the sequencer has written since the instruction before it
(R201), and the layer index with which it has reseeded the lane generators (R173); the observations that it notes for activation-gradient
entries of the scale ledger (R181), by entry and code; the residue failures that its elements meet (R238); the elements of which a register word holds an uncorrectable error
(R239); the single-bit errors that its register reads mend (R237); and the core cycles that it waits for the bench port
(R212). -/
structure LaneMet where
  scalars : List (Fin 8 × W32) := []
  layer   : Option Nat := none
  notes   : List (Nat × Byte) := []
  faults  : List LaneFault := []
  lost    : List Nat := []
  corr    : Nat := 0
  wait    : Nat := 0
deriving DecidableEq, Repr, Inhabited

/-- A core stream as the core program binds it (R88): its number, whether it sends, its bench granules and its micro-batch. -/
structure StreamSpec where
  stream : Fin 256
  send   : Bool
  first  : BitVec 16
  grans  : Nat
  mb     : BitVec 16
deriving DecidableEq, Repr, Inhabited

/-- What a core's program places in a segment (R84, R88, R623): the core cycles that loading the segment's bank takes, when it
is not yet loaded; those of the work that falls due in each of the segment's schedule epochs, the loading of the next bank
included; and the streams that it binds. -/
structure SegCore where
  core  : Fin 7680
  load  : Nat
  work  : List Nat
  binds : List StreamSpec
deriving DecidableEq, Repr, Inhabited

/-- The same of the service core that loads a region's column router (R84). -/
structure SegColumn where
  region : Fin 64
  load   : Nat
  work   : List Nat
deriving DecidableEq, Repr, Inhabited

/-- The memory tiers (R265). -/
inductive MemTier where
  | bench
  | cellar
  | stock
deriving DecidableEq, Repr, Inhabited

/-- What reads a granule of a bench (R267, R268): an instruction of the array, the lanes or the encoder, a stream, or the core's
oldest cellar transfer. -/
inductive BenchReader where
  | engine
  | stream (n : Fin 256)
  | transfer
deriving DecidableEq, Repr, Inhabited

/-- Granules of a core's bench. -/
structure BenchSpan where
  core  : Fin 7680
  first : BitVec 16
  grans : Nat
deriving DecidableEq, Repr, Inhabited

/-- Who sends a service packet (R112). -/
inductive ServiceSender where
  | region
  | steward
  | foreman
deriving DecidableEq, Repr, Inhabited

/-- The commands of the module, one per row of the table. -/
inductive Instr where
  -- Host rings and descriptors
  /-- R450: a host write to BAR2 at `addr` of `size` bytes. -/
  | doorbell (p : HostPort) (addr : BitVec 26) (size : Nat) (val : W64)
  /-- R434. -/
  | descriptorTake
  /-- R455: the descriptor taken from `ring` at `index`; so the other descriptor commands. -/
  | step (ring : Fin 16384) (index : Fin 65536)
  /-- R456. -/
  | sched (ring : Fin 16384) (index : Fin 65536)
  /-- R458: a tier ends the request after so many of its granules, and how (R301); so the next one. -/
  | moveToTensor (ring : Fin 16384) (index : Fin 65536) (met : Option (Nat × TierEnd))
  /-- R458. -/
  | moveToHost (ring : Fin 16384) (index : Fin 65536) (met : Option (Nat × TierEnd))
  /-- R458. -/
  | moveDiscard (ring : Fin 16384) (index : Fin 65536)
  /-- R459: `answer` is what the keeping peer sends when SRC is 2. -/
  | ledgerInit (ring : Fin 16384) (index : Fin 65536) (answer : PeerAnswer)
  /-- R385. -/
  | swatch (ring : Fin 16384) (index : Fin 65536)
  /-- R460. -/
  | secure (ring : Fin 16384) (index : Fin 65536)
  /-- R435. -/
  | fence (ring : Fin 16384) (index : Fin 65536)
  /-- R460. -/
  | queryCrateMap (ring : Fin 16384) (index : Fin 65536)
  /-- R460. -/
  | queryCtxWindow (ring : Fin 16384) (index : Fin 65536)
  /-- R460. -/
  | querySinkTable (ring : Fin 16384) (index : Fin 65536)
  /-- R460. -/
  | queryRingWindows (ring : Fin 16384) (index : Fin 65536)
  /-- R460. -/
  | queryProgramSlots (ring : Fin 16384) (index : Fin 65536)
  /-- R460. -/
  | queryScaleLedger (ring : Fin 16384) (index : Fin 65536)
  /-- R460. -/
  | queryLedgerDirectory (ring : Fin 16384) (index : Fin 65536)
  /-- R443. -/
  | assign (ring : Fin 16384) (index : Fin 65536)
  /-- R443. -/
  | remove (ring : Fin 16384) (index : Fin 65536)
  /-- R460. -/
  | sinkSet (ring : Fin 16384) (index : Fin 65536)
  /-- R460. -/
  | sinkClear (ring : Fin 16384) (index : Fin 65536)
  /-- R461. -/
  | cancel (ring : Fin 16384) (index : Fin 65536)
  /-- R445. -/
  | teardown (ring : Fin 16384) (index : Fin 65536)
  /-- R463: the next entry of submission ring `ring`. -/
  | completionWrite (ring : Fin 16384)
  /-- R465: the oldest waiting event of the context. -/
  | eventWrite (ctx : Fin 64)
  /-- R429. -/
  | eventRepeatWindowClose (ctx : Fin 64) (code : BitVec 16) (d0 : W32)
  /-- R464: `timed` says that the oldest unsignalled entry is TIME old. -/
  | ringIrqSignal (ring : Fin 16384) (timed : Bool)
  -- Module state and registers
  /-- R469: a MOD_CONTROL write by `m`; `lost` are the writes of other masters in the same keeper clock cycle. -/
  | run (m : Master) (lost : List (Master × ModState))
  /-- R469. -/
  | pause (m : Master) (lost : List (Master × ModState))
  /-- R469. -/
  | halt (m : Master) (lost : List (Master × ModState))
  /-- R469. -/
  | reset (m : Master) (lost : List (Master × ModState))
  /-- R469. -/
  | powerOff (m : Master) (lost : List (Master × ModState))
  /-- R442: `both` says that the other port writes ENABLE to the same context in the same keeper clock cycle. -/
  | ctxEnable (p : HostPort) (ctx : Fin 64) (val : W32) (both : Bool)
  /-- R445. -/
  | ctxAbort (p : HostPort) (ctx : Fin 64) (val : W32)
  /-- R447. -/
  | ringEnable (p : HostPort) (ring : Fin 16384)
  /-- R449. -/
  | ringDrain (p : HostPort) (ring : Fin 16384)
  /-- R449. -/
  | ringDrainComplete (ring : Fin 16384)
  /-- R15: a write of `size` bytes to BAR0, or with `bar4` to BAR4 (R591); `beaten` are the masters whose writes to the
  same register in the same keeper clock cycle it overwrites (R470). -/
  | registerWrite (m : Master) (bar4 : Bool) (addr : BitVec 26) (size : Nat) (val : W64) (beaten : List Master)
  /-- R584, R564: a BAR0 read by a port, or with `bar4` a BAR4 read; the value goes out on the port. -/
  | latchedLowRead (p : HostPort) (bar4 : Bool) (addr : BitVec 26) (size : Nat)
  /-- R441. -/
  | portLoss (p : HostPort) (kind : PortLossKind)
  /-- R566: a PERF_CONTROL write whose FREEZE bit is `on`. -/
  | freeze (m : Master) (on : Bool)
  /-- R566: a PERF_CONTROL write with SNAPSHOT 1, and FREEZE as `on`. -/
  | snapshot (m : Master) (on : Bool)
  /-- R594. -/
  | snapshotComplete
  /-- R593. -/
  | mbxDoorbell (p : HostPort) (val : W32)
  /-- R593: the steward's reply. -/
  | mailboxReply (p : HostPort) (result : BitVec 4) (resp : List Byte)
  /-- R592. -/
  | mailboxTimeout (p : HostPort)
  -- Matrix arrays
  /-- R120: a tile instruction word issued by the sequencer of a logical core; so the next three. -/
  | tmma (core : Fin 7680) (w : BitVec 128)
  /-- R120. -/
  | tmmaz (core : Fin 7680) (w : BitVec 128)
  /-- R123: `reads` is what the drain's reads of the accumulator meet. -/
  | tdrain (core : Fin 7680) (w : BitVec 128) (reads : AccRead)
  /-- R120. -/
  | tzero (core : Fin 7680) (w : BitVec 128)
  /-- R136: the compute of the oldest operation that awaits its check ends, and its check codes are compared. -/
  | tileCheck (core : Fin 7680) (up : TileUpset)
  /-- R146: the retry of the oldest mismatched operation, with what disturbs it. -/
  | tileRetry (core : Fin 7680) (up : TileUpset)
  -- Vector clusters: the instruction word, and what goes with it
  /-- R205. -/
  | vnop (core : Fin 7680) (w : W64) (met : LaneMet)
  /-- R205. -/
  | vadd (core : Fin 7680) (w : W64) (met : LaneMet)
  /-- R205. -/
  | vsub (core : Fin 7680) (w : W64) (met : LaneMet)
  /-- R205. -/
  | vmul (core : Fin 7680) (w : W64) (met : LaneMet)
  /-- R205. -/
  | vfma (core : Fin 7680) (w : W64) (met : LaneMet)
  /-- R205. -/
  | vdiv (core : Fin 7680) (w : W64) (met : LaneMet)
  /-- R205. -/
  | vmax (core : Fin 7680) (w : W64) (met : LaneMet)
  /-- R205. -/
  | vmin (core : Fin 7680) (w : W64) (met : LaneMet)
  /-- R205. -/
  | vabs (core : Fin 7680) (w : W64) (met : LaneMet)
  /-- R205. -/
  | vneg (core : Fin 7680) (w : W64) (met : LaneMet)
  /-- R205. -/
  | vaddw (core : Fin 7680) (w : W64) (met : LaneMet)
  /-- R205. -/
  | vand (core : Fin 7680) (w : W64) (met : LaneMet)
  /-- R205. -/
  | vor (core : Fin 7680) (w : W64) (met : LaneMet)
  /-- R205. -/
  | vxor (core : Fin 7680) (w : W64) (met : LaneMet)
  /-- R226. -/
  | vexp2 (core : Fin 7680) (w : W64) (met : LaneMet)
  /-- R226. -/
  | vlog2 (core : Fin 7680) (w : W64) (met : LaneMet)
  /-- R224. -/
  | vrcp (core : Fin 7680) (w : W64) (met : LaneMet)
  /-- R226. -/
  | vrsqrt (core : Fin 7680) (w : W64) (met : LaneMet)
  /-- R205. -/
  | vcmp (core : Fin 7680) (w : W64) (met : LaneMet)
  /-- R205. -/
  | vsel (core : Fin 7680) (w : W64) (met : LaneMet)
  /-- R205. -/
  | vmop (core : Fin 7680) (w : W64) (met : LaneMet)
  /-- R227. -/
  | vcvt (core : Fin 7680) (w : W64) (met : LaneMet)
  /-- R227. -/
  | vcvts (core : Fin 7680) (w : W64) (met : LaneMet)
  /-- R227. -/
  | scaleb (core : Fin 7680) (w : W64) (met : LaneMet)
  /-- R212. -/
  | vld (core : Fin 7680) (w : W64) (met : LaneMet)
  /-- R212. -/
  | vst (core : Fin 7680) (w : W64) (met : LaneMet)
  /-- R213. -/
  | vgather (core : Fin 7680) (w : W64) (met : LaneMet)
  /-- R214. -/
  | vscatter (core : Fin 7680) (w : W64) (met : LaneMet)
  /-- R214. -/
  | vscatadd (core : Fin 7680) (w : W64) (met : LaneMet)
  /-- R215. -/
  | vldx (core : Fin 7680) (w : W64) (met : LaneMet)
  /-- R215. -/
  | vstc (core : Fin 7680) (w : W64) (met : LaneMet)
  /-- R205. -/
  | vldm (core : Fin 7680) (w : W64) (met : LaneMet)
  /-- R205. -/
  | vstm (core : Fin 7680) (w : W64) (met : LaneMet)
  /-- R216. -/
  | vperm (core : Fin 7680) (w : W64) (met : LaneMet)
  /-- R216. -/
  | vcompress (core : Fin 7680) (w : W64) (met : LaneMet)
  /-- R216. -/
  | vexpand (core : Fin 7680) (w : W64) (met : LaneMet)
  /-- R205. -/
  | vbcast (core : Fin 7680) (w : W64) (met : LaneMet)
  /-- R219. -/
  | vred (core : Fin 7680) (w : W64) (met : LaneMet)
  /-- R222. -/
  | vscan (core : Fin 7680) (w : W64) (met : LaneMet)
  /-- R228. -/
  | vnorm (core : Fin 7680) (w : W64) (met : LaneMet)
  /-- R229. -/
  | vsoftmax (core : Fin 7680) (w : W64) (met : LaneMet)
  /-- R230. -/
  | vloss (core : Fin 7680) (w : W64) (met : LaneMet)
  /-- R231. -/
  | vresadd (core : Fin 7680) (w : W64) (met : LaneMet)
  /-- R232. -/
  | lprog (core : Fin 7680) (w : W64) (met : LaneMet)
  /-- R234. -/
  | laneProgramTimeout (core : Fin 7680) (elem : Nat)
  /-- R217. -/
  | vsetfill (core : Fin 7680) (w : W64) (met : LaneMet)
  /-- R205. -/
  | vstat (core : Fin 7680) (w : W64) (met : LaneMet)
  /-- R232. -/
  | lpload (core : Fin 7680) (w : W64) (met : LaneMet)
  /-- R254. -/
  | encoderCommand (core : Fin 7680) (w : W64)
  -- Core sequencer
  /-- R270. -/
  | cellarTransfer (core : Fin 7680) (w : BitVec 128)
  /-- R270: the oldest transfer of the core ends, `late` core cycles after its share of the bandwidth would have had it end
  (R272, R623). -/
  | cellarTransferEnd (core : Fin 7680) (late : Nat)
  /-- R272: the oldest transfer of the core ends LATE after `moved` granules. -/
  | cellarTransferLate (core : Fin 7680) (moved : Nat) (late : Nat)
  /-- R575. -/
  | rdpmc (core : Fin 7680) (index : Nat) (sreg : Fin 8)
  /-- R106: `ends` says that the step program marks the barrier as the end of a position, or of a pass (R322, R374). -/
  | barrierArrive (core : Fin 7680) (ends : Bool)
  -- Fabric
  /-- R93. -/
  | epochStart
  /-- R95: `copyB` is the combined length on the second copy of the network when it differs; `odd` are routers that latch
  another length (R98). -/
  | holdLatch (copyB : Option (Fin 16)) (odd : List (RouterId × Fin 16))
  /-- R81: `slot` is the control slot's number in its epoch. -/
  | controlSlot (slot : Fin 4)
  /-- R81: a frame arrives at a router on a link (0 to 7 as the hop port codes name them). -/
  | controlFrameReceive (at_ : RouterId) (link : Fin 8) (frame : W256)
  /-- R98. -/
  | scheduleRealign
  /-- R84: the segment that starts, and what the core programs and the region firmware bring to it. -/
  | segmentStart (ctx : Fin 64) (seg : Nat) (cores : List SegCore) (cols : List SegColumn)
  /-- R85: data cycle `n` of the entry's run; `corr` counts single-bit errors, and `uncorr` and `uncorr2` say that the word that
  arrives for IN, or for IN2, holds an uncorrectable error. -/
  | hopEntryRun (at_ : RouterId) (entry : Fin 4096) (n : Nat) (corr : Nat) (uncorr uncorr2 : Bool)
  /-- R109. -/
  | fabricModeChange (scheduled : Bool)
  /-- R110, R113: a packet of data flits from a region's firmware to a router; in scheduled mode, a firmware message. -/
  | servicePacket (src : Fin 64) (dst : RouterId) (sender : ServiceSender) (flits : List W512)
  /-- R51: `failed` are the spare sites that fail the test of R52. -/
  | microBatchBoundary (region : Fin 64) (failed : List (Fin 143))
  /-- R53. -/
  | repairRefetchComplete (region : Fin 64)
  -- Weight streaming
  /-- R322. -/
  | prefetchFetch (ctx : Fin 64)
  /-- R311: prefetch entry `entry` lands; `failed` are the regions whose riser delivery still fails after four repeats. -/
  | crateLanding (ctx : Fin 64) (entry : Nat) (failed : List (Fin 64))
  /-- R324: the next position, or virtual stage `pos`; `waited` says that a core has waited at the gate. -/
  | readyGateOpen (ctx : Fin 64) (pos : Nat) (waited : Bool)
  /-- R327. -/
  | weightFetchEnd (ctx : Fin 64) (entry : Nat) (how : TierEnd)
  /-- R327. -/
  | repairPeerAnswer (ctx : Fin 64) (crate : W32) (answer : PeerAnswer)
  /-- R327. -/
  | repairPeerSilent (ctx : Fin 64) (crate : W32)
  /-- R329. -/
  | repairDeadline (ctx : Fin 64) (crate : W32)
  -- Memory tiers
  /-- R278: a request of the context for a crate; `link` says that a transfer of it has failed all its repeats (R277), `mb` is the
  micro-batch that it serves, `dest` the bench granules that it was to fill. -/
  | stockroomRequestLate (ctx : Fin 64) (crate : W32) (link : Bool) (mb : Option (BitVec 16)) (dest : List BenchSpan)
  /-- R277: a piece of a crate reads uncorrectable; `again` says that the second read fails too. -/
  | stockroomUncorrRead (ctx : Fin 64) (crate : W32) (again : Bool) (mb : Option (BitVec 16)) (dest : List BenchSpan)
  /-- R274. -/
  | cellarUncorrRead (ctx : Fin 64) (crate : W32) (granule : Fin 2048) (mb : BitVec 16)
  /-- R268: `reader` is what reads the granule; `again` says that the same word has failed before in the step. -/
  | benchUncorrRead (core : Fin 7680) (granule : BitVec 16) (again : Bool) (reader : BenchReader)
  /-- R280: `contents` is what the crate's owner restores. -/
  | crateRebuild (ctx : Fin 64) (crate : W32) (contents : List Byte)
  /-- R292. -/
  | migrationStart (ctx : Fin 64) (crate : W32)
  /-- R293. -/
  | migrationSwitch (ctx : Fin 64) (crate : W32)
  /-- R290. -/
  | crateMapLost (ctx : Fin 64)
  /-- R305: the tier whose wipe ends. -/
  | wipeComplete (tier : MemTier)
  /-- R306. -/
  | teardownWipeComplete (ctx : Fin 64)
  -- Gradient path and commit
  /-- R342: an input reaches the tally unit that serves the context's tile. -/
  | sumReceive (ctx : Fin 64) (src : SumSource)
  /-- R345: a verdict of a module on a micro-batch. -/
  | verdictReceive (ctx : Fin 64) (module : Fin 131072) (mb : BitVec 16) (clean : Bool)
  /-- R347: `failed` says that the second copy failed too; otherwise the resend is asked for. -/
  | sumAgain (ctx : Fin 64) (module : Fin 131072) (tile : W32) (failed : Bool)
  /-- R348: the sealed tile and its word. -/
  | sealedTileReceive (ctx : Fin 64) (tile : W32) (word : W256) (elems : List Int)
  /-- R364. -/
  | applyStart (ctx : Fin 64)
  /-- R359. -/
  | normReceive (ctx : Fin 64) (module : Fin 131072) (firstTile : W32) (sum : W32)
  /-- R361. -/
  | ledgerTileApply (ctx : Fin 64) (tile : W32)
  /-- R364. -/
  | applyComplete (ctx : Fin 64)
  /-- R365: a commit beacon. -/
  | beaconReceive (ctx : Fin 64) (beacon : W256)
  /-- R364. -/
  | commitDeadline (ctx : Fin 64)
  /-- R368: one ledger tile of the walk: `sealedFrom` and `tileFrom` are what the replicas answer when asked. -/
  | recoveryWalk (ctx : Fin 64) (sealedFrom tileFrom : PeerAnswer)
  /-- R425: the context enters as a listener, or takes one ledger tile with its directory record and scale entry. -/
  | replicaRebuild (ctx : Fin 64) (tile : W32) (answer : PeerAnswer)
  /-- R426. -/
  | rebuildStalled (ctx : Fin 64)
  /-- R499. -/
  | join (port : Fin 16) (frame : Frame)
  /-- R499. -/
  | commitRemoved (port : Fin 16) (frame : Frame)
  /-- R347. -/
  | withhold (port : Fin 16) (frame : Frame)
  /-- R186. -/
  | scaleCopyRebuild (ctx : Fin 64)
  -- Pipeline and swatches
  /-- R374. -/
  | slotStart (ctx : Fin 64)
  /-- R378. -/
  | stagingCrateSend (ctx : Fin 64) (chan : Fin 256)
  /-- R380: a HANDOFF frame. -/
  | handoff (port : Fin 16) (frame : Frame)
  /-- R381. -/
  | handoffDeadline (ctx : Fin 64)
  /-- R390. -/
  | swatchReadStart (ctx : Fin 64)
  /-- R393: the swatch reads its next tile; `how` ends the read when the tier does, `answer` is the replica's. -/
  | swatchTileEnd (ctx : Fin 64) (how : Option TierEnd) (answer : PeerAnswer)
  /-- R392. -/
  | swatchComplete (ctx : Fin 64)
  -- Surviving faults
  /-- R402. -/
  | regionDark (region : Fin 64) (cause : DarkCause)
  /-- R409. -/
  | foremanLost
  /-- R409. -/
  | foremanTakeover
  /-- R414. -/
  | baseDieUnitFail (stack : Fin 48) (unit : BaseDieUnit)
  /-- R413: the crate whose piece is fetched. -/
  | channelRebuild (ctx : Fin 64) (crate : W32) (answer : PeerAnswer)
  /-- R416: the single-bit errors corrected in benches, cellars and cluster state since the last evaluation, by region, and
  the corrected errors and link repeats of stockroom channels (stack × 16 + channel). -/
  | healthEvaluate (bench cellar lane : List (Fin 64 × Nat)) (chans : List (Fin 768 × Nat × Nat))
  /-- R421. -/
  | secureStart (ctx : Fin 64)
  /-- R420. -/
  | secured (ctx : Fin 64)
  /-- R422: the reason as event 0x010C encodes it. -/
  | secureFailed (ctx : Fin 64) (reason : Fin 5)
  /-- R420: an image, or a piece of one, from a securing module; `size` is its image's size in bytes. -/
  | secureImageReceive (module : Fin 131072) (size : Nat) (slotB : Bool) (offset : Nat) (bytes : List Byte)
  -- Caravan frames and ports
  /-- R497. -/
  | hello (port : Fin 16) (frame : Frame)
  /-- R493. -/
  | ack (port : Fin 16) (frame : Frame)
  /-- R344. -/
  | verdict (port : Fin 16) (frame : Frame)
  /-- R365. -/
  | beacon (port : Fin 16) (frame : Frame)
  /-- R359. -/
  | norm (port : Fin 16) (frame : Frame)
  /-- R341. -/
  | sum (port : Fin 16) (frame : Frame)
  /-- R391. -/
  | put (port : Fin 16) (frame : Frame)
  /-- R328. -/
  | fetch (port : Fin 16) (frame : Frame)
  /-- R479. -/
  | data (port : Fin 16) (frame : Frame)
  /-- R494: the time passes for the unacknowledged frame with this transfer identifier. -/
  | caravanRetryTime (xid : W32)
  /-- R493. -/
  | flowIdleRelease (job : BitVec 16) (src dst : Fin 131072) (cls : BitVec 2)
  /-- R488: a pause frame with the PCPs it pauses and whether it pauses or resumes. -/
  | pfcPause (port : Fin 16) (pcps : Byte) (on : Bool)
  /-- R498. -/
  | portEnable (m : Master) (port : Fin 16)
  /-- R498. -/
  | portDisable (m : Master) (port : Fin 16)
  /-- R498. -/
  | retrain (m : Master) (port : Fin 16)
  /-- R498: the PCS locks at this many lanes, and the peer's HELLO, when one came, is in the subheader `hello`. -/
  | portLock (port : Fin 16) (lanes : Nat) (hello : Option W256)
  /-- R498. -/
  | trainingTimeout (port : Fin 16)
  /-- R498. -/
  | laneLoss (port : Fin 16) (lane : Fin 8)
  /-- R498. -/
  | retrainTimeout (port : Fin 16)
  /-- R609: the watts that the OSFP module declares, and whether it is a 200 Gb/s-per-lane module. -/
  | osfpInsert (port : Fin 16) (watts : Nat) (class200 : Bool)
  /-- R609. -/
  | osfpRemove (port : Fin 16)
  -- Power, clocks, cooling
  /-- R506: VIN in tenths of a volt. -/
  | vinUp (vin : BitVec 14)
  /-- R506. -/
  | vinLost
  /-- R506. -/
  | ilkClose
  /-- R506. -/
  | ilkOpen
  /-- R506. -/
  | prechargeComplete
  /-- R506. -/
  | prechargeFail
  /-- R506: VIN in tenths of a volt. -/
  | vinHardLimit (vin : BitVec 14)
  /-- R506. -/
  | inputRange (why : InputFault)
  /-- R605. -/
  | coolReadyLost
  /-- R509. -/
  | fuseTrip (region : Fin 64) (cause : FuseCause)
  /-- R511. -/
  | phaseFail (region : Fin 64) (phase : Fin 64) (why : PhaseFault)
  /-- R516. -/
  | rampRequest (region : Fin 64) (up : Bool)
  /-- R517. -/
  | rampGrant
  /-- R517. -/
  | rampDeferTimeout (region : Fin 64)
  /-- R624. -/
  | rampComplete (region : Fin 64)
  /-- R521. -/
  | clockStepChange (region : Fin 64)
  /-- R522: one 100 µs sample of input power in W, and VIN in tenths of a volt. -/
  | powerSample (watts : Nat) (vin : BitVec 14)
  /-- R524: the readings of every region (index = region), the stacks and the converter, in °C; VLOG currents in A. -/
  | thermalSample (regions : List Reading) (stackTemps : List Nat) (converter : Nat) (vlog : List Nat)
  /-- R526: supply and return in °C, flow in tenths of L/min, of circuits A and B. -/
  | coolantSample (supA retA flowA supB retB flowB : Nat)
  /-- R526. -/
  | coolantLimit
  /-- R519: oscillator A, or (false) B. -/
  | oscillatorFail (a : Bool)
  -- Bring-up, lifecycle, management
  /-- R534. -/
  | boot
  /-- R537. -/
  | waveStart
  /-- R538. -/
  | regionTest (region : Fin 64) (result : RegionTestResult)
  /-- R539. -/
  | regionTestTimeout (region : Fin 64)
  /-- R540: the channels that fail. -/
  | stockroomTest (failed : List (Fin 768))
  /-- R541: whether both copies of the hold network pass, and the duration in ms. -/
  | bringupFinish (holdNetOk : Bool) (millis : W32)
  /-- R544. -/
  | inventoryWrite
  /-- R551. -/
  | lifecycleRequest (target : Lifecycle) (serial : W64) (nonce : W64) (signer : Authority) (from_ : MgmtPort)
  /-- R551: the nonce's value. -/
  | nonceIssue (nonce : W64)
  /-- R558. -/
  | firmwareUpdate (images : List FwImage) (from_ : MgmtPort)
  /-- R558. -/
  | firmwareActivation (from_ : MgmtPort)
  /-- R554. -/
  | spdmRequest (from_ : MgmtPort) (req : SpdmRequest)
  /-- R557. -/
  | pldmRequest (from_ : MgmtPort) (sensor : Sensor)
  /-- R557. -/
  | redfishRequest (from_ : MgmtPort) (cert : ClientCert) (service : RedfishService)
  -- Counters and sampling
  /-- R568: the next issued instruction: its kind as R571 encodes it, the sequencer's program counter, and its word. -/
  | sampleTag (core : Fin 7680) (kind : Fin 5) (pc : W32) (word : W32)
  /-- R571: which of the core's tagged instructions ends, the deltas of the points of R570 in fabric cycles, and the record's
  HANDOFF, RETRIED, HELD and GATED bits. -/
  | sampleRecordComplete (core : Fin 7680) (which : Nat) (ready exec end_ : Nat) (handoff retried held gated : Bool)
  /-- R572. -/
  | sampleRecordWrite (core : Fin 7680)
  -- The rest of the table, in its order
  /-- R462: the descriptor whose host access failed. -/
  | hostAccessError (ring : Fin 16384) (index : Fin 65536) (error : HostError)
  /-- R606. -/
  | hostLinkUp (p : HostPort)
  /-- R412. -/
  | serviceCoreFail (region : Fin 64) (count : Fin 5)
  /-- R536. -/
  | keySlotRevoke (slot : Fin 4) (signedBy : Fin 4)
  /-- R497. -/
  | helloResend (port : Fin 16)
  /-- R289. -/
  | crateMapCopyRebuild (ctx : Fin 64)
  /-- R506. -/
  | coolReadyRestored
deriving DecidableEq, Repr, Inhabited

end Sys2Proof
end

