-- ==== Sys2Proof/Config.lean ====
section
/-! DEFINITION. The free values of the model: what the spec leaves open, as constants of which nothing is known. Each is
applied to the operands that it depends on, or to the state's counter of free values. -/

namespace Sys2Proof.Config

/-- A value that the spec does not state, for each value of the counter (assumption 2). -/
opaque freeNat : Nat → Nat
/-- The fault code of a FAULT frame, whose encoding the spec does not give (assumption 6). -/
opaque faultCode : Nat → BitVec 12
/-- Where the foreman puts a newly mapped cellar crate: the row-bay's slots are searched from this one (assumption 7). -/
opaque cellarPick : Nat → Nat
/-- Where the foreman puts a newly mapped stockroom crate (assumption 7). -/
opaque stockPick : Nat → Nat
/-- The hash that picks a flow's port (R491): the rule names what is covered, SRC, DST, CLASS and JOB, and not how the four
are laid out as bytes (assumption 14). -/
opaque flowHash : Nat → Nat → Nat → Nat → Nat
/-- How many modules a verdict set's list holds, from its record and the first module that it names; the image gives no
length (assumption 15). -/
opaque verdictLen : Nat → Nat → Nat
/-- How many bytes after the first byte of slot A slot B of a secured image in host memory begins, for an image of this many
bytes (R420); the spec does not place the slots (assumption 22). -/
opaque secSlotB : Nat → Nat
/-- The sealed micro-batch and token counts of a context that holds no ledger tile, and so no sealed word (R350, assumption 2). -/
opaque bareCounts : Nat × Nat
/-- The sample generator's state after it is reseeded from PERF_CTX_SEED and the logical core number; the spec does not
give the generator (assumption 8). -/
opaque sampleSeed : W32 → Nat → W32
/-- The sample generator's next state (assumption 8). -/
opaque sampleNext : W32 → W32

/-- The scalar forms of the arithmetic and transcendental instructions (R232). -/
inductive LaneArith where
  | add | sub | mul | fma | div | max | min | abs | neg | addw | and | or | xor | exp2 | log2 | rcp | rsqrt
deriving DecidableEq, Repr, Inhabited

/-- An instruction of a lane program (R232), of which the spec gives the effects and not the encoding (assumption 9): a scalar
form on L registers in a format; a conversion of L`a` from one format to another, with the word of R227 in L`sc`; the scale
byte of R175; a constant; the element of a vector register read or written; 8 bytes of the bench loaded into L`d` and L`d + 1`
from, or stored from L`v` and L`v + 1` to, the byte address in L`a`; a branch that compares as VCMP does; and the program's
end. -/
inductive LaneInstr where
  | arith (op : LaneArith) (fmt : Fin 16) (d a b c : Fin 32)
  | convert (scaled : Bool) (src dst : Fin 16) (sr : Bool) (d a sc : Fin 32)
  | scaleByte (dst : Fin 16) (h : Fin 8) (d a : Fin 32)
  | const (d : Fin 32) (v : W32)
  | readV (d : Fin 32) (v : Fin 8)
  | writeV (v : Fin 8) (a : Fin 32)
  | load (d a : Fin 32)
  | store (a v : Fin 32)
  | branch (cmp : Fin 5) (fmt : Fin 16) (a b : Fin 32) (target : Fin 4096)
  | stop
deriving DecidableEq, Repr, Inhabited

/-- The instruction that a word of the lane program store spells (assumption 9). -/
opaque laneDecode : W32 → LaneInstr
/-- The core cycles that a lane program's instruction takes, which the spec does not give (assumption 9). -/
opaque laneCycles : W32 → Nat

end Sys2Proof.Config
end

