-- ==== Sys2Proof/Machine/Store.lean ====
section
/-! DEFINITION. The shared containers and bit helpers of the model: sparse maps in canonical form (memories, register
files, tables), bit fields (R12), byte order (R12: little-endian), sign extension, checksums and saturating counters. -/

namespace Sys2Proof.Machine

/-- A sparse map from numbers: entries with strictly rising keys, none equal to what an unlisted key reads as. -/
abbrev Sp (α : Type) := List (Nat × α)

/-- What the map holds at `k`; `d` gives what an unlisted key reads as. -/
def spGet {α : Type} (d : Nat → α) : Sp α → Nat → α
  | [], k => d k
  | (a, v) :: m, k => if k = a then v else spGet d m k

/-- Put an entry before the first greater key. -/
def spInsert {α : Type} : Sp α → Nat → α → Sp α
  | [], k, v => [(k, v)]
  | (a, w) :: m, k, v => if k < a then (k, v) :: (a, w) :: m else (a, w) :: spInsert m k v

/-- Set `k` to `v`, keeping the canonical form. -/
def spSet {α : Type} [DecidableEq α] (d : Nat → α) (m : Sp α) (k : Nat) (v : α) : Sp α :=
  let rest := m.filter fun e => e.1 != k
  if v = d k then rest else spInsert rest k v

/-- All keys of the map are at least `lo` and rise strictly, and no entry holds what its key reads as unlisted. -/
def spWfFrom {α : Type} [DecidableEq α] (d : Nat → α) : Nat → Sp α → Bool
  | _, [] => true
  | lo, (a, v) :: m => decide (lo ≤ a) && decide (v ≠ d a) && spWfFrom d (a + 1) m

/-- The canonical form. -/
def spWf {α : Type} [DecidableEq α] (d : Nat → α) (m : Sp α) : Bool := spWfFrom d 0 m

/-- Return every key that satisfies `p` to its unlisted value. -/
def spDrop {α : Type} (p : Nat → Bool) (m : Sp α) : Sp α := m.filter fun e => !p e.1

/-- The entries of the keys `lo` to `lo + n - 1`, keyed from 0. -/
def spSlice {α : Type} (lo n : Nat) (m : Sp α) : Sp α :=
  (m.filter fun e => decide (lo ≤ e.1) && decide (e.1 < lo + n)).map fun e => (e.1 - lo, e.2)

/-- Replace the keys `lo` to `lo + n - 1` by the entries of `sl`, which is keyed from 0. -/
def spPut {α : Type} (lo n : Nat) (sl m : Sp α) : Sp α :=
  (m.filter fun e => decide (e.1 < lo)) ++
  ((sl.filter fun e => decide (e.1 < n)).map fun e => (e.1 + lo, e.2)) ++
  (m.filter fun e => decide (lo + n ≤ e.1))

/-- The values of a list as a sparse block keyed from `i`, entries that equal the default `d` left out. -/
def sparseFrom {α : Type} [DecidableEq α] (d : α) : Nat → List α → Sp α
  | _, [] => []
  | i, v :: vs => if v = d then sparseFrom d (i + 1) vs else (i, v) :: sparseFrom d (i + 1) vs

/-- A sparse block keyed from 0 as a list of `n` values; `i` is the key of the next one. -/
def denseFrom {α : Type} (d : α) : Nat → Nat → Sp α → List α
  | _, 0, _ => []
  | i, n + 1, [] => d :: denseFrom d (i + 1) n []
  | i, n + 1, (k, v) :: m => if k = i then v :: denseFrom d (i + 1) n m else d :: denseFrom d (i + 1) n ((k, v) :: m)

/-- A byte memory; every byte that is not listed reads 0. -/
abbrev Mem := List Host.Cell

/-- One byte of a memory. -/
def Mem.byte (m : Mem) (a : Nat) : Byte := spGet (fun _ => 0#8) m a
/-- Write one byte of a memory. -/
def Mem.setByte (m : Mem) (a : Nat) (b : Byte) : Mem := spSet (fun _ => 0#8) m a b
/-- The canonical form of a memory: addresses strictly rising, no byte listed that reads 0. -/
abbrev Mem.wf (m : Mem) : Bool := spWf (fun _ => 0#8) m

/-- `n` bytes from `a`. -/
def Mem.read (m : Mem) (a n : Nat) : List Byte := (List.range n).map fun i => m.byte (a + i)

/-- Write the bytes from `a` on. -/
def Mem.write (m : Mem) (a : Nat) (bs : List Byte) : Mem := spPut a bs.length (sparseFrom 0#8 0 bs) m

/-- Copy `n` bytes at `src` of `m` to `dst` of `m'`. -/
def Mem.copyTo (m : Mem) (src n : Nat) (m' : Mem) (dst : Nat) : Mem := spPut dst n (spSlice src n m) m'

/-- Clear `n` bytes from `a`. -/
def Mem.clear (m : Mem) (a n : Nat) : Mem := spPut a n [] m

/-- The `n`-byte little-endian value of a number (R12). -/
def leBytes : Nat → Nat → List Byte
  | 0, _ => []
  | n + 1, v => BitVec.ofNat 8 v :: leBytes n (v / 256)

/-- The number that little-endian bytes spell. -/
def leNat : List Byte → Nat
  | [] => 0
  | b :: bs => b.toNat + 256 * leNat bs

/-- A number from `n` bytes of memory, little-endian (R12). -/
def Mem.readNat (m : Mem) (a n : Nat) : Nat := (spSlice a n m).foldl (fun x e => x + (e.2.toNat <<< (8 * e.1))) 0
/-- Write a number as `n` bytes. -/
def Mem.writeNat (m : Mem) (a n v : Nat) : Mem := m.write a (leBytes n v)

/-- Bits `lo` to `lo + len - 1` of a word, as a number. -/
def fld {w : Nat} (x : BitVec w) (lo len : Nat) : Nat := (x.toNat >>> lo) % 2 ^ len

/-- The same field of a plain number. -/
def nfld (x lo len : Nat) : Nat := (x >>> lo) % 2 ^ len

/-- One bit of a word. -/
def bitAt {w : Nat} (x : BitVec w) (i : Nat) : Bool := x.getLsbD i

/-- The word with bits `lo` to `lo + len - 1` replaced by `v`. -/
def setFld {w : Nat} (x : BitVec w) (lo len v : Nat) : BitVec w :=
  let mask : BitVec w := BitVec.ofNat w ((2 ^ len - 1) <<< lo)
  (x &&& ~~~mask) ||| (BitVec.ofNat w ((v % 2 ^ len) <<< lo))

/-- The word with bit `i` set to `b`. -/
def setBit {w : Nat} (x : BitVec w) (i : Nat) (b : Bool) : BitVec w := setFld x i 1 (if b then 1 else 0)

/-- A number with a bit of value `b` at place `i`, for assembling records. -/
def bitN (b : Bool) (i : Nat) : Nat := if b then 2 ^ i else 0

/-- The two's-complement value of the low `len` bits of `v`. -/
def sext (len v : Nat) : Int :=
  let u := v % 2 ^ len
  if u < 2 ^ (len - 1) then u else (u : Int) - (2 ^ len : Nat)

/-- The low `len` bits of an integer in two's complement. -/
def toTwos (len : Nat) (v : Int) : Nat := (v % ((2 ^ len : Nat) : Int)).toNat

/-- A 32-bit counter that stops at its greatest value (R16). -/
def satAdd32 (w : W32) (n : Nat) : W32 := BitVec.ofNat 32 (min (w.toNat + n) (2 ^ 32 - 1))

/-- A field of `len` bits raised by `n` and stopping at its greatest value. -/
def satFld (w : W32) (lo len n : Nat) : W32 := setFld w lo len (min (fld w lo len + n) (2 ^ len - 1))

/-- One bit into a checksum register of `w` bits, most significant bit first. -/
def crcBit (w : Nat) (poly : BitVec w) (r : BitVec w) (b : Bool) : BitVec w :=
  let top := r.getMsbD 0
  let r := r <<< 1
  if top != b then r ^^^ poly else r

/-- Bits into a checksum register, most significant bit of each byte first. -/
def crcMsb (w : Nat) (poly : BitVec w) (r : BitVec w) (bs : List Byte) : BitVec w :=
  bs.foldl (fun r x => (List.range 8).foldl (fun r i => crcBit w poly r (x.getMsbD i)) r) r

/-- One byte into a reflected checksum register (least significant bit first). -/
def crcLsbByte (w : Nat) (poly : BitVec w) (r : BitVec w) (x : Byte) : BitVec w :=
  (List.range 8).foldl (fun r i =>
    let fb := r.getLsbD 0 != x.getLsbD i
    let r := r >>> 1
    if fb then r ^^^ poly else r) r

/-- Reflected checksum over bytes. -/
def crcLsb (w : Nat) (poly : BitVec w) (r : BitVec w) (bs : List Byte) : BitVec w := bs.foldl (crcLsbByte w poly) r

/-- CRC-32 of R12's kind over the first `n` bytes of a record. -/
def crc32 (n v : Nat) : Nat := (crcLsb 32 0xEDB88320#32 0xFFFFFFFF#32 (leBytes n v) ^^^ 0xFFFFFFFF#32).toNat

/-- The list with the element at `i` changed. -/
def modAt {α : Type} (l : List α) (i : Nat) (f : α → α) : List α :=
  match l, i with
  | [], _ => []
  | a :: as, 0 => f a :: as
  | a :: as, i + 1 => a :: modAt as i f

/-- The elements of a list, grouped `n` at a time. -/
def chunks {α : Type} (n : Nat) : Nat → List α → List (List α)
  | 0, _ => []
  | fuel + 1, l => if l.isEmpty then [] else l.take n :: chunks n fuel (l.drop n)

/-- The first element that satisfies `p` is removed and answered with the rest. -/
def takeFirst {α : Type} (p : α → Bool) : List α → Option (α × List α)
  | [] => none
  | a :: as => if p a then some (a, as) else
    match takeFirst p as with
    | some (b, bs) => some (b, a :: bs)
    | none => none

/-- An element added to a list that holds no repeats. -/
def insertNew {α : Type} [DecidableEq α] (a : α) (l : List α) : List α := if a ∈ l then l else l ++ [a]

end Sys2Proof.Machine
end

