-- ==== Sys2Proof/Machine/Fp.lean ====
section
/-! DEFINITION. Numbers: the formats of R152 to R161, exact dyadic values, the roundings of R168 and R172, the arithmetic
of R224 and the correctly rounded functions of R226. A finite value is held exactly as a sign, a significand and a power
of two, so every rounding is said where it happens. -/

namespace Sys2Proof.Machine

/-- A value that a format can name: NaN, an infinity, or `±m × 2^e` (a zero keeps its sign, R155). -/
inductive FVal where
  | nan
  | inf (neg : Bool)
  | fin (neg : Bool) (m : Nat) (e : Int)
deriving DecidableEq, Repr, Inhabited

/-- Positive zero. -/
def FVal.zero : FVal := .fin false 0 0

/-- A floating-point format (R153): exponent and mantissa bits, bias, the largest finite magnitude's encoding, the
encoding of infinity where it has one and its canonical NaN where it has one (R154). -/
structure FFmt where
  ebits  : Nat
  mbits  : Nat
  bias   : Int
  maxRaw : Nat
  inf    : Option Nat
  nan    : Option Nat
deriving DecidableEq, Repr

/-- FP32 (R153). -/
def fp32 : FFmt := ⟨8, 23, 127, 0x7F7FFFFF, some 0x7F800000, some 0x7FC00000⟩
/-- FP16 (R153). -/
def fp16 : FFmt := ⟨5, 10, 15, 0x7BFF, some 0x7C00, some 0x7E00⟩
/-- BF16 (R153). -/
def bf16 : FFmt := ⟨8, 7, 127, 0x7F7F, some 0x7F80, some 0x7FC0⟩
/-- FP8 E4M3 (R153). -/
def e4m3 : FFmt := ⟨4, 3, 7, 0x7E, none, some 0x7F⟩
/-- FP8 E5M2 (R153). -/
def e5m2 : FFmt := ⟨5, 2, 15, 0x7B, some 0x7C, some 0x7E⟩
/-- FP6 E3M2 (R153). -/
def e3m2 : FFmt := ⟨3, 2, 3, 0x1F, none, none⟩
/-- FP6 E2M3 (R153). -/
def e2m3 : FFmt := ⟨2, 3, 1, 0x1F, none, none⟩
/-- FP4 E2M1 (R153). -/
def e2m1 : FFmt := ⟨2, 1, 1, 0x7, none, none⟩
/-- The BF16 and CB8 pair as a 24-bit word (R163). -/
def bf16cb8 : FFmt := ⟨8, 15, 127, 0x7F7FFF, some 0x7F8000, some 0x7FC000⟩

/-- The floating-point format of a format code (R152). -/
def floatOf (code : Nat) : Option FFmt :=
  match code with
  | 0x0 => some e4m3
  | 0x1 => some e5m2
  | 0x2 => some e3m2
  | 0x3 => some e2m3
  | 0x4 => some e2m1
  | 0x7 => some bf16
  | 0x8 => some fp16
  | 0x9 => some fp32
  | _ => none

/-- The width in bits of the integer format of a code (R158); S16's mantissas are INT16 (R159). -/
def intWidth (code : Nat) : Option Nat :=
  match code with
  | 0x5 => some 8
  | 0x6 => some 4
  | 0xA => some 16
  | 0xB => some 32
  | 0xE => some 16
  | _ => none

/-- Element width in bits of a format code (R246; E8M0 and CB8 are bytes). -/
def fmtBits (code : Nat) : Nat :=
  match code with
  | 0x0 | 0x1 | 0x5 | 0xD | 0xF => 8
  | 0x2 | 0x3 => 6
  | 0x4 | 0x6 => 4
  | 0x7 | 0x8 | 0xA | 0xE => 16
  | 0xC => 64
  | _ => 32

/-- The value of an encoding (R153). -/
def FFmt.decode (f : FFmt) (raw : Nat) : FVal :=
  let s := nfld raw (f.ebits + f.mbits) 1 == 1
  let mag := raw % 2 ^ (f.ebits + f.mbits)
  let ex := mag >>> f.mbits
  let mt := mag % 2 ^ f.mbits
  if mag ≤ f.maxRaw then
    if ex = 0 then .fin s mt (1 - f.bias - f.mbits) else .fin s (mt + 2 ^ f.mbits) (ex - f.bias - f.mbits)
  else if f.inf = some mag then .inf s else .nan

/-- A signed integer as a value. -/
def FVal.ofInt (v : Int) : FVal := .fin (decide (v < 0)) v.natAbs 0

/-- The value of an element of a format code: a float's value, an integer's value; `none` of the others. -/
def decodeElem (code raw : Nat) : FVal :=
  match floatOf code with
  | some f => f.decode raw
  | none => match intWidth code with
    | some w => FVal.ofInt (sext w raw)
    | none => .nan

/-- The exact power of two of an E8M0 byte, as an exponent; none is NaN (R157). -/
def e8m0 (b : Nat) : Option Int := if b = 0xFF then none else some ((b : Int) - 127)

/-- A value times `2^k`. -/
def FVal.scale (v : FVal) (k : Int) : FVal :=
  match v with
  | .fin s m e => .fin s m (e + k)
  | v => v

/-- A value times the scale of an E8M0 byte (R129, R157). -/
def FVal.scaleE8 (v : FVal) (b : Nat) : FVal :=
  match e8m0 b with
  | some k => v.scale k
  | none => .nan

def FVal.neg (v : FVal) : FVal :=
  match v with
  | .fin s m e => .fin (!s) m e
  | .inf s => .inf (!s)
  | .nan => .nan

def FVal.abs (v : FVal) : FVal :=
  match v with
  | .fin _ m e => .fin false m e
  | .inf _ => .inf false
  | .nan => .nan

def FVal.isNan (v : FVal) : Bool := match v with | .nan => true | _ => false
def FVal.isInf (v : FVal) : Bool := match v with | .inf _ => true | _ => false
def FVal.isZero (v : FVal) : Bool := match v with | .fin _ 0 _ => true | _ => false
def FVal.isNeg (v : FVal) : Bool := match v with | .fin s _ _ => s | .inf s => s | .nan => false

/-! Status bits, at the places of R223. -/
def stINVALID : Nat := 0x1
def stDIV0 : Nat := 0x2
def stOVF : Nat := 0x4
def stSAT : Nat := 0x8
def stNAN_CONV : Nat := 0x10
def stNAN : Nat := 0x20
def stRANGE : Nat := 0x40
def stEMPTY : Nat := 0x80
def stILLEGAL : Nat := 0x100
def stTIMEOUT : Nat := 0x200

/-- `m × 2^-s` rounded to the nearest integer, ties to even (R168); `sticky` says that the true value lies a little
above `m`. -/
def roundShift (m s : Nat) (sticky : Bool) : Nat :=
  let q := m >>> s
  let r := m % 2 ^ s
  if s = 0 then q else
  let half := 2 ^ (s - 1)
  if r > half || (r == half && (sticky || q % 2 == 1)) then q + 1 else q

/-- `m × 2^-s` rounded stochastically with draw `r` (R172). -/
def roundStoch (m s draw : Nat) : Nat :=
  let q := m >>> s
  let rest := m % 2 ^ s
  if rest = 0 then q
  else if (rest <<< 16) >>> s + draw ≥ 2 ^ 16 then q + 1 else q

/-- The magnitude `m × 2^e` rounded into the format, as an encoding that may lie above the largest finite one; the
exponent range is taken as unbounded above, and subnormals are kept (R155). -/
def FFmt.roundMag (f : FFmt) (m : Nat) (e : Int) (sticky : Bool) (draw : Option Nat) : Nat :=
  if m = 0 then 0 else
  let lsb : Int := 1 - f.bias - f.mbits
  let q : Int := max lsb ((Nat.log2 m : Int) + e - f.mbits)
  let mant :=
    if q ≤ e then m <<< (e - q).toNat
    else match draw with
      | none => roundShift m (q - e).toNat sticky
      | some r => roundStoch m (q - e).toNat r
  ((q - lsb).toNat <<< f.mbits) + mant

/-- The encoding of a sign and a magnitude. -/
def FFmt.signed (f : FFmt) (s : Bool) (mag : Nat) : Nat := if s then mag + 2 ^ (f.ebits + f.mbits) else mag

/-- An arithmetic result in a format with infinities: rounded to nearest even, an infinity with OVF beyond the range
(R224). The flags are those of R223. -/
def FFmt.arith (f : FFmt) (v : FVal) (sticky : Bool := false) : Nat × Nat :=
  match v with
  | .nan => (f.nan.getD 0, 0)
  | .inf s => (f.signed s (f.inf.getD f.maxRaw), 0)
  | .fin s m e =>
    let mag := f.roundMag m e sticky none
    if mag > f.maxRaw then (f.signed s (f.inf.getD f.maxRaw), stOVF) else (f.signed s mag, 0)

/-- A conversion to a floating-point format (R169), with the draw of R172 where the instruction rounds
stochastically. -/
def FFmt.convert (f : FFmt) (v : FVal) (draw : Option Nat) : Nat × Nat :=
  let narrow := f.ebits + f.mbits < 15
  match v with
  | .nan => match f.nan with
    | some n => (n, stNAN)
    | none => (0, stNAN_CONV)
  | .inf s => match f.inf with
    | some i => (f.signed s i, 0)
    | none => (f.signed s f.maxRaw, stSAT)
  | .fin s m e =>
    let mag := f.roundMag m e false draw
    if mag > f.maxRaw then
      if narrow then (f.signed s f.maxRaw, stSAT) else (f.signed s (f.inf.getD f.maxRaw), stOVF)
    else (f.signed s mag, 0)

/-- The integer nearest a finite value, ties to even. -/
def FVal.roundInt (v : FVal) : Int :=
  match v with
  | .fin s m e =>
    let n : Nat := if 0 ≤ e then m <<< e.toNat else roundShift m (-e).toNat false
    if s then -(n : Int) else n
  | _ => 0

/-- An integer clamped to two's complement of `w` bits, and whether it was clamped (R225). -/
def clampInt (w : Nat) (v : Int) : Int × Bool :=
  let hi : Int := (2 ^ (w - 1) : Nat) - 1
  let lo : Int := -((2 ^ (w - 1) : Nat) : Int)
  if v > hi then (hi, true) else if v < lo then (lo, true) else (v, false)

/-- A conversion to an integer format of `w` bits (R170). -/
def convertInt (w : Nat) (v : FVal) : Nat × Nat :=
  match v with
  | .nan => (0, stNAN_CONV)
  | .inf s => (if s then 2 ^ (w - 1) else 2 ^ (w - 1) - 1, stSAT)
  | v => let (c, sat) := clampInt w v.roundInt; (toTwos w c, if sat then stSAT else 0)

/-- A sum, exact; flags of R224. -/
def FVal.add (a b : FVal) : FVal × Nat :=
  match a, b with
  | .nan, _ => (.nan, stNAN)
  | _, .nan => (.nan, stNAN)
  | .inf s, .inf t => if s = t then (.inf s, 0) else (.nan, stINVALID + stNAN)
  | .inf s, _ => (.inf s, 0)
  | _, .inf t => (.inf t, 0)
  | .fin s m e, .fin t n d =>
    let q := min e d
    let x : Int := ((m <<< (e - q).toNat : Nat) : Int)
    let y : Int := ((n <<< (d - q).toNat : Nat) : Int)
    let sum := (if s then -x else x) + (if t then -y else y)
    if sum = 0 then (.fin (s && t) 0 q, 0) else (.fin (decide (sum < 0)) sum.natAbs q, 0)

/-- A product, exact; flags of R224. -/
def FVal.mul (a b : FVal) : FVal × Nat :=
  match a, b with
  | .nan, _ => (.nan, stNAN)
  | _, .nan => (.nan, stNAN)
  | .inf s, .inf t => (.inf (s != t), 0)
  | .inf s, .fin t m _ => if m = 0 then (.nan, stINVALID + stNAN) else (.inf (s != t), 0)
  | .fin s m _, .inf t => if m = 0 then (.nan, stINVALID + stNAN) else (.inf (s != t), 0)
  | .fin s m e, .fin t n d => (.fin (s != t) (m * n) (e + d), 0)

/-- A quotient: the leading 64 bits or more of its significand, and whether the rest is not zero (R224). -/
def FVal.div (a b : FVal) : FVal × Bool × Nat :=
  match a, b with
  | .nan, _ => (.nan, false, stNAN)
  | _, .nan => (.nan, false, stNAN)
  | .inf _, .inf _ => (.nan, false, stINVALID + stNAN)
  | .inf s, .fin t _ _ => (.inf (s != t), false, 0)
  | .fin s _ _, .inf t => (.fin (s != t) 0 0, false, 0)
  | .fin s m e, .fin t n d =>
    if n = 0 then
      if m = 0 then (.nan, false, stINVALID + stNAN) else (.inf (s != t), false, stDIV0)
    else
      let k := Nat.log2 n + 64
      (.fin (s != t) ((m <<< k) / n) (e - d - k), decide ((m <<< k) % n ≠ 0), 0)

/-- The integer square root, one bit at a time from bit `i - 1` down. -/
def isqrtFrom (n : Nat) : Nat → Nat → Nat
  | 0, r => r
  | i + 1, r => let c := r + 2 ^ i; isqrtFrom n i (if c * c ≤ n then c else r)

/-- The integer square root. -/
def isqrt (n : Nat) : Nat := isqrtFrom n (Nat.log2 n / 2 + 1) 0

/-- The reciprocal square root (R226). -/
def FVal.rsqrt (a : FVal) : FVal × Bool × Nat :=
  match a with
  | .nan => (.nan, false, stNAN)
  | .inf s => if s then (.nan, false, stINVALID + stNAN) else (.zero, false, 0)
  | .fin s m e =>
    if m = 0 then (.inf s, false, stDIV0)
    else if s then (.nan, false, stINVALID + stNAN)
    else
      let (m, e) := if e % 2 = 0 then (m, e) else (m * 2, e - 1)
      let k := 80 + Nat.log2 m
      let r := isqrt (2 ^ (2 * k) / m)
      (.fin false r (-(k : Int) - e / 2), decide (r * r * m ≠ 2 ^ (2 * k)), 0)

/-- The square root, for units that name it; the leading bits and whether the rest is not zero. -/
def FVal.sqrt (a : FVal) : FVal × Bool × Nat :=
  match a with
  | .nan => (.nan, false, stNAN)
  | .inf s => if s then (.nan, false, stINVALID + stNAN) else (.inf false, false, 0)
  | .fin s m e =>
    if m = 0 then (.fin s 0 0, false, 0)
    else if s then (.nan, false, stINVALID + stNAN)
    else
      let (m, e) := if e % 2 = 0 then (m, e) else (m * 2, e - 1)
      let n := m <<< 160
      let r := isqrt n
      (.fin false r (e / 2 - 80), decide (r * r ≠ n), 0)

/-- Bits of the fixed-point numbers in which `2^f` is formed. -/
def expBits : Nat := 224

/-- `c` times the factors `2^(2^-k)` that the bits of the fraction `f` (of `n` bits, the most significant first) select;
`root` is the present factor. -/
def exp2Fold (f : Nat) : Nat → Nat → Nat → Nat
  | 0, _, c => c
  | n + 1, root, c =>
    let c := if nfld f n 1 = 1 then (c * root) >>> expBits else c
    exp2Fold f n (isqrt (root <<< expBits)) c

/-- `2^x` (R226): the leading bits of the result and whether the rest is not zero. -/
def FVal.exp2 (a : FVal) : FVal × Bool × Nat :=
  match a with
  | .nan => (.nan, false, stNAN)
  | .inf s => if s then (.zero, false, 0) else (.inf false, false, 0)
  | .fin s m e =>
    if m = 0 then (.fin false 1 0, false, 0)
    else if (Nat.log2 m : Int) + e ≥ 8 then
      if s then (.zero, false, 0) else (.inf false, false, stOVF)
    else if (Nat.log2 m : Int) + e < -30 then (.fin false 1 0, false, 0)
    else
      -- x as an integer and a fraction of `fb` bits
      let fb : Nat := (-e).toNat
      let i : Int := if 0 ≤ e then ((m <<< e.toNat : Nat) : Int) else (m : Int)
      let i := if s then -i else i
      let n : Int := i / ((2 ^ fb : Nat) : Int)
      let f : Nat := (i % ((2 ^ fb : Nat) : Int)).toNat
      if n ≥ 128 then (.inf false, false, stOVF)
      else if n < -150 then (.zero, false, 0)
      else if f = 0 then (.fin false 1 n, false, 0)
      else (.fin false (exp2Fold f fb (isqrt (2 ^ (2 * expBits + 1))) (2 ^ expBits)) (n - expBits), true, 0)

/-- The first `n` bits of the logarithm of `y`, a fixed-point number in [1, 2), by squaring. -/
def log2Fold : Nat → Nat → Nat → Nat
  | 0, _, l => l
  | n + 1, y, l =>
    let y := (y * y) >>> expBits
    if y ≥ 2 ^ (expBits + 1) then log2Fold n (y / 2) (2 * l + 1) else log2Fold n y (2 * l)

/-- `log2 x` (R226). -/
def FVal.log2 (a : FVal) : FVal × Bool × Nat :=
  match a with
  | .nan => (.nan, false, stNAN)
  | .inf s => if s then (.nan, false, stINVALID + stNAN) else (.inf false, false, 0)
  | .fin s m e =>
    if m = 0 then (.inf true, false, stDIV0)
    else if s then (.nan, false, stINVALID + stNAN)
    else
      let k := Nat.log2 m
      let i : Int := e + k
      if m = 2 ^ k then (FVal.ofInt i, false, 0)
      else
        let l : Int := (log2Fold 120 ((m <<< expBits) >>> k) 0 : Nat)
        let t := i * ((2 ^ 120 : Nat) : Int) + l
        if 0 ≤ t then (.fin false t.natAbs (-120), true, 0) else (.fin true (t.natAbs - 1) (-120), true, 0)

/-- Whether `a < b`, of values that are not NaN. -/
def FVal.lt (a b : FVal) : Bool :=
  match a, b with
  | .nan, _ => false
  | _, .nan => false
  | .inf s, .inf t => s && !t
  | .inf s, _ => s
  | _, .inf t => !t
  | .fin s m e, .fin t n d =>
    let q := min e d
    let x : Int := ((m <<< (e - q).toNat : Nat) : Int)
    let y : Int := ((n <<< (d - q).toNat : Nat) : Int)
    decide ((if s then -x else x) < (if t then -y else y))

/-- Whether `a = b` as numbers: +0 equals −0, and a NaN equals nothing (R224). -/
def FVal.eqv (a b : FVal) : Bool := !a.isNan && !b.isNan && !a.lt b && !b.lt a

/-- `⌊log2 |v|⌋` of a finite value that is not zero. -/
def FVal.ilog (v : FVal) : Option Int :=
  match v with
  | .fin _ m e => if m = 0 then none else some ((Nat.log2 m : Int) + e)
  | _ => none

/-- The observation code of a largest magnitude (R174). -/
def obsCode (v : FVal) : Nat :=
  match v with
  | .fin _ m e =>
    if m = 0 then 0 else
    let l := (Nat.log2 m : Int) + e
    if l < -126 then 0 else if l ≥ 128 then 0xFE else (l + 127).toNat
  | _ => 0xFF

/-- The larger of two observation codes: 0xFF loses to every other, and 0x00 to every code from 0x01 to 0xFE
(R174). -/
def obsMax (a b : Nat) : Nat := if a = 0xFF then b else if b = 0xFF then a else max a b

/-- The scale byte of R175 from `⌊log2 A⌋`; `none` says that A is zero or below 2^-126. -/
def scaleByte (l : Option Int) (emax h : Int) : Nat :=
  match l with
  | none => 0
  | some l =>
    if l < -126 then 0 else
    let e := l - emax + h
    ((max (-127) (min 127 e)) + 127).toNat

/-- emax by target (R175). -/
def emaxOf (code : Nat) : Option Int :=
  match code with
  | 0x0 => some 8
  | 0x1 => some 15
  | 0x2 => some 4
  | 0x3 | 0x4 => some 2
  | 0x5 => some 0
  | 0xE => some (-1)
  | _ => none

/-- The scale byte that an observation code gives: the code is `⌊log2 A⌋ + 127` (R174, R175). -/
def scaleOfObs (obs : Nat) (emax h : Int) : Nat :=
  if obs = 0 ∨ obs = 0xFF then 0 else scaleByte (some ((obs : Int) - 127)) emax h

/-! FP32 words. -/

/-- The value of an FP32 word. -/
def f32 (w : W32) : FVal := fp32.decode w.toNat
/-- The FP32 word of a value, rounded to nearest even. -/
def toF32 (v : FVal) : W32 := BitVec.ofNat 32 (fp32.arith v).1
/-- The canonical FP32 NaN (R154). -/
def f32Nan : W32 := 0x7FC00000#32

/-- An FP32 sum, rounded once, with the flags of R223. -/
def addF32 (a b : W32) : W32 × Nat :=
  let (v, fl) := (f32 a).add (f32 b)
  let (r, fl') := fp32.arith v
  (BitVec.ofNat 32 r, fl ||| fl')

/-- An FP32 product, rounded once. -/
def mulF32 (a b : W32) : W32 × Nat :=
  let (v, fl) := (f32 a).mul (f32 b)
  let (r, fl') := fp32.arith v
  (BitVec.ofNat 32 r, fl ||| fl')

/-- `a × b + c` with one rounding. -/
def fmaF32 (a b c : W32) : W32 × Nat :=
  let (p, fl) := (f32 a).mul (f32 b)
  let (fl, fl', v) := if (f32 c).isNan then (0, stNAN, FVal.nan) else if p.isNan then (fl, 0, FVal.nan) else
    let (v, fl') := p.add (f32 c)
    (fl, fl', v)
  let (r, fl'') := fp32.arith v
  (BitVec.ofNat 32 r, fl ||| fl' ||| fl'')

/-- A value given with a sticky bit, as an FP32 word. -/
def stickyF32 (x : FVal × Bool × Nat) : W32 × Nat :=
  let (r, fl) := fp32.arith x.1 x.2.1
  (BitVec.ofNat 32 r, x.2.2 ||| fl)

/-- FP32 division, correctly rounded (R224). -/
def divF32 (a b : W32) : W32 × Nat := stickyF32 ((f32 a).div (f32 b))
/-- The FP32 reciprocal, correctly rounded (R224). -/
def rcpF32 (a : W32) : W32 × Nat := stickyF32 ((FVal.fin false 1 0).div (f32 a))
/-- The FP32 reciprocal square root (R226). -/
def rsqrtF32 (a : W32) : W32 × Nat := stickyF32 (f32 a).rsqrt
/-- The FP32 square root, correctly rounded. -/
def sqrtF32 (a : W32) : W32 × Nat := stickyF32 (f32 a).sqrt
/-- `2^a` (R226). -/
def exp2F32 (a : W32) : W32 × Nat := stickyF32 (f32 a).exp2
/-- `log2 a` (R226). -/
def log2F32 (a : W32) : W32 × Nat := stickyF32 (f32 a).log2

/-- An FP32 word negated. -/
def negF32 (a : W32) : W32 := if (f32 a).isNan then f32Nan else a ^^^ 0x80000000#32

/-- The larger of two FP32 words: NaN when either is, and +0 over −0 (R221). -/
def maxF32 (a b : W32) : W32 :=
  let x := f32 a; let y := f32 b
  if x.isNan || y.isNan then f32Nan
  else if x.lt y then b else if y.lt x then a else if x.isNeg then b else a

/-- The smaller of two FP32 words: NaN when either is, and −0 below +0 (R221). -/
def minF32 (a b : W32) : W32 :=
  let x := f32 a; let y := f32 b
  if x.isNan || y.isNan then f32Nan
  else if x.lt y then a else if y.lt x then b else if x.isNeg then a else b

/-- A saturating INT32 addition and whether it saturated (R91, R225). -/
def addI32 (a b : W32) : W32 × Bool :=
  let (v, sat) := clampInt 32 (a.toInt + b.toInt)
  (BitVec.ofInt 32 v, sat)

/-- The mantissa of an FP32 value in an S16 tile of exponent byte `e`, with its SAT and NONFINITE (R171). -/
def toS16 (v : FVal) (e : Nat) : Nat × Bool × Bool :=
  match v with
  | .fin s m x =>
    let r := (FVal.fin s m (x + 142 - e)).roundInt
    if r > 32767 then (32767, true, false)
    else if r < -32767 then (toTwos 16 (-32767), true, false)
    else (toTwos 16 r, false, false)
  | _ => (0, false, true)

/-- The value of an S16 mantissa in a tile of exponent byte `e` (R159). -/
def ofS16 (raw e : Nat) : FVal :=
  if e = 0xFF then .nan else (FVal.ofInt (sext 16 raw)).scale ((e : Int) - 142)

/-- The S16 tile word of two tiles that are summed: the same EXP, the larger OBS, SAT and NONFINITE ORed (R162). -/
def tileWordCombine (a b : W32) : W32 :=
  setFld (a ||| (b &&& 0x30000#32)) 8 8 (obsMax (fld a 8 8) (fld b 8 8))

/-- One step of a lane generator, and its draw (R173). -/
def genDraw (g : W64) : W64 × Nat :=
  let g := g ^^^ (g <<< 13)
  let g := g ^^^ (g >>> 7)
  let g := g ^^^ (g <<< 17)
  (g, fld g 48 16)

/-- The value that a generator takes in place of zero (R173, R240). -/
def genReset : W64 := 0x9E3779B97F4A7C15#64

/-- The mixing function of the seeding (R173). -/
def genMix (z : W64) : W64 :=
  let z := (z ^^^ (z >>> 30)) * 0xBF58476D1CE4E5B9#64
  let z := (z ^^^ (z >>> 27)) * 0x94D049BB133111EB#64
  z ^^^ (z >>> 31)

/-- The seed of lane `lane` of a logical core (R173). -/
def genSeed (stepSeed : W64) (mb layer pass core lane : Nat) : W64 :=
  let z := stepSeed ^^^ (BitVec.ofNat 64 mb <<< 32) ^^^ (BitVec.ofNat 64 layer <<< 16) ^^^ BitVec.ofNat 64 pass
  let g := genMix z ^^^ BitVec.ofNat 64 (core * 64 + lane)
  if g = 0 then genReset else g

end Sys2Proof.Machine
end

