-- ==== Sys2Proof/Machine/Regs.lean ====
section
/-! DEFINITION. The registers of BAR0 (R578, R579): the address of each, as its chapter's register map gives it, and the
table of their access codes (R14), application classes (R15), reset values (R588) and written bits (R13). A register
that the spec's maps give per context, ring, region, port or core takes that number. -/

namespace Sys2Proof.Machine

/-- The access codes of R14. -/
inductive Access where
  | ro
  | rw
  | w1c
  | wo
deriving DecidableEq, Repr

/-- The application classes of R15; a register of RO fields has none (R16). -/
inductive RegClass where
  | none
  | su
  | ap
  | lv
deriving DecidableEq, Repr

/-- One row of a register map: the windows that hold the register, its offset, how many consecutive words it has, its
access code and class, its reset value and the bits that a write reaches. -/
structure RegRow where
  base   : Nat
  stride : Nat
  count  : Nat
  off    : Nat
  words  : Nat
  acc    : Access
  cls    : RegClass
  reset  : Nat
  mask   : Nat
deriving DecidableEq, Repr

/-- R9. -/
def ID_VENDOR : Nat := 0x0 + 0x0
/-- R9. -/
def ID_PART : Nat := 0x0 + 0x4
/-- R9. -/
def ID_VARIANT : Nat := 0x0 + 0x8
/-- R9. -/
def ID_STEPPING : Nat := 0x0 + 0xC
/-- R59. -/
def REGION_ROWMAP (r : Nat) : Nat := 0x800000 + r * 0x1000 + 0x100
/-- R59. -/
def REGION_COLMAP (r i : Nat) : Nat := 0x800000 + r * 0x1000 + 0x104 + i * 4
/-- R59. -/
def REGION_MAPGEN (r : Nat) : Nat := 0x800000 + r * 0x1000 + 0x130
/-- R114. -/
def MOD_FABRIC_STATUS : Nat := 0x10000 + 0x200
/-- R114. -/
def MOD_EPOCH_LO : Nat := 0x10000 + 0x208
/-- R114. -/
def MOD_EPOCH_HI : Nat := 0x10000 + 0x20C
/-- R114. -/
def MOD_HELD_LO : Nat := 0x10000 + 0x210
/-- R114. -/
def MOD_HELD_HI : Nat := 0x10000 + 0x214
/-- R114. -/
def MOD_FABRIC_FAULT : Nat := 0x10000 + 0x218
/-- R114. -/
def REGION_HOLD_REQ (r : Nat) : Nat := 0x800000 + r * 0x1000 + 0x200
/-- R114. -/
def REGION_LATE (r : Nat) : Nat := 0x800000 + r * 0x1000 + 0x204
/-- R114. -/
def REGION_LINK_CORR (r : Nat) : Nat := 0x800000 + r * 0x1000 + 0x208
/-- R114. -/
def REGION_FAB_STATUS (r : Nat) : Nat := 0x800000 + r * 0x1000 + 0x20C
/-- R151. -/
def REGION_TILE_RETRY (r : Nat) : Nat := 0x800000 + r * 0x1000 + 0x300
/-- R151. -/
def REGION_TILE_FAIL (r : Nat) : Nat := 0x800000 + r * 0x1000 + 0x304
/-- R151. -/
def REGION_ACC_CORR (r : Nat) : Nat := 0x800000 + r * 0x1000 + 0x308
/-- R151. -/
def REGION_ARRAY_STATUS (r : Nat) : Nat := 0x800000 + r * 0x1000 + 0x30C
/-- R199. -/
def CTX_SCALE_ENTRIES (c : Nat) : Nat := 0x20000 + c * 0x400 + 0x200
/-- R199. -/
def CTX_SCALE_STATUS (c : Nat) : Nat := 0x20000 + c * 0x400 + 0x204
/-- R199. -/
def CTX_SCALE_SKIP (c : Nat) : Nat := 0x20000 + c * 0x400 + 0x208
/-- R199. -/
def CTX_SCALE_NONFINITE (c : Nat) : Nat := 0x20000 + c * 0x400 + 0x20C
/-- R199. -/
def CTX_SCALE_FLAGS (c : Nat) : Nat := 0x20000 + c * 0x400 + 0x210
/-- R241. -/
def REGION_LANE_RETRY (r : Nat) : Nat := 0x800000 + r * 0x1000 + 0x400
/-- R241. -/
def REGION_LANE_FAIL (r : Nat) : Nat := 0x800000 + r * 0x1000 + 0x404
/-- R241. -/
def REGION_LANE_CORR (r : Nat) : Nat := 0x800000 + r * 0x1000 + 0x408
/-- R241. -/
def REGION_LANE_STATUS (r : Nat) : Nat := 0x800000 + r * 0x1000 + 0x40C
/-- R264. -/
def REGION_SPARSE_OPS (r : Nat) : Nat := 0x800000 + r * 0x1000 + 0x500
/-- R264. -/
def REGION_EXPAND_RETRY (r : Nat) : Nat := 0x800000 + r * 0x1000 + 0x504
/-- R264. -/
def REGION_SPARSE_STATUS (r : Nat) : Nat := 0x800000 + r * 0x1000 + 0x508
/-- R307. -/
def CTX_QUOTA_CELLAR (c : Nat) : Nat := 0x20000 + c * 0x400 + 0x100
/-- R307. -/
def CTX_QUOTA_STOCK (c : Nat) : Nat := 0x20000 + c * 0x400 + 0x104
/-- R307. -/
def CTX_USE_CELLAR (c : Nat) : Nat := 0x20000 + c * 0x400 + 0x108
/-- R307. -/
def CTX_USE_STOCK (c : Nat) : Nat := 0x20000 + c * 0x400 + 0x10C
/-- R307. -/
def CTX_QUOTA_HITS (c : Nat) : Nat := 0x20000 + c * 0x400 + 0x110
/-- R307. -/
def CTX_TIER_ENDS (c : Nat) : Nat := 0x20000 + c * 0x400 + 0x114
/-- R307. -/
def CTX_MIG_CONTROL (c : Nat) : Nat := 0x20000 + c * 0x400 + 0x118
/-- R307. -/
def CTX_MEM_STATUS (c : Nat) : Nat := 0x20000 + c * 0x400 + 0x11C
/-- R308. -/
def QUOTA_CELLAR_TOTAL : Nat := 0x200000 + 0x0
/-- R308. -/
def QUOTA_STOCK_TOTAL : Nat := 0x200000 + 0x4
/-- R308. -/
def QUOTA_STOCK_SPARE : Nat := 0x200000 + 0x8
/-- R308. -/
def QUOTA_KEEP_RESERVE : Nat := 0x200000 + 0xC
/-- R308. -/
def QUOTA_CELLAR_GRANTED : Nat := 0x200000 + 0x10
/-- R308. -/
def QUOTA_STOCK_GRANTED : Nat := 0x200000 + 0x14
/-- R308. -/
def QUOTA_STOCK_RETIRED : Nat := 0x200000 + 0x18
/-- R308. -/
def QUOTA_LINK_RETRY : Nat := 0x200000 + 0x1C
/-- R308. -/
def QUOTA_MEM_STATUS : Nat := 0x200000 + 0x20
/-- R308. -/
def QUOTA_WIPE_STATUS : Nat := 0x200000 + 0x24
/-- R308. -/
def QUOTA_KEEP_CLIENTS : Nat := 0x200000 + 0x28
/-- R335. -/
def STREAM_CONTROL (c : Nat) : Nat := 0x300000 + c * 0x100 + 0x0
/-- R335. -/
def STREAM_REPAIR_DEADLINE (c : Nat) : Nat := 0x300000 + c * 0x100 + 0x4
/-- R335. -/
def STREAM_STATUS (c : Nat) : Nat := 0x300000 + c * 0x100 + 0x8
/-- R335. -/
def STREAM_STARVE_LO (c : Nat) : Nat := 0x300000 + c * 0x100 + 0xC
/-- R335. -/
def STREAM_STARVE_HI (c : Nat) : Nat := 0x300000 + c * 0x100 + 0x10
/-- R335. -/
def STREAM_LATE_GATES (c : Nat) : Nat := 0x300000 + c * 0x100 + 0x14
/-- R335. -/
def STREAM_REPAIRED (c : Nat) : Nat := 0x300000 + c * 0x100 + 0x18
/-- R335. -/
def STREAM_DROPPED (c : Nat) : Nat := 0x300000 + c * 0x100 + 0x1C
/-- R335. -/
def STREAM_LAST_CRATE (c : Nat) : Nat := 0x300000 + c * 0x100 + 0x20
/-- R335. -/
def STREAM_FLAGS (c : Nat) : Nat := 0x300000 + c * 0x100 + 0x24
/-- R369. -/
def STREAM_LEDGER_CONTROL (c : Nat) : Nat := 0x300000 + c * 0x100 + 0x80
/-- R369. -/
def STREAM_LEDGER_DIR (c : Nat) : Nat := 0x300000 + c * 0x100 + 0x84
/-- R369. -/
def STREAM_LEDGER_TILES (c : Nat) : Nat := 0x300000 + c * 0x100 + 0x88
/-- R369. -/
def STREAM_COMMIT_DEADLINE (c : Nat) : Nat := 0x300000 + c * 0x100 + 0x8C
/-- R369. -/
def STREAM_LEDGER_STATUS (c : Nat) : Nat := 0x300000 + c * 0x100 + 0x90
/-- R369. -/
def STREAM_STEP_COUNT (c : Nat) : Nat := 0x300000 + c * 0x100 + 0x94
/-- R369. -/
def STREAM_SKIPPED_TILES (c : Nat) : Nat := 0x300000 + c * 0x100 + 0x98
/-- R369. -/
def STREAM_PEER_SEALED (c : Nat) : Nat := 0x300000 + c * 0x100 + 0x9C
/-- R369. -/
def STREAM_PEER_LEDGER (c : Nat) : Nat := 0x300000 + c * 0x100 + 0xA0
/-- R369. -/
def STREAM_LEDGER_FLAGS (c : Nat) : Nat := 0x300000 + c * 0x100 + 0xA4
/-- R396. -/
def CTX_PIPE_STATUS (c : Nat) : Nat := 0x20000 + c * 0x400 + 0x300
/-- R396. -/
def CTX_PIPE_DEADLINE (c : Nat) : Nat := 0x20000 + c * 0x400 + 0x304
/-- R396. -/
def CTX_HANDOFF_WAIT (c : Nat) : Nat := 0x20000 + c * 0x400 + 0x308
/-- R396. -/
def CTX_HANDOFF_ENDED (c : Nat) : Nat := 0x20000 + c * 0x400 + 0x30C
/-- R396. -/
def CTX_SWATCH_STATUS (c : Nat) : Nat := 0x20000 + c * 0x400 + 0x310
/-- R396. -/
def CTX_SWATCH_STEP (c : Nat) : Nat := 0x20000 + c * 0x400 + 0x314
/-- R396. -/
def CTX_SWATCH_SPILL (c : Nat) : Nat := 0x20000 + c * 0x400 + 0x318
/-- R396. -/
def CTX_PIPE_FLAGS (c : Nat) : Nat := 0x20000 + c * 0x400 + 0x31C
/-- R430. -/
def HEALTH_RISK : Nat := 0x400000 + 0x0
/-- R430. -/
def HEALTH_CONTROL : Nat := 0x400000 + 0x4
/-- R430. -/
def HEALTH_LIMIT_CORR : Nat := 0x400000 + 0x8
/-- R430. -/
def HEALTH_LIMIT_CHECK : Nat := 0x400000 + 0xC
/-- R430. -/
def HEALTH_LIMIT_RETRAIN : Nat := 0x400000 + 0x10
/-- R430. -/
def HEALTH_LIMIT_HOLD : Nat := 0x400000 + 0x14
/-- R430. -/
def HEALTH_REGION_RISK (i : Nat) : Nat := 0x400000 + 0x20 + i * 4
/-- R430. -/
def HEALTH_FAULTS_TRANSIENT : Nat := 0x400000 + 0x44
/-- R430. -/
def HEALTH_FAULTS_LASTING : Nat := 0x400000 + 0x48
/-- R430. -/
def HEALTH_DARK_LO : Nat := 0x400000 + 0x50
/-- R430. -/
def HEALTH_DARK_HI : Nat := 0x400000 + 0x54
/-- R430. -/
def HEALTH_FOREMAN : Nat := 0x400000 + 0x58
/-- R430. -/
def HEALTH_FLAGS : Nat := 0x400000 + 0x5C
/-- R431. -/
def HEALTH_SEC_CONTROL (c : Nat) : Nat := 0x401000 + c * 0x40 + 0x0
/-- R431. -/
def HEALTH_SEC_PEER (c : Nat) : Nat := 0x401000 + c * 0x40 + 0x4
/-- R431. -/
def HEALTH_SEC_ADDR_LO (c : Nat) : Nat := 0x401000 + c * 0x40 + 0x8
/-- R431. -/
def HEALTH_SEC_ADDR_HI (c : Nat) : Nat := 0x401000 + c * 0x40 + 0xC
/-- R431. -/
def HEALTH_SEC_STATUS (c : Nat) : Nat := 0x401000 + c * 0x40 + 0x10
/-- R431. -/
def HEALTH_SEC_STEP (c : Nat) : Nat := 0x401000 + c * 0x40 + 0x14
/-- R431. -/
def HEALTH_SEC_COUNT (c : Nat) : Nat := 0x401000 + c * 0x40 + 0x18
/-- R431. -/
def HEALTH_SEC_FLAGS (c : Nat) : Nat := 0x401000 + c * 0x40 + 0x1C
/-- R431. -/
def HEALTH_CTX_SCHED (c : Nat) : Nat := 0x401000 + c * 0x40 + 0x20
/-- R471. -/
def MOD_CONTROL : Nat := 0x10000 + 0x0
/-- R471. -/
def MOD_STATUS : Nat := 0x10000 + 0x4
/-- R471. -/
def MOD_CONFLICT : Nat := 0x10000 + 0x8
/-- R471. -/
def MOD_DOORBELL_DROPS : Nat := 0x10000 + 0xC
/-- R471. -/
def MOD_HOST_FLAGS : Nat := 0x10000 + 0x10
/-- R472. -/
def CTX_CONTROL (c : Nat) : Nat := 0x20000 + c * 0x400 + 0x0
/-- R472. -/
def CTX_STATUS (c : Nat) : Nat := 0x20000 + c * 0x400 + 0x4
/-- R472. -/
def CTX_REGIONS_LO (c : Nat) : Nat := 0x20000 + c * 0x400 + 0x8
/-- R472. -/
def CTX_REGIONS_HI (c : Nat) : Nat := 0x20000 + c * 0x400 + 0xC
/-- R472. -/
def CTX_QUOTA_RINGS (c : Nat) : Nat := 0x20000 + c * 0x400 + 0x10
/-- R472. -/
def CTX_RING_USE (c : Nat) : Nat := 0x20000 + c * 0x400 + 0x14
/-- R472. -/
def CTX_EVENT_RING (c : Nat) : Nat := 0x20000 + c * 0x400 + 0x18
/-- R472. -/
def CTX_DOORBELL_DROPS (c : Nat) : Nat := 0x20000 + c * 0x400 + 0x1C
/-- R472. -/
def CTX_EVENT_LOST (c : Nat) : Nat := 0x20000 + c * 0x400 + 0x20
/-- R472. -/
def CTX_ABORT (c : Nat) : Nat := 0x20000 + c * 0x400 + 0x24
/-- R472. -/
def CTX_HOST_FLAGS (c : Nat) : Nat := 0x20000 + c * 0x400 + 0x28
/-- R473. -/
def RING_BASE_LO (n : Nat) : Nat := 0x100000 + n * 0x40 + 0x0
/-- R473. -/
def RING_BASE_HI (n : Nat) : Nat := 0x100000 + n * 0x40 + 0x4
/-- R473. -/
def RING_CONFIG (n : Nat) : Nat := 0x100000 + n * 0x40 + 0x8
/-- R473. -/
def RING_IRQ (n : Nat) : Nat := 0x100000 + n * 0x40 + 0xC
/-- R473. -/
def RING_ENABLE (n : Nat) : Nat := 0x100000 + n * 0x40 + 0x10
/-- R473. -/
def RING_PROD (n : Nat) : Nat := 0x100000 + n * 0x40 + 0x14
/-- R473. -/
def RING_CONS (n : Nat) : Nat := 0x100000 + n * 0x40 + 0x18
/-- R473. -/
def RING_STATUS (n : Nat) : Nat := 0x100000 + n * 0x40 + 0x1C
/-- R473. -/
def RING_DROPS (n : Nat) : Nat := 0x100000 + n * 0x40 + 0x20
/-- R503. -/
def CARAVAN_MODULE_ID : Nat := 0x600000 + 0x0
/-- R503. -/
def CARAVAN_TOPO : Nat := 0x600000 + 0x4
/-- R503. -/
def CARAVAN_ETHERTYPE : Nat := 0x600000 + 0x8
/-- R503. -/
def CARAVAN_VLAN : Nat := 0x600000 + 0xC
/-- R503. -/
def CARAVAN_PCP : Nat := 0x600000 + 0x10
/-- R503. -/
def CARAVAN_RETRY_TIME : Nat := 0x600000 + 0x14
/-- R503. -/
def CARAVAN_RETRY_COUNT : Nat := 0x600000 + 0x18
/-- R503. -/
def CARAVAN_ROUTE_INDEX : Nat := 0x600000 + 0x1C
/-- R503. -/
def CARAVAN_ROUTE_DATA : Nat := 0x600000 + 0x20
/-- R503. -/
def CARAVAN_DISCARDS : Nat := 0x600000 + 0x24
/-- R503. -/
def CARAVAN_FLAGS : Nat := 0x600000 + 0x28
/-- R503. -/
def CARAVAN_PORT_CONTROL (p : Nat) : Nat := 0x600100 + p * 0x40 + 0x0
/-- R503. -/
def CARAVAN_PORT_STATUS (p : Nat) : Nat := 0x600100 + p * 0x40 + 0x4
/-- R503. -/
def CARAVAN_PORT_RETRAINS (p : Nat) : Nat := 0x600100 + p * 0x40 + 0x8
/-- R503. -/
def CARAVAN_PORT_RESENDS (p : Nat) : Nat := 0x600100 + p * 0x40 + 0xC
/-- R503. -/
def CARAVAN_PORT_PREEMPTS (p : Nat) : Nat := 0x600100 + p * 0x40 + 0x10
/-- R503. -/
def CARAVAN_CTX_JOB (c : Nat) : Nat := 0x601000 + c * 0x80 + 0x0
/-- R503. -/
def CARAVAN_CTX_SHARE (c : Nat) : Nat := 0x601000 + c * 0x80 + 0x4
/-- R503. -/
def CARAVAN_CTX_LIST (c : Nat) : Nat := 0x601000 + c * 0x80 + 0x8
/-- R503. -/
def CARAVAN_CTX_COUNT (c : Nat) : Nat := 0x601000 + c * 0x80 + 0xC
/-- R503. -/
def CARAVAN_CTX_REPLICA (c i : Nat) : Nat := 0x601000 + c * 0x80 + 0x10 + i * 4
/-- R503. -/
def CARAVAN_CTX_COMMIT (c : Nat) : Nat := 0x601000 + c * 0x80 + 0x30
/-- R528. -/
def POWER_STATUS : Nat := 0x500000 + 0x0
/-- R528. -/
def POWER_CAP : Nat := 0x500000 + 0x4
/-- R528. -/
def POWER_INPUT : Nat := 0x500000 + 0x8
/-- R528. -/
def POWER_EFF_CAP : Nat := 0x500000 + 0xC
/-- R528. -/
def POWER_COOL_A : Nat := 0x500000 + 0x10
/-- R528. -/
def POWER_COOL_B : Nat := 0x500000 + 0x14
/-- R528. -/
def POWER_CAP_STEPS : Nat := 0x500000 + 0x18
/-- R528. -/
def POWER_RAMP_DEFERS : Nat := 0x500000 + 0x1C
/-- R528. -/
def POWER_FLAGS : Nat := 0x500000 + 0x20
/-- R529. -/
def REGION_POWER (r : Nat) : Nat := 0x800000 + r * 0x1000 + 0x700
/-- R529. -/
def REGION_CLOCK_REQ (r : Nat) : Nat := 0x800000 + r * 0x1000 + 0x704
/-- R529. -/
def REGION_PHASE_LO (r : Nat) : Nat := 0x800000 + r * 0x1000 + 0x708
/-- R529. -/
def REGION_PHASE_HI (r : Nat) : Nat := 0x800000 + r * 0x1000 + 0x70C
/-- R529. -/
def REGION_TEMP (r : Nat) : Nat := 0x800000 + r * 0x1000 + 0x710
/-- R529. -/
def REGION_CURRENT (r : Nat) : Nat := 0x800000 + r * 0x1000 + 0x714
/-- R529. -/
def REGION_POWER_FLAGS (r : Nat) : Nat := 0x800000 + r * 0x1000 + 0x718
/-- R548. -/
def MOD_BRINGUP_STATUS : Nat := 0x10000 + 0x300
/-- R548. -/
def MOD_BRINGUP_CONTROL : Nat := 0x10000 + 0x304
/-- R548. -/
def MOD_BRINGUP_TIME : Nat := 0x10000 + 0x308
/-- R548. -/
def MOD_LIFECYCLE : Nat := 0x10000 + 0x30C
/-- R548. -/
def MOD_INVENTORY : Nat := 0x10000 + 0x310
/-- R548. -/
def MOD_MGMT_FLAGS : Nat := 0x10000 + 0x314
/-- R576. -/
def CORE_CYCLE_LO (k : Nat) : Nat := 0x1000000 + k * 0x100 + 0x0
/-- R576. -/
def CORE_CYCLE_HI (k : Nat) : Nat := 0x1000000 + k * 0x100 + 0x4
/-- R576. -/
def CORE_PERF_STATUS (k : Nat) : Nat := 0x1000000 + k * 0x100 + 0x8
/-- R576. -/
def CORE_SAMPLE_SEQ (k : Nat) : Nat := 0x1000000 + k * 0x100 + 0xC
/-- R576. -/
def CORE_PMC (k i : Nat) : Nat := 0x1000000 + k * 0x100 + 0x10 + i * 4
/-- R576. -/
def CORE_PMC_CFG (k i : Nat) : Nat := 0x1000000 + k * 0x100 + 0x30 + i * 4
/-- R577. -/
def PERF_CONTROL : Nat := 0x700000 + 0x0
/-- R577. -/
def PERF_STATUS : Nat := 0x700000 + 0x4
/-- R577. -/
def PERF_CTX_SAMPLE (c : Nat) : Nat := 0x700100 + c * 0x40 + 0x0
/-- R577. -/
def PERF_CTX_SEED (c : Nat) : Nat := 0x700100 + c * 0x40 + 0x4
/-- R577. -/
def PERF_CTX_SAMPLE_BASE (c : Nat) : Nat := 0x700100 + c * 0x40 + 0x8
/-- R577. -/
def PERF_CTX_DROPS (c : Nat) : Nat := 0x700100 + c * 0x40 + 0xC
/-- R577. -/
def PERF_CTX_FLAGS (c : Nat) : Nat := 0x700100 + c * 0x40 + 0x10
/-- R580. -/
def REGION_INFO (r : Nat) : Nat := 0x800000 + r * 0x1000 + 0x0
/-- R581. -/
def MOD_STICKY : Nat := 0x10000 + 0x20
/-- R581. -/
def MOD_STICKY_REGION_LO : Nat := 0x10000 + 0x24
/-- R581. -/
def MOD_STICKY_REGION_HI : Nat := 0x10000 + 0x28
/-- R581. -/
def MOD_STICKY_CTX_LO : Nat := 0x10000 + 0x2C
/-- R581. -/
def MOD_STICKY_CTX_HI : Nat := 0x10000 + 0x30
/-- R309. -/
def REGION_BENCH_CORR (r : Nat) : Nat := 0x800000 + r * 0x1000 + 0x600
/-- R309. -/
def REGION_CELLAR_CORR (r : Nat) : Nat := 0x800000 + r * 0x1000 + 0x604
/-- R549. -/
def REGION_TEST (r : Nat) : Nat := 0x800000 + r * 0x1000 + 0x800
/-- R549. -/
def REGION_TEST_TIME (r : Nat) : Nat := 0x800000 + r * 0x1000 + 0x804

/-- The register maps of the ID and MOD blocks. -/
def idModRegRows : List RegRow := [
  ⟨0x0, 0x10000, 1, 0x0, 1, .ro, .none, 0x5457, 0x0⟩,
  ⟨0x0, 0x10000, 1, 0x4, 1, .ro, .none, 0xA640, 0x0⟩,
  ⟨0x0, 0x10000, 1, 0x8, 1, .ro, .none, 0x1030, 0x0⟩,
  ⟨0x0, 0x10000, 1, 0xC, 1, .ro, .none, 0x110, 0x0⟩,
  ⟨0x10000, 0x10000, 1, 0x200, 1, .ro, .none, 0x0, 0x0⟩,
  ⟨0x10000, 0x10000, 1, 0x208, 1, .ro, .none, 0x0, 0x0⟩,
  ⟨0x10000, 0x10000, 1, 0x20C, 1, .ro, .none, 0x0, 0x0⟩,
  ⟨0x10000, 0x10000, 1, 0x210, 1, .ro, .none, 0x0, 0x0⟩,
  ⟨0x10000, 0x10000, 1, 0x214, 1, .ro, .none, 0x0, 0x0⟩,
  ⟨0x10000, 0x10000, 1, 0x218, 1, .w1c, .lv, 0x0, 0x1F⟩,
  ⟨0x10000, 0x10000, 1, 0x0, 1, .rw, .lv, 0x0, 0x7⟩,
  ⟨0x10000, 0x10000, 1, 0x4, 1, .ro, .none, 0x0, 0x0⟩,
  ⟨0x10000, 0x10000, 1, 0x8, 1, .ro, .none, 0x0, 0x0⟩,
  ⟨0x10000, 0x10000, 1, 0xC, 1, .ro, .none, 0x0, 0x0⟩,
  ⟨0x10000, 0x10000, 1, 0x10, 1, .w1c, .lv, 0x0, 0x7F⟩,
  ⟨0x10000, 0x10000, 1, 0x300, 1, .ro, .none, 0x0, 0x0⟩,
  ⟨0x10000, 0x10000, 1, 0x304, 1, .rw, .lv, 0x0, 0x1⟩,
  ⟨0x10000, 0x10000, 1, 0x308, 1, .ro, .none, 0x0, 0x0⟩,
  ⟨0x10000, 0x10000, 1, 0x30C, 1, .ro, .none, 0x10001, 0x0⟩,
  ⟨0x10000, 0x10000, 1, 0x310, 1, .ro, .none, 0x1, 0x0⟩,
  ⟨0x10000, 0x10000, 1, 0x314, 1, .w1c, .lv, 0x0, 0x7F⟩,
  ⟨0x10000, 0x10000, 1, 0x20, 1, .ro, .none, 0x0, 0x0⟩,
  ⟨0x10000, 0x10000, 1, 0x24, 1, .ro, .none, 0x0, 0x0⟩,
  ⟨0x10000, 0x10000, 1, 0x28, 1, .ro, .none, 0x0, 0x0⟩,
  ⟨0x10000, 0x10000, 1, 0x2C, 1, .ro, .none, 0x0, 0x0⟩,
  ⟨0x10000, 0x10000, 1, 0x30, 1, .ro, .none, 0x0, 0x0⟩]

/-- The register maps of the CTX block. -/
def ctxRegRows : List RegRow := [
  ⟨0x20000, 0x400, 64, 0x200, 1, .ro, .none, 0x0, 0x0⟩,
  ⟨0x20000, 0x400, 64, 0x204, 1, .ro, .none, 0x0, 0x0⟩,
  ⟨0x20000, 0x400, 64, 0x208, 1, .ro, .none, 0x0, 0x0⟩,
  ⟨0x20000, 0x400, 64, 0x20C, 1, .ro, .none, 0x0, 0x0⟩,
  ⟨0x20000, 0x400, 64, 0x210, 1, .w1c, .lv, 0x0, 0x7F⟩,
  ⟨0x20000, 0x400, 64, 0x100, 1, .rw, .su, 0x0, 0xFFFFFFF⟩,
  ⟨0x20000, 0x400, 64, 0x104, 1, .rw, .su, 0x0, 0xFFFFFFF⟩,
  ⟨0x20000, 0x400, 64, 0x108, 1, .ro, .none, 0x0, 0x0⟩,
  ⟨0x20000, 0x400, 64, 0x10C, 1, .ro, .none, 0x0, 0x0⟩,
  ⟨0x20000, 0x400, 64, 0x110, 1, .ro, .none, 0x0, 0x0⟩,
  ⟨0x20000, 0x400, 64, 0x114, 1, .ro, .none, 0x0, 0x0⟩,
  ⟨0x20000, 0x400, 64, 0x118, 1, .rw, .ap, 0x104, 0x10F⟩,
  ⟨0x20000, 0x400, 64, 0x11C, 1, .w1c, .lv, 0x0, 0xFF⟩,
  ⟨0x20000, 0x400, 64, 0x300, 1, .ro, .none, 0x0, 0x0⟩,
  ⟨0x20000, 0x400, 64, 0x304, 1, .rw, .ap, 0x7D0, 0xFFFFFFFF⟩,
  ⟨0x20000, 0x400, 64, 0x308, 1, .ro, .none, 0x0, 0x0⟩,
  ⟨0x20000, 0x400, 64, 0x30C, 1, .ro, .none, 0x0, 0x0⟩,
  ⟨0x20000, 0x400, 64, 0x310, 1, .ro, .none, 0x0, 0x0⟩,
  ⟨0x20000, 0x400, 64, 0x314, 1, .ro, .none, 0x0, 0x0⟩,
  ⟨0x20000, 0x400, 64, 0x318, 1, .ro, .none, 0x0, 0x0⟩,
  ⟨0x20000, 0x400, 64, 0x31C, 1, .w1c, .lv, 0x0, 0x3F⟩,
  ⟨0x20000, 0x400, 64, 0x0, 1, .rw, .su, 0x0, 0x3⟩,
  ⟨0x20000, 0x400, 64, 0x4, 1, .ro, .none, 0x0, 0x0⟩,
  ⟨0x20000, 0x400, 64, 0x8, 1, .ro, .none, 0x0, 0x0⟩,
  ⟨0x20000, 0x400, 64, 0xC, 1, .ro, .none, 0x0, 0x0⟩,
  ⟨0x20000, 0x400, 64, 0x10, 1, .rw, .su, 0x0, 0x7FFF⟩,
  ⟨0x20000, 0x400, 64, 0x14, 1, .ro, .none, 0x0, 0x0⟩,
  ⟨0x20000, 0x400, 64, 0x18, 1, .rw, .ap, 0x0, 0x80003FFF⟩,
  ⟨0x20000, 0x400, 64, 0x1C, 1, .ro, .none, 0x0, 0x0⟩,
  ⟨0x20000, 0x400, 64, 0x20, 1, .ro, .none, 0x0, 0x0⟩,
  ⟨0x20000, 0x400, 64, 0x24, 1, .wo, .lv, 0x0, 0x0⟩,
  ⟨0x20000, 0x400, 64, 0x28, 1, .w1c, .lv, 0x0, 0x3F⟩]

/-- The register maps of the RING block. -/
def ringRegRows : List RegRow := [
  ⟨0x100000, 0x40, 16384, 0x0, 1, .rw, .su, 0x0, 0xFFFFF000⟩,
  ⟨0x100000, 0x40, 16384, 0x4, 1, .rw, .su, 0x0, 0xFFFFFFFF⟩,
  ⟨0x100000, 0x40, 16384, 0x8, 1, .rw, .su, 0x0, 0x3FFF3F7F⟩,
  ⟨0x100000, 0x40, 16384, 0xC, 1, .rw, .lv, 0x0, 0xFFFFFFFF⟩,
  ⟨0x100000, 0x40, 16384, 0x10, 1, .rw, .lv, 0x0, 0x1⟩,
  ⟨0x100000, 0x40, 16384, 0x14, 1, .ro, .none, 0x0, 0x0⟩,
  ⟨0x100000, 0x40, 16384, 0x18, 1, .ro, .none, 0x0, 0x0⟩,
  ⟨0x100000, 0x40, 16384, 0x1C, 1, .ro, .none, 0x0, 0x0⟩,
  ⟨0x100000, 0x40, 16384, 0x20, 1, .ro, .none, 0x0, 0x0⟩]

/-- The register maps of the QUOTA block. -/
def quotaRegRows : List RegRow := [
  ⟨0x200000, 0x10000, 1, 0x0, 1, .ro, .none, 0x9FD8000, 0x0⟩,
  ⟨0x200000, 0x10000, 1, 0x4, 1, .ro, .none, 0x8FF0000, 0x0⟩,
  ⟨0x200000, 0x10000, 1, 0x8, 1, .rw, .su, 0x10000, 0xFFFFFFFF⟩,
  ⟨0x200000, 0x10000, 1, 0xC, 1, .rw, .su, 0x0, 0xFFFFFFFF⟩,
  ⟨0x200000, 0x10000, 1, 0x10, 1, .ro, .none, 0x0, 0x0⟩,
  ⟨0x200000, 0x10000, 1, 0x14, 1, .ro, .none, 0x0, 0x0⟩,
  ⟨0x200000, 0x10000, 1, 0x18, 1, .ro, .none, 0x0, 0x0⟩,
  ⟨0x200000, 0x10000, 1, 0x1C, 1, .ro, .none, 0x0, 0x0⟩,
  ⟨0x200000, 0x10000, 1, 0x20, 1, .w1c, .lv, 0x0, 0x3F⟩,
  ⟨0x200000, 0x10000, 1, 0x24, 1, .ro, .none, 0x7, 0x0⟩,
  ⟨0x200000, 0x10000, 1, 0x28, 1, .rw, .su, 0x1, 0xFFFFFFFF⟩]

/-- The register maps of the STREAM block. -/
def streamRegRows : List RegRow := [
  ⟨0x300000, 0x100, 64, 0x0, 1, .rw, .ap, 0x3, 0x3⟩,
  ⟨0x300000, 0x100, 64, 0x4, 1, .rw, .ap, 0x7D0, 0xFFFFFFFF⟩,
  ⟨0x300000, 0x100, 64, 0x8, 1, .ro, .none, 0x0, 0x0⟩,
  ⟨0x300000, 0x100, 64, 0xC, 1, .ro, .none, 0x0, 0x0⟩,
  ⟨0x300000, 0x100, 64, 0x10, 1, .ro, .none, 0x0, 0x0⟩,
  ⟨0x300000, 0x100, 64, 0x14, 1, .ro, .none, 0x0, 0x0⟩,
  ⟨0x300000, 0x100, 64, 0x18, 1, .ro, .none, 0x0, 0x0⟩,
  ⟨0x300000, 0x100, 64, 0x1C, 1, .ro, .none, 0x0, 0x0⟩,
  ⟨0x300000, 0x100, 64, 0x20, 1, .ro, .none, 0x0, 0x0⟩,
  ⟨0x300000, 0x100, 64, 0x24, 1, .w1c, .lv, 0x0, 0x3F⟩,
  ⟨0x300000, 0x100, 64, 0x80, 1, .rw, .su, 0x0, 0x1⟩,
  ⟨0x300000, 0x100, 64, 0x84, 1, .rw, .su, 0x0, 0xFFFFFFFF⟩,
  ⟨0x300000, 0x100, 64, 0x88, 1, .rw, .su, 0x0, 0x1FFFFFF⟩,
  ⟨0x300000, 0x100, 64, 0x8C, 1, .rw, .ap, 0x2710, 0xFFFFFFFF⟩,
  ⟨0x300000, 0x100, 64, 0x90, 1, .ro, .none, 0x0, 0x0⟩,
  ⟨0x300000, 0x100, 64, 0x94, 1, .ro, .none, 0x0, 0x0⟩,
  ⟨0x300000, 0x100, 64, 0x98, 1, .ro, .none, 0x0, 0x0⟩,
  ⟨0x300000, 0x100, 64, 0x9C, 1, .ro, .none, 0x0, 0x0⟩,
  ⟨0x300000, 0x100, 64, 0xA0, 1, .ro, .none, 0x0, 0x0⟩,
  ⟨0x300000, 0x100, 64, 0xA4, 1, .w1c, .lv, 0x0, 0xFF⟩]

/-- The register maps of the HEALTH block. -/
def healthRegRows : List RegRow := [
  ⟨0x400000, 0x1000, 1, 0x0, 1, .ro, .none, 0x0, 0x0⟩,
  ⟨0x400000, 0x1000, 1, 0x4, 1, .rw, .ap, 0x15, 0x17⟩,
  ⟨0x400000, 0x1000, 1, 0x8, 1, .rw, .ap, 0x3E8, 0xFFFFFFFF⟩,
  ⟨0x400000, 0x1000, 1, 0xC, 1, .rw, .ap, 0x10, 0xFFFFFFFF⟩,
  ⟨0x400000, 0x1000, 1, 0x10, 1, .rw, .ap, 0x2, 0xFFFFFFFF⟩,
  ⟨0x400000, 0x1000, 1, 0x14, 1, .rw, .ap, 0x100, 0xFFFFFFFF⟩,
  ⟨0x400000, 0x1000, 1, 0x20, 8, .ro, .none, 0x0, 0x0⟩,
  ⟨0x400000, 0x1000, 1, 0x44, 1, .ro, .none, 0x0, 0x0⟩,
  ⟨0x400000, 0x1000, 1, 0x48, 1, .ro, .none, 0x0, 0x0⟩,
  ⟨0x400000, 0x1000, 1, 0x50, 1, .ro, .none, 0x0, 0x0⟩,
  ⟨0x400000, 0x1000, 1, 0x54, 1, .ro, .none, 0x0, 0x0⟩,
  ⟨0x400000, 0x1000, 1, 0x58, 1, .ro, .none, 0x1, 0x0⟩,
  ⟨0x400000, 0x1000, 1, 0x5C, 1, .w1c, .lv, 0x0, 0x3F⟩,
  ⟨0x401000, 0x40, 64, 0x0, 1, .rw, .ap, 0x403E8, 0x7FFFF⟩,
  ⟨0x401000, 0x40, 64, 0x4, 1, .rw, .ap, 0x0, 0x1FFFF⟩,
  ⟨0x401000, 0x40, 64, 0x8, 1, .rw, .ap, 0x0, 0xFFFFF000⟩,
  ⟨0x401000, 0x40, 64, 0xC, 1, .rw, .ap, 0x0, 0xFFFFFFFF⟩,
  ⟨0x401000, 0x40, 64, 0x10, 1, .ro, .none, 0x0, 0x0⟩,
  ⟨0x401000, 0x40, 64, 0x14, 1, .ro, .none, 0x0, 0x0⟩,
  ⟨0x401000, 0x40, 64, 0x18, 1, .ro, .none, 0x0, 0x0⟩,
  ⟨0x401000, 0x40, 64, 0x1C, 1, .w1c, .lv, 0x0, 0x1F⟩,
  ⟨0x401000, 0x40, 64, 0x20, 1, .ro, .none, 0x0, 0x0⟩]

/-- The register maps of the POWER block. -/
def powerRegRows : List RegRow := [
  ⟨0x500000, 0x10000, 1, 0x0, 1, .ro, .none, 0x41B, 0x0⟩,
  ⟨0x500000, 0x10000, 1, 0x4, 1, .rw, .lv, 0x7D00, 0xFFFF⟩,
  ⟨0x500000, 0x10000, 1, 0x8, 1, .ro, .none, 0x0, 0x0⟩,
  ⟨0x500000, 0x10000, 1, 0xC, 1, .ro, .none, 0x7D00, 0x0⟩,
  ⟨0x500000, 0x10000, 1, 0x10, 1, .ro, .none, 0x0, 0x0⟩,
  ⟨0x500000, 0x10000, 1, 0x14, 1, .ro, .none, 0x0, 0x0⟩,
  ⟨0x500000, 0x10000, 1, 0x18, 1, .ro, .none, 0x0, 0x0⟩,
  ⟨0x500000, 0x10000, 1, 0x1C, 1, .ro, .none, 0x0, 0x0⟩,
  ⟨0x500000, 0x10000, 1, 0x20, 1, .w1c, .lv, 0x0, 0xFFF⟩]

/-- The register maps of the CARAVAN block. -/
def caravanRegRows : List RegRow := [
  ⟨0x600000, 0x100, 1, 0x0, 1, .rw, .su, 0x0, 0x8001FFFF⟩,
  ⟨0x600000, 0x100, 1, 0x4, 1, .rw, .su, 0x1, 0x1⟩,
  ⟨0x600000, 0x100, 1, 0x8, 1, .rw, .su, 0x88B6, 0xFFFF⟩,
  ⟨0x600000, 0x100, 1, 0xC, 1, .rw, .su, 0x0, 0xFFF⟩,
  ⟨0x600000, 0x100, 1, 0x10, 1, .rw, .su, 0x1456, 0x7777⟩,
  ⟨0x600000, 0x100, 1, 0x14, 1, .rw, .ap, 0x32, 0xFFFFFFFF⟩,
  ⟨0x600000, 0x100, 1, 0x18, 1, .rw, .ap, 0x8, 0xFFFFFFFF⟩,
  ⟨0x600000, 0x100, 1, 0x1C, 1, .rw, .lv, 0x0, 0x1FFFF⟩,
  ⟨0x600000, 0x100, 1, 0x20, 1, .rw, .lv, 0x0, 0xFFFF⟩,
  ⟨0x600000, 0x100, 1, 0x24, 1, .ro, .none, 0x0, 0x0⟩,
  ⟨0x600000, 0x100, 1, 0x28, 1, .w1c, .lv, 0x0, 0x3F⟩,
  ⟨0x600100, 0x40, 16, 0x0, 1, .rw, .lv, 0x31, 0x1F1⟩,
  ⟨0x600100, 0x40, 16, 0x4, 1, .ro, .none, 0x0, 0x0⟩,
  ⟨0x600100, 0x40, 16, 0x8, 1, .ro, .none, 0x0, 0x0⟩,
  ⟨0x600100, 0x40, 16, 0xC, 1, .ro, .none, 0x0, 0x0⟩,
  ⟨0x600100, 0x40, 16, 0x10, 1, .ro, .none, 0x0, 0x0⟩,
  ⟨0x601000, 0x80, 64, 0x0, 1, .rw, .su, 0x0, 0xFFFF⟩,
  ⟨0x601000, 0x80, 64, 0x4, 1, .rw, .su, 0x0, 0x7F⟩,
  ⟨0x601000, 0x80, 64, 0x8, 1, .rw, .su, 0x0, 0xFFFFFFFF⟩,
  ⟨0x601000, 0x80, 64, 0xC, 1, .rw, .su, 0x0, 0x3FFFF⟩,
  ⟨0x601000, 0x80, 64, 0x10, 8, .rw, .ap, 0x0, 0x8001FFFF⟩,
  ⟨0x601000, 0x80, 64, 0x30, 1, .ro, .none, 0x0, 0x0⟩]

/-- The register maps of the PERF block. -/
def perfRegRows : List RegRow := [
  ⟨0x700000, 0x100, 1, 0x0, 1, .rw, .lv, 0x0, 0x1⟩,
  ⟨0x700000, 0x100, 1, 0x4, 1, .ro, .none, 0x0, 0x0⟩,
  ⟨0x700100, 0x40, 64, 0x0, 1, .rw, .ap, 0x1000, 0xF1F01⟩,
  ⟨0x700100, 0x40, 64, 0x4, 1, .rw, .ap, 0x0, 0xFFFFFFFF⟩,
  ⟨0x700100, 0x40, 64, 0x8, 1, .rw, .su, 0x0, 0xFFFFFFFF⟩,
  ⟨0x700100, 0x40, 64, 0xC, 1, .ro, .none, 0x0, 0x0⟩,
  ⟨0x700100, 0x40, 64, 0x10, 1, .w1c, .lv, 0x0, 0xF⟩]

/-- The register maps of the REGION block. -/
def regionRegRows : List RegRow := [
  ⟨0x800000, 0x1000, 64, 0x100, 1, .ro, .none, 0xA, 0x0⟩,
  ⟨0x800000, 0x1000, 64, 0x104, 11, .ro, .none, 0xC, 0x0⟩,
  ⟨0x800000, 0x1000, 64, 0x130, 1, .ro, .none, 0x0, 0x0⟩,
  ⟨0x800000, 0x1000, 64, 0x200, 1, .ro, .none, 0x0, 0x0⟩,
  ⟨0x800000, 0x1000, 64, 0x204, 1, .ro, .none, 0x0, 0x0⟩,
  ⟨0x800000, 0x1000, 64, 0x208, 1, .ro, .none, 0x0, 0x0⟩,
  ⟨0x800000, 0x1000, 64, 0x20C, 1, .w1c, .lv, 0x0, 0xF⟩,
  ⟨0x800000, 0x1000, 64, 0x300, 1, .ro, .none, 0x0, 0x0⟩,
  ⟨0x800000, 0x1000, 64, 0x304, 1, .ro, .none, 0x0, 0x0⟩,
  ⟨0x800000, 0x1000, 64, 0x308, 1, .ro, .none, 0x0, 0x0⟩,
  ⟨0x800000, 0x1000, 64, 0x30C, 1, .w1c, .lv, 0x0, 0x3F⟩,
  ⟨0x800000, 0x1000, 64, 0x400, 1, .ro, .none, 0x0, 0x0⟩,
  ⟨0x800000, 0x1000, 64, 0x404, 1, .ro, .none, 0x0, 0x0⟩,
  ⟨0x800000, 0x1000, 64, 0x408, 1, .ro, .none, 0x0, 0x0⟩,
  ⟨0x800000, 0x1000, 64, 0x40C, 1, .w1c, .lv, 0x0, 0xFFF⟩,
  ⟨0x800000, 0x1000, 64, 0x500, 1, .ro, .none, 0x0, 0x0⟩,
  ⟨0x800000, 0x1000, 64, 0x504, 1, .ro, .none, 0x0, 0x0⟩,
  ⟨0x800000, 0x1000, 64, 0x508, 1, .w1c, .lv, 0x0, 0xF⟩,
  ⟨0x800000, 0x1000, 64, 0x700, 1, .ro, .none, 0x3, 0x0⟩,
  ⟨0x800000, 0x1000, 64, 0x704, 1, .rw, .ap, 0x10, 0x1F⟩,
  ⟨0x800000, 0x1000, 64, 0x708, 1, .ro, .none, 0x0, 0x0⟩,
  ⟨0x800000, 0x1000, 64, 0x70C, 1, .ro, .none, 0x0, 0x0⟩,
  ⟨0x800000, 0x1000, 64, 0x710, 1, .ro, .none, 0x0, 0x0⟩,
  ⟨0x800000, 0x1000, 64, 0x714, 1, .ro, .none, 0x0, 0x0⟩,
  ⟨0x800000, 0x1000, 64, 0x718, 1, .w1c, .lv, 0x0, 0x3F⟩,
  ⟨0x800000, 0x1000, 64, 0x0, 1, .ro, .none, 0x0, 0x0⟩,
  ⟨0x800000, 0x1000, 64, 0x600, 1, .ro, .none, 0x0, 0x0⟩,
  ⟨0x800000, 0x1000, 64, 0x604, 1, .ro, .none, 0x0, 0x0⟩,
  ⟨0x800000, 0x1000, 64, 0x800, 1, .ro, .none, 0x0, 0x0⟩,
  ⟨0x800000, 0x1000, 64, 0x804, 1, .ro, .none, 0x0, 0x0⟩]

/-- The register maps of the CORE block. -/
def coreRegRows : List RegRow := [
  ⟨0x1000000, 0x100, 9152, 0x0, 1, .ro, .none, 0x0, 0x0⟩,
  ⟨0x1000000, 0x100, 9152, 0x4, 1, .ro, .none, 0x0, 0x0⟩,
  ⟨0x1000000, 0x100, 9152, 0x8, 1, .w1c, .lv, 0x0, 0x7FF⟩,
  ⟨0x1000000, 0x100, 9152, 0xC, 1, .ro, .none, 0x0, 0x0⟩,
  ⟨0x1000000, 0x100, 9152, 0x10, 8, .rw, .lv, 0x0, 0xFFFFFFFF⟩,
  ⟨0x1000000, 0x100, 9152, 0x30, 8, .rw, .lv, 0x0, 0x3FF⟩]

/-- The rows that can hold `a`: the blocks of R578, by their bases. -/
def regRowsAt (a : Nat) : List RegRow :=
  if a < 0x20000 then idModRegRows
  else if a < 0x100000 then ctxRegRows
  else if a < 0x200000 then ringRegRows
  else if a < 0x300000 then quotaRegRows
  else if a < 0x400000 then streamRegRows
  else if a < 0x500000 then healthRegRows
  else if a < 0x600000 then powerRegRows
  else if a < 0x700000 then caravanRegRows
  else if a < 0x800000 then perfRegRows
  else if a < 0x1000000 then regionRegRows
  else coreRegRows

/-- Whether the row's register lies at `a`. -/
def RegRow.holds (r : RegRow) (a : Nat) : Bool :=
  decide (r.base ≤ a) && decide ((a - r.base) / r.stride < r.count) &&
  decide (r.off ≤ (a - r.base) % r.stride) && decide ((a - r.base) % r.stride < r.off + 4 * r.words) &&
  decide (a % 4 = 0)

/-- The row of the register at `a`; none where `a` is a hole (R578, R579). -/
def regRow (a : Nat) : Option RegRow := (regRowsAt a).find? fun r => r.holds a

/-- The reset value of the register at `a` (R588); 0 at a hole. -/
def regReset (a : Nat) : W32 :=
  match regRow a with
  | some r => BitVec.ofNat 32 r.reset
  | none => 0#32

end Sys2Proof.Machine
end

