-- ==== Sys2Proof/Machine/CoreState.lean ====
section
/-! DEFINITION. What one physical core holds (R66): its matrix array, its vector cluster, its bench, its cellar port and
its sampler. -/

namespace Sys2Proof.Machine

/-- One accumulator of the array (R119): its class, the status flags of R123 in bits 7 to 0, OPS, and its 4,096
elements of 32 bits. -/
structure TileAcc where
  isInt : Bool
  flags : Byte
  ops   : W32
  elems : Sp W32
deriving DecidableEq, Repr, Inhabited

/-- An operand of a tile operation as the operand buffer holds it (R127): its elements as values with their scales applied,
row by row, in the orientation of op(A) or op(B); its block bitmap in that orientation; whether it runs sparse, whether it runs
dense for a 0xFF scale (R258), and whether a 0xFF scale is applied (R129). -/
structure TileOperand where
  rows    : List (List FVal)
  blocks  : Nat
  nblk    : Nat
  sparse  : Bool
  ffDense : Bool
  ff      : Bool
deriving DecidableEq, Repr, Inhabited

/-- What a tile instruction that has been issued and has not completed does when its turn comes (R145). -/
inductive TileKind where
  /-- TMMA, or with `zeroing` TMMAZ, of the given class, with its word and its operands. -/
  | mma (zeroing isInt : Bool) (word : BitVec 128) (a b : TileOperand)
  /-- TDRAIN to a bench granule. -/
  | drain (dest : Nat) (clr dfmt : Bool)
  | zero
  | illegal
deriving DecidableEq, Repr, Inhabited

/-- How far a multiplying operation has come: it has not been checked; it has mismatched and waits for its retry (R139); or its
check has passed and its P, with the status flags that the product brings, waits to be added (R145). -/
inductive TileStage where
  | computing
  | retry
  | passed (p : Sp W32) (flags : Nat)
deriving DecidableEq, Repr, Inhabited

/-- A tile instruction in issue order (R145): its accumulator, how far it has come, whether it has been retried, and what its
reads of the accumulator meet. -/
structure TileOp where
  kind    : TileKind
  acc     : Nat
  stage   : TileStage := .computing
  retried : Bool := false
  reads   : AccRead := {}
deriving DecidableEq, Repr, Inhabited

/-- An instruction of the sequencer as it stands in the core program (R623), with what goes with it. -/
inductive SeqInstr where
  | tmma (w : BitVec 128)
  | tmmaz (w : BitVec 128)
  | tdrain (w : BitVec 128) (reads : AccRead)
  | tzero (w : BitVec 128)
  /-- A vector instruction of an opcode of R205. -/
  | vector (opc : Nat) (w : W64) (met : LaneMet)
  | encoder (w : W64)
  | cellar (w : BitVec 128)
  | rdpmc (index : Nat) (sreg : Fin 8)
  | barrier (ends : Bool)
deriving DecidableEq, Repr, Inhabited

/-- A cellar transfer that has been issued and has not ended (R270); one that is not legal moves nothing. -/
structure CellarXfer where
  legal   : Bool
  toBench : Bool
  fence   : Bool
  mb      : Nat
  sreg    : Nat
  bench   : Nat
  len     : Nat
  addr    : Nat
deriving DecidableEq, Repr, Inhabited

/-- A send or receive stream as the core program has bound it (R88): its bench granules, its micro-batch, how many bytes of it
have been taken or delivered, and whether a word with SAT has been delivered on it (R91). -/
structure StreamBind where
  spec : StreamSpec
  pos  : Nat
  sat  : Bool
deriving DecidableEq, Repr, Inhabited

/-- Bench granules that hold granules of a crate with a home in the cellar or the stockroom (R53, R268): from bench granule
`first` on, granules `gran` on of the crate. -/
structure BenchHome where
  first : Nat
  grans : Nat
  crate : Nat
  gran  : Nat
deriving DecidableEq, Repr, Inhabited

/-- What is left of a range when `n` granules from `g` on are written otherwise. -/
def BenchHome.cut (h : BenchHome) (g n : Nat) : List BenchHome :=
  let stop := h.first + h.grans
  let next := max h.first (g + n)
  (if h.first < g then [{ h with grans := min stop g - h.first }] else []) ++
  (if next < stop then [{ h with first := next, grans := stop - next, gran := h.gran + (next - h.first) }] else [])

/-- A tagged instruction that is being followed (R570), as the record of R571 will name it. -/
structure SampleTagged where
  issue : Nat
  kind  : Nat
  word  : W32
  pc    : W32
  mb    : Nat
  pos   : Nat
  pass  : Nat
  pmc0  : W32
  pmc1  : W32
deriving DecidableEq, Repr, Inhabited

/-- A sequencer's time (R93, R623): the core cycles of slack at the present epoch's start; the work that falls due in the
coming schedule epochs, in core cycles; and the wall epochs that its own hold requests hold and that have not passed (R102). -/
structure SeqTime where
  slack : Int
  due   : List Nat
  own   : List Nat
deriving DecidableEq, Repr, Inhabited

def SeqTime.reset : SeqTime := ⟨0, [], []⟩

/-- A physical core. -/
structure Core where
  /-- ACC0 to ACC7 (R119). -/
  accs      : Sp TileAcc
  /-- Tile instructions issued and not completed, oldest first (R145). -/
  ops       : List TileOp
  /-- Instructions that wait at issue, oldest first (R204, R623). -/
  waiting   : List SeqInstr
  /-- V0 to V7: element i of Vn at key 8,192 n + i (R201). -/
  vregs     : Sp W32
  /-- M0 to M7: bit i of Mn at key 8,192 n + i (R201). -/
  mregs     : Sp Bool
  /-- S0 to S7 (R201). -/
  sregs     : Sp W32
  /-- FILL (R217). -/
  fill      : W32
  /-- Lane status (R223). -/
  lanes     : Sp (BitVec 16)
  /-- Lane generators (R173). -/
  gens      : Sp W64
  /-- Lane registers: Ln of lane j at key 32 j + n (R201). -/
  lregs     : Sp W32
  /-- The lane program store (R201). -/
  lstore    : Sp W32
  /-- Lane program elements that have reached the limit of R234 and are not yet marked. -/
  overdue   : List Nat
  /-- The bench, by byte (R266). -/
  bench     : Mem
  /-- Bench granules that were delivered poisoned (R302). -/
  poison    : List Nat
  /-- The granules of the bench that hold a crate's (R53). -/
  homes     : List BenchHome
  /-- Bench words that have met an uncorrectable error in this step (R268). -/
  uncorr    : List Nat
  /-- Cellar transfers issued and not ended, oldest first (R270). -/
  xfers     : List CellarXfer
  /-- The streams that the core program has bound (R88). -/
  streams   : List StreamBind
  /-- The micro-batch that the core program is in (R51, R140). -/
  mb        : Nat
  /-- The position or virtual stage that the core program is in (R571). -/
  pos       : Nat
  /-- The pass: 0 forward, 1 backward, 2 recompute (R173). -/
  pass      : Nat
  /-- The observations that the core program has noted in the step: entry of the scale ledger, micro-batch, code (R181, R183). -/
  obs       : List (Nat × Nat × Nat)
  /-- The sequencer's slack, its work to come, and its holds (R93, R623). -/
  time      : SeqTime
  /-- The core has a lasting fault that is not yet repaired (R141, R239). -/
  lasting   : Bool
  /-- Whether the core has arrived at its context's barrier (R106). -/
  arrived   : Bool
  /-- The sample generator (R569). -/
  sgen      : W32
  /-- Instructions to go before the next tag (R568). -/
  countdown : Nat
  /-- The tagged instructions being followed, oldest first (R570). -/
  tagged    : List SampleTagged
  /-- Complete records waiting to be written, oldest first, at most four (R572). -/
  records   : List W512
deriving DecidableEq, Repr, Inhabited

/-- A core after the wipe of R304, with the values of R240 and R217. -/
def Core.reset : Core where
  accs := []
  ops := []
  waiting := []
  vregs := []
  mregs := []
  sregs := []
  fill := 0#32
  lanes := []
  gens := []
  lregs := []
  lstore := []
  overdue := []
  bench := []
  poison := []
  homes := []
  uncorr := []
  xfers := []
  streams := []
  mb := 0
  pos := 0
  pass := 0
  obs := []
  time := SeqTime.reset
  lasting := false
  arrived := false
  sgen := 0#32
  countdown := 0
  tagged := []
  records := []

/-- An accumulator after TZERO (R120): class FP32, no flag, no operation, every element zero. -/
def TileAcc.zero : TileAcc := ⟨false, 0#8, 0#32, []⟩

def zeroW : Nat → W32 := fun _ => 0#32

/-- One accumulator. -/
def Core.acc (c : Core) (a : Nat) : TileAcc := spGet (fun _ => TileAcc.zero) c.accs a
def Core.setAcc (c : Core) (a : Nat) (x : TileAcc) : Core := { c with accs := spSet (fun _ => TileAcc.zero) c.accs a x }
/-- One scalar register. -/
def Core.sreg (c : Core) (n : Nat) : W32 := spGet zeroW c.sregs n
def Core.setSreg (c : Core) (n : Nat) (v : W32) : Core := { c with sregs := spSet zeroW c.sregs n v }
/-- `n` bench granules from `g` on no longer hold a crate's. -/
def Core.unhome (c : Core) (g n : Nat) : Core := if n = 0 then c else { c with homes := c.homes.flatMap fun h => h.cut g n }
/-- `n` bench granules from `g` on hold a crate's, from its granule `gran` on. -/
def Core.home (c : Core) (g n crate gran : Nat) : Core :=
  let c := c.unhome g n
  { c with homes := c.homes ++ [⟨g, n, crate, gran⟩] }
/-- The crate and its granule that a bench granule holds. -/
def Core.homeOf (c : Core) (g : Nat) : Option (Nat × Nat) :=
  (c.homes.find? fun h => decide (h.first ≤ g ∧ g < h.first + h.grans)).map fun h => (h.crate, h.gran + (g - h.first))
/-- One vector element: element `i` of V`n`. -/
def Core.velem (c : Core) (n i : Nat) : W32 := spGet zeroW c.vregs (n * 8192 + i)
/-- One mask bit: bit `i` of M`n`. -/
def Core.mbit (c : Core) (n i : Nat) : Bool := spGet (fun _ => false) c.mregs (n * 8192 + i)
/-- One lane's status. -/
def Core.lstat (c : Core) (j : Nat) : BitVec 16 := spGet (fun _ => 0#16) c.lanes j
/-- One lane's generator. -/
def Core.gen (c : Core) (j : Nat) : W64 := spGet (fun _ => genReset) c.gens j
def Core.setGen (c : Core) (j : Nat) (g : W64) : Core := { c with gens := spSet (fun _ => genReset) c.gens j g }

end Sys2Proof.Machine
end

