-- ==== Sys2Proof/Machine/CtxState.lean ====
section
/-! DEFINITION. What the module holds for a context (R442): its descriptors, its crate map, its program slots, the step in
progress with its gradient sums, its ledger commit, its swatch and its securing; and what it holds for a ring. -/

namespace Sys2Proof.Machine

/-! Descriptors, rings, events. -/

/-- How a descriptor completed: STATUS, ENDCODE, REASON and RESULT of R462. -/
structure DescResult where
  status : Nat
  code   : Nat
  reason : Nat
  result : Nat
deriving DecidableEq, Repr, Inhabited

/-- A descriptor that has been taken and whose completion is not yet written (R433). -/
structure Desc where
  /-- Its number in the order in which the module takes descriptors: a ring's indices come round again (R448). -/
  no       : Nat
  ring     : Nat
  index    : Nat
  words    : W512
  /-- Whether the descriptor could be read from host memory (R462). -/
  readable : Bool
  /-- The number of the doorbell that made it visible, in order of acceptance (R20). -/
  bell     : Nat
  started  : Bool
  result   : Option DescResult
deriving DecidableEq, Repr, Inhabited

/-- A ring's state beside its registers. -/
structure Ring where
  on     : Bool
  /-- URGENT of the latest doorbell (R434). -/
  urgent : Bool
  /-- Accepted doorbells whose descriptors are not all taken: how many remain, and the doorbell's number (R20). -/
  bells  : List (Nat × Nat)
  /-- Entries written and not yet signalled (R464). -/
  unsig  : Nat
deriving DecidableEq, Repr, Inhabited

def Ring.reset : Ring := ⟨false, false, [], 0⟩

/-- An event that waits to be written (R465). -/
structure Event where
  code : Nat
  rep  : Nat
  epoch : Nat
  step : W32
  d0   : W32
  d1   : W32
  d2   : W32
deriving DecidableEq, Repr, Inhabited

/-- An open window of R429: the ring it belongs to, the repeats that fell in it, and the last of them. -/
structure EventWin where
  ring : Nat
  reps : Nat
  last : Event
deriving DecidableEq, Repr, Inhabited

/-- An address range registered as a sink (R386, R460). -/
structure Sink where
  base : Nat
  size : Nat
  on   : Bool
deriving DecidableEq, Repr, Inhabited

def Sink.reset : Sink := ⟨0, 0, false⟩

/-! The step program (R457). -/

/-- R315. -/
structure StreamHdr where
  resident : Bool
  kmin  : Nat
  kmax  : Nat
  lbase : Nat
  lsize : Nat
  pbase : Nat
  psize : Nat
  npos  : Nat
  nent  : Nat
  ngrp  : Nat
deriving DecidableEq, Repr, Inhabited

/-- R316. -/
structure DGroup where
  regions : Nat
  rows    : Nat
  ecol    : Nat
deriving DecidableEq, Repr, Inhabited

/-- R317. -/
structure PfEntry where
  pos    : Nat
  wave1  : Bool
  group  : Nat
  crate  : Nat
  offset : Nat
  stream : Nat
deriving DecidableEq, Repr, Inhabited

/-- R372. -/
structure SlotRec where
  pass   : Nat
  vstage : Nat
  mb     : Nat
  inCh   : Nat
  outCh  : Nat
deriving DecidableEq, Repr, Inhabited

/-- R376. -/
structure ChanRec where
  peer  : Nat
  recv  : Bool
  depth : Nat
  base  : Nat
  slotc : Nat
deriving DecidableEq, Repr, Inhabited

/-- R343. -/
structure Shard where
  first  : Nat
  ntiles : Nat
  port   : Nat
  gate   : Bool
  root   : Bool
  parent : Nat
  nchild : Nat
deriving DecidableEq, Repr, Inhabited

/-- One tensor of the tensor table (R457, kind 0x13). -/
structure TensorRec where
  first   : Nat
  crates  : Nat
  home    : Nat
  hregion : Nat
  hbay    : Nat
  bound   : Bool
  pin     : Bool
  tiled   : Bool
deriving DecidableEq, Repr, Inhabited

/-- A hop table segment (R457, kind 0x10): its period and its entries (R85). -/
structure HopSeg where
  period  : Nat
  entries : List W64
deriving DecidableEq, Repr, Inhabited

/-- A router's hop table: the router's number and its segments. -/
structure HopTable where
  router : Nat
  segs   : List HopSeg
deriving DecidableEq, Repr, Inhabited

/-- A schedule variant (R405) with its parts. -/
structure Variant where
  dark    : Nat
  crate   : Nat
  hops    : List HopTable
  /-- The barrier tree: the parent of each region, 0xFF the root, 0xFE not in the partition. -/
  tree    : List Nat
  shards  : List Shard
  /-- Verdict-set records: micro-batch, and the first module of its list. -/
  vsets   : List (Nat × Nat)
  tensors : List TensorRec
deriving DecidableEq, Repr, Inhabited

/-- The image that a program slot holds (R456, R457). -/
structure Program where
  icrate    : Nat
  reloc     : Bool
  regions   : Nat
  cellar    : Nat
  stock     : Nat
  scale     : Nat
  jobMbs    : Nat
  jobTokens : Nat
  stream    : StreamHdr
  groups    : List DGroup
  entries   : List PfEntry
  /-- Planned token counts, by micro-batch. -/
  tokens    : List Nat
  slots     : List SlotRec
  vstages   : Nat
  parts     : Nat
  pidx      : Nat
  chans     : List ChanRec
  /-- The micro-sequence slots: 16 of 64 instructions, or none. -/
  useqs     : List (List W32)
  variants  : List Variant
  /-- The crates of the image (R456). -/
  crates    : List Nat
deriving DecidableEq, Repr, Inhabited

/-- An image that waits for the instant at which no step is in progress (R456). -/
structure SchedWait where
  desc  : Nat
  slot  : Nat
  prog  : Program
deriving DecidableEq, Repr, Inhabited

/-! The step in progress. -/

/-- A repair of a damaged weight crate (R327). -/
structure Repair where
  entry : Nat
  crate : Nat
  /-- The place in the replica list of the peer that is being asked; none while the repair waits under R331. -/
  peer  : Option Nat
  /-- Its place in the order in which the damaged fetches ended (R331). -/
  seq   : Nat
deriving DecidableEq, Repr, Inhabited

/-- Where an input of a tally unit came from (R340): a fabric sum of a region by its core and stream, a region, or a module. -/
inductive SumFrom where
  | fabric (core stream : Nat)
  | region (r : Nat)
  | module (m : Nat)
deriving DecidableEq, Repr, Inhabited

/-- A tally unit's sum of one tile (R342): the micro-batch that it is kept for (0xFFFF from the group gate on), and its
inputs in arrival order, each with where it came from. -/
structure TallySum where
  tile   : Nat
  mb     : Nat
  inputs : List (SumFrom × SumInput)
  /-- Modules whose sum failed and was asked for again (R347). -/
  again  : List Nat
  sent   : Bool
deriving DecidableEq, Repr, Inhabited

/-- The first pass of a tile (R189): the tile words that have come, and whether their combination has been sent on. -/
structure FirstSum where
  tile   : Nat
  inputs : List (SumFrom × W32)
  sent   : Bool
deriving DecidableEq, Repr, Inhabited

/-- A sealed tile in the tally buffer (R349): its sealed word, and its mantissas or the bits of its FP32 values. -/
structure Sealed where
  word  : W256
  elems : List Int
deriving DecidableEq, Repr, Inhabited

/-- A handoff of a channel in the step (R377): the crates that have been sent, the pieces that have landed (16 × crate +
piece), its doubt bit, and whether its gate opened at the deadline (R381). -/
structure Handoff where
  chan   : Nat
  q      : Nat
  /-- Of each staging crate, the granules that the pass has written, as a mask (R378). -/
  wrote  : Sp Nat
  crates : List Nat
  pieces : List Nat
  doubt  : Bool
  ended  : Bool
deriving DecidableEq, Repr, Inhabited

/-- Progress of a channel within the step: handoffs that the receiver has released (R378). -/
structure ChanState where
  released : Nat
deriving DecidableEq, Repr, Inhabited

/-- A step in progress (R18). -/
structure StepRun where
  /-- The number of its descriptor. -/
  desc     : Nat
  prog     : Program
  slot     : Nat
  /-- The variant in use; none while the context is suspended (R406, R407). -/
  variant  : Option Nat
  /-- The optimiser parameter block: header and group records, as bytes (R357). -/
  opt      : List Byte
  seed     : W64
  /-- STREAM_REPAIR_DEADLINE at the step's start (R329). -/
  deadline : Nat
  /-- The position whose ready gate opened last (R322). -/
  pos      : Option Nat
  k        : Nat
  /-- Prefetch entries issued and landed, as places in the entry table. -/
  issued   : List Nat
  landed   : List Nat
  /-- Positions or virtual stages whose gate has opened. -/
  opened   : List Nat
  /-- Positions that have ended, and whether the barrier in flight is marked as the end of one, or of a pass (R322, R374). -/
  ended    : Nat
  mark     : Bool
  repairs  : List Repair
  /-- Crates whose repair has failed in this step (R330). -/
  failed   : List Nat
  /-- The slot that runs or waits, and whether it runs (R374). -/
  slotNo   : Nat
  running  : Bool
  chans    : Sp ChanState
  handoffs : List Handoff
  /-- Verdicts received: micro-batch, module, clean (R345). -/
  verdicts : List (Nat × Nat × Bool)
  /-- Micro-batches whose verdict this module has sent, and those of them whose clean verdict it has taken back (R25). -/
  judged   : List Nat
  recalled : List Nat
  sums     : List TallySum
  /-- The exponent byte of each scale-ledger entry in the step; none while the two-pass recipe has not given it (R182, R187). -/
  scales   : List (Option Nat)
  firsts   : List FirstSum
  /-- Norm sums received: module, first tile of its lowest shard, sum (R359). -/
  norms    : List (Nat × Nat × W32)
  gscale   : W32
  /-- Ledger tiles applied, during an apply or a walk. -/
  applied  : Nat
  /-- Modules whose beacon has been counted (R364). -/
  beacons  : List Nat
  /-- The step withheld a crate after a failed repair (R330). -/
  dropped  : Bool
  /-- A counted beacon carries the rebuild request (R190). -/
  rebuild  : Bool
  /-- The cores are sampled in this step (R573). -/
  sample   : Bool
deriving DecidableEq, Repr, Inhabited

def ChanState.reset : ChanState := ⟨0⟩

/-- A swatch that waits or runs (R385 to R394). -/
structure SwatchRun where
  desc    : Nat
  plan    : W512
  step    : W32
  /-- 1 waiting for its boundary, 2 reading, 3 delivering spilled records. -/
  phase   : Nat
  next    : Nat
  missing : Nat
  spill   : List (Nat × List Byte)
  reserve : Nat
deriving DecidableEq, Repr, Inhabited

/-- A securing in progress (R419 to R422). -/
structure SecureRun where
  /-- 1 periodic, 2 risk-driven, 3 requested by SECURE. -/
  kind   : Nat
  /-- SECURE descriptors that it satisfies. -/
  waits  : List Nat
  step   : W32
  /-- The captured image, as it stood at the boundary (R423); tiles are captured by copying (R421). -/
  image  : List Byte
  dest   : Nat
  peer   : Nat
  addr   : Nat
  slotB  : Bool
  /-- Ledger tiles whose read ended, each with the place in the replica list of the peer that is asked (R422). -/
  lost   : List (Nat × Nat)
deriving DecidableEq, Repr, Inhabited

/-- How a context stands in its job (R425). -/
inductive Listen where
  | member
  | listener (steps : Nat) (tiles : List Nat)
deriving DecidableEq, Repr, Inhabited

/-- A sum that a caravan port has delivered (R480). -/
structure Delivered where
  src : Nat
  sum : SumInput
deriving DecidableEq, Repr, Inhabited

/-- A migration copy in progress (R293): the crate, and where it is copied to. -/
structure Migration where
  crate : Nat
  toCellar : Bool
  loc   : Nat
deriving DecidableEq, Repr, Inhabited

/-- A context. -/
structure Ctx where
  /-- Micro-batches that are doubtful on this module in the present step (R25). -/
  doubt    : List Nat
  /-- Those of them of which the foreman has heard, and which are withheld (R25, R344). -/
  told     : List Nat
  /-- The ring served last, for the round-robin of R434. -/
  lastRing : Nat
  /-- Descriptors taken and not yet written complete, in the order taken. -/
  taken    : List Desc
  /-- Events that wait to be written, oldest first (R465). -/
  events   : List Event
  windows  : List EventWin
  /-- The next event entry carries LOST (R467). -/
  lost     : Bool
  sinks    : Sp Sink
  /-- The crate map: entries in the layout of R290. -/
  map      : Sp W64
  /-- The regions that hold the copies of the crate map (R289). -/
  mapAt    : List Nat
  /-- The scale ledger (R180): its entries in the first and the second copy, and the regions that hold the copies. -/
  scaleA   : Sp W256
  scaleB   : Sp W256
  scaleAt  : List Nat
  /-- The kind of each entry as it was last written; a weight-gradient entry where nothing has been (R180, R185). -/
  scaleKind : Sp Nat
  /-- Crates that await rebuild, in the order in which they were retired (R280), and those of them that have no rebuild source,
  each reported once (R415). -/
  awaiting : List Nat
  orphans  : List Nat
  /-- The allocation records of a torn-down context's crates, whose wipe is in progress, as their map entries had them (R290,
  R306); and the stockroom crates of its sums and tally buffers. -/
  gone     : List W64
  goneStock : Nat
  migrations : List Migration
  slots    : Sp (Option Program)
  sched    : List SchedWait
  step     : Option StepRun
  /-- Sealed tiles in the tally buffer (R348). -/
  sealed   : Sp (Option Sealed)
  delivered : List Delivered
  /-- The commit set as modules removed from the job list, and modules that join at the next boundary (R499). -/
  removed  : List Nat
  joining  : List Nat
  leaving  : List Nat
  listen   : Listen
  /-- Beacons held for the next step (R364). -/
  held     : List W256
  /-- Verdicts that arrived before the step that they belong to began here: micro-batch, module, clean. -/
  early    : List (Nat × Nat × Bool)
  /-- The next beacon carries the rebuild request (R190). -/
  askHist  : Bool
  swatch   : Option SwatchRun
  /-- SECURE descriptors that wait for their boundary: the descriptor's number, the step that they capture (R32, R460). -/
  secureQ  : List (Nat × Nat)
  secure   : Option SecureRun
  /-- A risk-driven securing has been made since the level last was below SEC_RISK (R421). -/
  riskDone : Bool
  /-- Cellar crates that met an uncorrectable error and move to another slot at the next step boundary (R274). -/
  cellarDue : List Nat
  /-- Both copies of the crate map are lost (R290). -/
  noMap    : Bool
  /-- STARVE (R325), and whether a core has waited at a gate that opened within the present epoch. -/
  starve   : Nat
  waited   : Bool
  /-- A teardown in progress writes no completion (R441, R445). -/
  portLost : Bool
  /-- What a CANCEL covers: its descriptor, a ring, and that ring's producer index when the CANCEL was taken (R461). -/
  cancels  : List (Nat × Nat × Nat)
  /-- The TEARDOWN descriptor of the teardown in progress. -/
  tearDesc : Option Nat
  /-- SCHED_MISSING has been written for the present lack of a variant (R407). -/
  missing  : Bool
  /-- The foreman halts the schedule at the next wall epoch boundary (R403). -/
  haltDue  : Bool
  /-- The schedule of a context in teardown stops at the next wall epoch boundary (R445). -/
  stopDue  : Bool
deriving DecidableEq, Repr, Inhabited

def Ctx.reset : Ctx where
  doubt := []
  told := []
  lastRing := 16383
  taken := []
  events := []
  windows := []
  lost := false
  sinks := []
  map := []
  mapAt := []
  scaleA := []
  scaleB := []
  scaleAt := []
  scaleKind := []
  awaiting := []
  orphans := []
  gone := []
  goneStock := 0
  migrations := []
  slots := []
  sched := []
  step := none
  sealed := []
  delivered := []
  removed := []
  joining := []
  leaving := []
  listen := .member
  held := []
  early := []
  askHist := false
  swatch := none
  secureQ := []
  secure := none
  riskDone := false
  cellarDue := []
  noMap := false
  starve := 0
  waited := false
  portLost := false
  cancels := []
  tearDesc := none
  missing := false
  haltDue := false
  stopDue := false

end Sys2Proof.Machine
end

