-- ==== Sys2Proof/Machine/FabricState.lean ====
section
/-! DEFINITION. What the fabric holds (R69 to R113): the routers with their hop table banks, the words in flight on the
links, the pending control frames, the hold network's requests, and the barriers. Routers are numbered as the image
numbers them (R457): a logical core's router by the core, a region's column router 7,680 + region; a region's service
router, which no hop table names, is 7,744 + region. -/

namespace Sys2Proof.Machine

/-- The number of a router. -/
def routerNo : RouterId → Nat
  | .core l => l.val
  | .column r => 7680 + r.val
  | .service r => 7744 + r.val

/-- A word on a link with its sideband bits (R72): 32 lanes of 32 bits; on an express link eight lanes are used, on a column
link forty. `at_` is the fabric cycle of its launch in schedule time, `lat` the link's latency. A word that a track collision
kept from its launch is noted without VALID (R87). `home` names, for each granule of data that a core has sent on as it lay in
its bench, the crate's granule that it is a copy of (R53). -/
structure LinkWord where
  lanes  : List W32
  valid  : Bool
  poison : Bool
  sat    : Bool
  at_    : Nat
  lat    : Nat
  home   : List (Option (Nat × Nat)) := []
deriving DecidableEq, Repr, Inhabited

/-- One bank of a router (R83): a segment's number, its period and its entries, and whether it is completely loaded. -/
structure Bank where
  seg    : Nat
  period : Nat
  entries : List W64
  loaded : Bool
deriving DecidableEq, Repr, Inhabited

def Bank.reset : Bank := ⟨0, 1, [], false⟩

/-- A hold request on the hold network: the wall epoch that stamps it, and H (R93, R94). -/
structure HoldReq where
  epoch : Nat
  len   : Nat
deriving DecidableEq, Repr, Inhabited

/-- A router: the bank that runs, since which schedule epoch, and the bank that loads (R83, R84). -/
structure Router where
  run   : Bank
  live  : Bool
  start : Nat
  load  : Bank
  /-- The context whose hop table it holds. -/
  ctx   : Nat
  /-- The holds that it has latched, where they differ from those that every other router has latched (R98). -/
  odd   : Option (List HoldReq)
  /-- The schedule epochs by which it has run ahead of the others, or fallen behind them (R98). -/
  skew  : Int
deriving DecidableEq, Repr, Inhabited

def Router.reset : Router := ⟨Bank.reset, false, 0, Bank.reset, 0, none, 0⟩

/-- A control frame that waits at a router for a control slot of an outgoing link (R81). Links are numbered as the hop port
codes number them; link 8 joins the routers of a region and its service router (R82, assumption 58). A frame of the router's
`own` receives EPOCH and CRC when it is first sent (R80). -/
structure CtlFrame where
  router : Nat
  link   : Nat
  frame  : W256
  own    : Bool
deriving DecidableEq, Repr, Inhabited

/-- A service packet in flight, or delivered (R110): where it comes from, the router that its header names, its data flits, and
the fabric cycle in which it arrives. -/
structure Packet where
  src   : Nat
  dst   : Nat
  flits : List W512
  at_   : Nat
deriving DecidableEq, Repr, Inhabited

structure Fabric where
  /-- The wall epoch (R77). -/
  epoch   : Nat
  /-- Whether the present epoch is held (R96). -/
  held    : Bool
  /-- Held epochs since the fabric started (MOD_HELD). -/
  heldN   : Nat
  /-- Live epochs since the fabric started: the schedule epoch (R78). -/
  liveN   : Nat
  /-- Requests on the hold network and not yet latched; requests latched by every router (R95). -/
  reqs    : List HoldReq
  latched : List HoldReq
  /-- HOLD_ACK has been sent in the present held epoch; the latest control slot carried it (R98). -/
  ackSent : Bool
  acking  : Bool
  /-- A hold disagreement waits for realignment (R98). -/
  realign : Bool
  /-- A mode change in progress: the mode to come, and the epochs that it still takes (R109). -/
  change  : Option (Nat × Nat)
  routers : Sp Router
  /-- Words in flight toward a router's input port: keyed by router × 16 + port, oldest first. -/
  links   : Sp (List LinkWord)
  ctl     : List CtlFrame
  /-- The frames that the routers sent in the latest control slot (R79). -/
  wire    : List CtlFrame
  /-- Regions whose whole subtree has arrived at a context's barrier, as region × 64 + context (R106). -/
  arrive  : List Nat
  /-- Logical cores whose arrival their service router has seen (R106). -/
  came    : List Nat
  /-- Service packets in flight, and those that have been delivered, oldest first (R110); and the firmware messages that have
  reached a region's service router in SERVICE frames (R113), as region and payload. -/
  flying  : List Packet
  packets : List Packet
  notes   : List (Nat × Nat)
deriving DecidableEq, Repr, Inhabited

def Fabric.reset : Fabric where
  epoch := 0
  held := false
  heldN := 0
  liveN := 0
  reqs := []
  latched := []
  ackSent := false
  acking := false
  realign := false
  change := none
  routers := []
  links := []
  ctl := []
  wire := []
  arrive := []
  came := []
  flying := []
  packets := []
  notes := []

end Sys2Proof.Machine
end

