-- ==== Sys2Proof/Machine/UnitState.lean ====
section
/-! DEFINITION. What the module holds beside its cores, contexts and fabric: the power manager, the bring-up and its
inventory, firmware and lifecycle, the caravan ports with their flows, the mailboxes, the snapshot, the foreman, the
health monitor, and the secured images that it keeps for peers. -/

namespace Sys2Proof.Machine

/-! Power (R504 to R527). -/

/-- A ramp that waits (R516): its region, its direction, and whether it has been deferred and for the whole 10 ms (R517). -/
structure RampWait where
  region   : Nat
  up       : Bool
  deferred : Bool
  late     : Bool
deriving DecidableEq, Repr, Inhabited

structure Power where
  /-- VIN in tenths of a volt. -/
  vin       : Nat
  /-- Input power samples of 100 µs since CONVERTER_ON, newest first, at most 1,000 (R522). -/
  samples   : List Nat
  /-- Samples to go before the next 1 ms step of the ceiling. -/
  stepWait  : Nat
  /-- Samples in a row whose 1 ms average was below 0.97 of the effective cap; samples in a row above it at ceiling 4. -/
  below     : Nat
  above     : Nat
  /-- Pre-charge has failed and ILK has not opened since (R506). -/
  preFail   : Bool
  rampQ     : List RampWait
  /-- Ramps in progress: region and direction (R516). -/
  ramps     : List (Nat × Bool)
  /-- Milliseconds for which the coolant has been out of limits (R526). -/
  coolBad   : Nat
  /-- Stacks that run at half rate, and the converter's derating (R524). -/
  hotStacks : List Nat
  hotConv   : Bool
  /-- The coolant has been measured since the auxiliary supply started (R526). -/
  cooled    : Bool
  oscA      : Bool
  oscB      : Bool
  /-- A POWER_OFF that the steward wrote under R506, R524 or R526 is in force (R508). -/
  offForce  : Bool
  /-- The latest temperature of each stockroom stack, in °C (R523, R557). -/
  stackTemps : List Nat
  /-- The steward has reported the module failed (R64, R519). -/
  failed    : Bool
deriving DecidableEq, Repr, Inhabited

def Power.reset : Power where
  vin := 8000
  samples := []
  stepWait := 0
  below := 0
  above := 0
  preFail := false
  rampQ := []
  ramps := []
  coolBad := 0
  hotStacks := []
  hotConv := false
  cooled := false
  oscA := true
  oscB := true
  offForce := false
  stackTemps := []
  failed := false

/-! Bring-up, inventory, firmware (R530 to R559). -/

/-- A region record of the inventory (R544). -/
structure InvRegion where
  skipRow : Nat
  dark    : Bool
  cause   : Nat
  retest  : Bool
  dead    : List Nat
  skipCol : List Nat
  phases  : W64
  rows    : Nat
  slots   : Nat
  crc     : W32
deriving DecidableEq, Repr, Inhabited

/-- A record that notes no repair: skip row 10, skip column 12 in every row (R54), and its CRC. -/
def InvRegion.reset : InvRegion where
  skipRow := 10
  dark := false
  cause := 0
  retest := false
  dead := []
  skipCol := List.replicate 11 12
  phases := 0#64
  rows := 0
  slots := 0
  crc := 0x0453D966#32

/-- A retired location (R544). -/
inductive Retired where
  | slot (region bay slot : Nat)
  | crate (c : Nat)
  | channel (stack chan : Nat)
deriving DecidableEq, Repr, Inhabited

/-- One copy of the inventory (R544): what its header holds, the header's CRC-32, the region records and the list. -/
structure Inventory where
  gen     : Nat
  step    : W32
  serial  : W64
  crc     : W32
  regions : Sp InvRegion
  retired : List Retired
deriving DecidableEq, Repr, Inhabited

/-- Bits [479:0] of a region record. -/
def InvRegion.bits (r : InvRegion) : Nat :=
  r.skipRow + ((r.dead.length % 256) <<< 8) + bitN r.dark 16 + (r.cause <<< 17) + bitN r.retest 20
  + (r.dead.foldl (fun m k => m ||| 2 ^ k) 0 <<< 32) + (r.skipCol.zipIdx.foldl (fun m e => m + (e.1 <<< (4 * e.2))) 0 <<< 176)
  + (r.phases.toNat <<< 224) + (r.rows <<< 288) + (r.slots <<< 304)

/-- The record's CRC is that of its bits. -/
def InvRegion.good (r : InvRegion) : Bool := r.crc.toNat == crc32 60 r.bits
def InvRegion.sealed (r : InvRegion) : InvRegion := { r with crc := BitVec.ofNat 32 (crc32 60 r.bits) }

/-- The CRC of the header: over its other 28 bytes, in the places that assumption 5 gives them. -/
def Inventory.hdrCrc (i : Inventory) : Nat := crc32 28 (i.gen + (i.step.toNat <<< 32) + (i.serial.toNat <<< 64))
def Inventory.sealed (i : Inventory) : Inventory := { i with crc := BitVec.ofNat 32 i.hdrCrc }
/-- The header and every region record pass their CRC. -/
def Inventory.valid (i : Inventory) : Bool := i.crc.toNat == i.hdrCrc && i.regions.all fun e => e.2.good

/-- The two slots of a firmware component, which of them is marked active, and the image that runs (R533). -/
structure FwSlots where
  a       : Option FwImage
  b       : Option FwImage
  activeB : Bool
  running : Option FwImage
deriving DecidableEq, Repr, Inhabited

structure Boot where
  invA      : Inventory
  invB      : Inventory
  fw        : Sp FwSlots
  revoked   : List Nat
  /-- The last lifecycle transition calls for a cold bring-up (R545, R551). -/
  cold      : Bool
  /-- The images of this bring-up are verified and loaded, and the inventory is read (R534). -/
  booted    : Bool
  /-- A POWER_OFF has been carried out and no bring-up has followed it (R469, R532). -/
  off       : Bool
  /-- An owner is bound (R551). -/
  owner     : Bool
  nonces    : List W64
  /-- Regions whose test runs, and regions whose test of this bring-up has ended (R537 to R539). -/
  testing   : List Nat
  tested    : List Nat
  proven    : List Nat
  /-- Regions proven in the present wave. -/
  gained    : Nat
  stockDone : Bool
  /-- An activation or a lifecycle request is in progress (R558, R559). -/
  busy      : Bool
  /-- A lifecycle wipe, a reset or a power-on wipe is in progress, and whether it ends a reset (R305, R469). -/
  wiping    : Bool
  inReset   : Bool
  /-- The master that wrote the RESET or POWER_OFF that is being carried out (R470). -/
  resetBy   : Nat
  /-- The inventory must be written (R544). -/
  invDue    : Bool
deriving DecidableEq, Repr, Inhabited

/-! Caravan (R474 to R503). -/

/-- An admitted peer (R497): its module, its awning serial number, and the port it was admitted on. -/
structure Peer where
  module : Nat
  serial : W64
  port   : Nat
deriving DecidableEq, Repr, Inhabited

/-- A sending flow (R493): the frames that are not yet acknowledged, oldest first, and the frames of the flow that wait. -/
structure TxFlow where
  job     : Nat
  dst     : Nat
  cls     : Nat
  port    : Nat
  next    : Nat
  unacked : List Frame
  waiting : List Frame
  tries   : Nat
deriving DecidableEq, Repr, Inhabited

/-- A receiving flow: the SEQ that it expects, and the frames since the last acknowledgement. -/
structure RxFlow where
  job    : Nat
  src    : Nat
  cls    : Nat
  expect : Nat
  since  : Nat
deriving DecidableEq, Repr, Inhabited

/-- A class 0 frame that waits for its acknowledgement (R494). -/
structure Express where
  xid   : Nat
  frame : Frame
  port  : Nat
  tries : Nat
deriving DecidableEq, Repr, Inhabited

/-- Frames of a transfer that have arrived (R480). -/
structure Partial where
  src   : Nat
  xid   : Nat
  type_ : Nat
  parts : List (Nat × Frame)
deriving DecidableEq, Repr, Inhabited

/-- What a FETCH that this module has sent is for. -/
inductive FetchFor where
  | repair (crate : Nat)
  | sealedTile (tile : Nat)
  | ledgerTile (tile : Nat)
  | piece (crate : Nat)
  | swatchTile (tile : Nat)
  | secureTile (tile : Nat)
  | scale (entry : Nat)
deriving DecidableEq, Repr, Inhabited

structure FetchOut where
  xid : Nat
  ctx : Nat
  for_ : FetchFor
deriving DecidableEq, Repr, Inhabited

structure Caravan where
  routes  : Sp (BitVec 16)
  /-- The OSFP module in each cage: its watts, and whether it is of the 200 Gb/s-per-lane class. -/
  osfp    : Sp (Option (Nat × Bool))
  peers   : List Peer
  refused : List Nat
  tx      : List TxFlow
  rx      : List RxFlow
  express : List Express
  /-- Class 0 frames delivered once (R494): sender and XID. -/
  seen    : List (Nat × Nat)
  partials : List Partial
  fetches : List FetchOut
  nextXid : Nat
  paused  : Sp Byte
  /-- The port that serves each port's tally role (R412): keyed by port, none while its own. -/
  tally   : Sp (Option Nat)
deriving DecidableEq, Repr, Inhabited

def Caravan.reset : Caravan where
  routes := []
  osfp := []
  peers := []
  refused := []
  tx := []
  rx := []
  express := []
  seen := []
  partials := []
  fetches := []
  nextXid := 0
  paused := []
  tally := []

/-! Mailboxes, snapshot, foreman, monitor, keeping. -/

/-- A port's mailbox (R592): its registers by offset, its buffers, and the request in hand. -/
structure Mailbox where
  regs : Sp W32
  req  : Mem
  resp : Mem
  work : Option (List Byte)
deriving DecidableEq, Repr, Inhabited

def Mailbox.reset : Mailbox := ⟨[], [], [], none⟩

/-- The snapshot (R594): its header and its records. -/
structure Snapshot where
  header  : BitVec 128
  records : Sp W512
  taken   : Sp W512
  epoch   : Nat
  asked   : Bool
deriving DecidableEq, Repr, Inhabited

def Snapshot.reset : Snapshot := ⟨0#128, [], [], 0, false⟩

/-- The foreman (R63): whether an instance is active (its region is in HEALTH_FOREMAN), the standbys, a takeover in
progress, and whether the active instance has been declared lost. -/
structure Foreman where
  active   : Bool
  standbys : List Nat
  takeover : Option Nat
  lost     : Option Nat
  /-- The wall epoch of the latest MIRROR frame (R409). -/
  mirror   : Nat
  /-- The context whose descriptor was taken last (R434). -/
  turn     : Nat
deriving DecidableEq, Repr, Inhabited

def Foreman.reset : Foreman := ⟨false, [], none, none, 0, 63⟩

/-- The health monitor's memory of one unit (R416, R417): its level, for how many evaluations in a row lower values have been
given, its input counters as the last evaluation found them, and what each evaluation of the window added to them, newest
first. -/
structure Monitor where
  level  : Nat
  lower  : Nat
  last   : List Nat
  counts : List (List Nat)
deriving DecidableEq, Repr, Inhabited

def Monitor.reset : Monitor := ⟨0, 0, [], []⟩

/-- A stack's base die (R414): which of its units have failed. -/
structure BaseDie where
  update : Bool
  tally  : Bool
deriving DecidableEq, Repr, Inhabited

/-- A keeping share (R420): the securing module, and the bytes of its two slots, with the size of the image being
written. -/
structure KeepShare where
  module : Nat
  slotA  : Mem
  slotB  : Mem
deriving DecidableEq, Repr, Inhabited

end Sys2Proof.Machine
end

