-- ==== Sys2Proof/Machine/State.lean ====
section
/-! DEFINITION. The machine's state, as plain data, and the machine right after the auxiliary supply starts (R588). -/

namespace Sys2Proof.Machine

/-- What leaves the module during a command. -/
inductive Output where
  /-- Data returned by a register read (R439, R591). -/
  | readData (p : HostPort) (data : List Byte)
  /-- An MSI-X message (R464, R593). -/
  | msix (p : HostPort) (vector : Nat)
  /-- A frame on a caravan port (R477). -/
  | frame (port : Nat) (f : Frame)
  /-- An answer on a management interface (R554, R557). -/
  | reply (dest : MgmtPort) (result : Nat) (data : List Byte)
  /-- The steward reports on a management interface that the module has failed (R64, R519). -/
  | moduleFailed (dest : MgmtPort)
  /-- A line of the steward's log (R589, R507). -/
  | log (code : Nat)
deriving DecidableEq, Repr

/-- The ordering codes (R6). -/
inductive VariantCode where
  | s24c8
  | s24c16
  | s48c16
deriving DecidableEq, Repr, Inhabited

/-- A region of the wafer. -/
structure Region where
  /-- The context that holds the region (R443). -/
  owner    : Option Nat
  /-- Dead cores, as local physical core numbers (R49, R544). -/
  dead     : List Nat
  /-- Lasting core faults recorded since the last micro-batch boundary (R51). -/
  newDead  : List Nat
  /-- Why the region is dark (R401). -/
  dark     : Option DarkCause
  /-- The region goes dark at its next micro-batch boundary (R418). -/
  darkDue  : Bool
  /-- Service cores failed, and failed with the takeover of their firmware due (R412). -/
  svcFailed : Nat
  /-- The thermal ceiling, and the samples in a row below its release temperature (R524). -/
  thermal  : Nat
  cool     : Nat
  /-- A bench refetch after a repair is in progress, and what it restores: logical cores' bench granules (R53, R268). -/
  refetch  : Bool
  restores : List (Nat × BenchHome)
  /-- Wall epochs that the region's own hold requests have held (R416). -/
  heldN    : Nat
  /-- Checks of the region's arrays, lanes and expanders that have mismatched (R416). -/
  checks   : Nat
  /-- Stack-independent refresh figures of the cellar layers (R273): the window of each, in ms. -/
  refresh  : List Nat
  /-- The riser, controllers and routers are sound (R401). -/
  proven   : Bool
  /-- RETEST and ROW_REPAIRS of the inventory (R544, R546). -/
  retest   : Bool
  rows     : Nat
  /-- The service core that loads the column router's banks (R84). -/
  svc      : SeqTime
deriving DecidableEq, Repr, Inhabited

def Region.reset : Region where
  owner := none
  dead := []
  newDead := []
  dark := none
  darkDue := false
  svcFailed := 0
  thermal := 16
  cool := 0
  refetch := false
  restores := []
  heldN := 0
  checks := 0
  refresh := List.replicate 8 64
  proven := false
  retest := false
  rows := 0
  svc := SeqTime.reset

structure State where
  /-- The ordering code, the stepping and the awning's serial number (R6, R9, R497). -/
  variant  : VariantCode
  stepping : W32
  serial   : W64
  /-- BAR0, by address: the word that each register holds (R578). -/
  regs     : Sp W32
  /-- The value in effect of each AP register whose written value is still staged (R15, R585). -/
  staged   : Sp (Option W32)
  /-- The latched high word of each port: the address it answers for and the word (R584). -/
  latches  : Sp (Option (Nat × W32))
  fabric   : Fabric
  cores    : Sp Core
  regions  : Sp Region
  ctxs     : Sp Ctx
  rings    : Sp Ring
  /-- Doorbells accepted so far, for the order of R20. -/
  bells    : Nat
  /-- Descriptors taken so far. -/
  takes    : Nat
  /-- The cellar, by byte: ((region × 10 + row-bay) × 262,144 + slot) × 65,536 + byte; and its poisoned granules. -/
  cellar   : Mem
  cellarBad : Sp Bool
  /-- The stockroom, by byte: physical crate × 65,536 + byte; and its poisoned granules. -/
  stock    : Mem
  stockBad : Sp Bool
  /-- Host memory behind H0 and H1. -/
  host0    : Mem
  host1    : Mem
  /-- Retired cellar slots, stockroom crates and channels (R544). -/
  retired  : List Retired
  /-- Spare physical stockroom crates in the pool (R280). -/
  spares   : Nat
  /-- Crates that stay retired for want of a spare, as context and crate, in the order in which they were retired (R280). -/
  short    : List (Nat × Nat)
  /-- Contexts whose teardown wipe is in progress. -/
  wipes    : List Nat
  /-- Stockroom base dies with a failed unit (R414). -/
  dies     : Sp BaseDie
  monitors : Sp Monitor
  keep     : List KeepShare
  foreman  : Foreman
  power    : Power
  boot     : Boot
  caravan  : Caravan
  mail0    : Mailbox
  mail1    : Mailbox
  snap     : Snapshot
  /-- The model's counter of free values (assumption 2). -/
  fresh    : Nat
  /-- What has left the module, oldest first. -/
  out      : List Output
  /-- The commands that are waiting, first in first out. -/
  pending  : List Instr
deriving DecidableEq, Repr, Inhabited

/-- The firmware that a module ships with: one valid image in slot A of each component (assumption 5). -/
def FwSlots.reset (k : Nat) : FwSlots := ⟨some ⟨Fin.ofNat 4 k, 1, 0, 0, true⟩, none, false, none⟩

/-- An inventory that records no repair (assumption 5). -/
def Inventory.fresh (gen : Nat) : Inventory := Inventory.sealed ⟨gen, 0x110#32, 0#64, 0#32, [], []⟩

def Boot.reset : Boot where
  invA := Inventory.fresh 1
  invB := Inventory.fresh 0
  fw := []
  revoked := []
  cold := false
  booted := false
  off := false
  owner := false
  nonces := []
  testing := []
  tested := []
  proven := []
  gained := 0
  stockDone := false
  busy := false
  wiping := true
  inReset := false
  resetBy := 2
  invDue := false

/-- The machine when the auxiliary supply starts: every register of both BARs at its reset value (R588), every memory
empty, no command waiting. -/
def State.reset : State where
  variant := .s48c16
  stepping := 0x110#32
  serial := 0#64
  regs := []
  staged := []
  latches := []
  fabric := Fabric.reset
  cores := []
  regions := []
  ctxs := []
  rings := []
  bells := 0
  takes := 0
  cellar := []
  cellarBad := []
  stock := []
  stockBad := []
  host0 := []
  host1 := []
  retired := []
  spares := 65536
  short := []
  wipes := []
  dies := []
  monitors := []
  keep := []
  foreman := Foreman.reset
  power := Power.reset
  boot := Boot.reset
  caravan := Caravan.reset
  mail0 := Mailbox.reset
  mail1 := Mailbox.reset
  snap := Snapshot.reset
  fresh := 0
  out := []
  pending := []

/-- Why a step stops with a fault: no command of this machine does (the spec gives every command an effect). -/
inductive Fault where
  /-- Raised by no command; safe. -/
  | none
deriving DecidableEq, Repr

/-- Why a step refuses a command. -/
inductive Refusal where
  /-- Raised by `exec` for a command that has no meaning yet; safe. -/
  | notModelled (mnemonic : String)
deriving DecidableEq, Repr

/-- The outcome of a command. -/
abbrev Out := Host.Outcome State Fault Refusal

end Sys2Proof.Machine
end

