-- ==== Sys2Proof/Machine/Ops.lean ====
section
/-! DEFINITION. The named operations over the state that the commands share: reading and changing a register, a core, a
region, a context; counting an event; marking a micro-batch doubtful; recording a fault. -/

namespace Sys2Proof.Machine

/-! Registers. -/

/-- The word that the register at `a` holds. -/
def State.reg (s : State) (a : Nat) : W32 := spGet regReset s.regs a
/-- Put a word in the register at `a`. -/
def State.setReg (s : State) (a : Nat) (v : W32) : State := { s with regs := spSet regReset s.regs a v }
/-- Add to a counter that wraps at 2^32. -/
def State.bump (s : State) (a n : Nat) : State := s.setReg a (s.reg a + BitVec.ofNat 32 n)
/-- Set bits of a sticky register. -/
def State.orReg (s : State) (a m : Nat) : State := s.setReg a (s.reg a ||| BitVec.ofNat 32 m)
/-- Change a field of a register. -/
def State.setRegFld (s : State) (a lo len v : Nat) : State := s.setReg a (setFld (s.reg a) lo len v)
/-- A field of a register. -/
def State.regFld (s : State) (a lo len : Nat) : Nat := fld (s.reg a) lo len
/-- One bit of a register. -/
def State.regBit (s : State) (a i : Nat) : Bool := bitAt (s.reg a) i

/-! Cores, regions, contexts. -/

def State.core (s : State) (k : Nat) : Core := spGet (fun _ => Core.reset) s.cores k
def State.setCore (s : State) (k : Nat) (c : Core) : State := { s with cores := spSet (fun _ => Core.reset) s.cores k c }
def State.modCore (s : State) (k : Nat) (f : Core → Core) : State := s.setCore k (f (s.core k))
def State.region (s : State) (r : Nat) : Region := spGet (fun _ => Region.reset) s.regions r
def State.setRegion (s : State) (r : Nat) (x : Region) : State :=
  { s with regions := spSet (fun _ => Region.reset) s.regions r x }
def State.modRegion (s : State) (r : Nat) (f : Region → Region) : State := s.setRegion r (f (s.region r))
def State.ctx (s : State) (c : Nat) : Ctx := spGet (fun _ => Ctx.reset) s.ctxs c
def State.setCtx (s : State) (c : Nat) (x : Ctx) : State := { s with ctxs := spSet (fun _ => Ctx.reset) s.ctxs c x }
def State.modCtx (s : State) (c : Nat) (f : Ctx → Ctx) : State := s.setCtx c (f (s.ctx c))

/-- The region of a logical core (R43). -/
def regionOf (l : Nat) : Nat := l / 120
/-- The region of a physical core (R44). -/
def regionOfPhys (k : Nat) : Nat := k / 143

/-- The physical core that carries a logical core: its region's skip row and the skip column of its physical row
(R44, R47, R48, R60). -/
def State.phys (s : State) (l : Nat) : Nat :=
  let r := l / 120
  let row := l % 120 / 12
  let col := l % 12
  let prow := if row < s.regFld (REGION_ROWMAP r) 0 4 then row else row + 1
  let pcol := if col < s.regFld (REGION_COLMAP r prow) 0 4 then col else col + 1
  r * 143 + prow * 13 + pcol

/-- The logical core that a physical site carries; none of a spare site (R47, R48). -/
def State.logical (s : State) (k : Nat) : Option Nat :=
  let r := k / 143
  let prow := k % 143 / 13
  let pcol := k % 13
  let sr := s.regFld (REGION_ROWMAP r) 0 4
  let sc := s.regFld (REGION_COLMAP r prow) 0 4
  if prow = sr ∨ pcol = sc then none
  else some (r * 120 + (if prow < sr then prow else prow - 1) * 12 + (if pcol < sc then pcol else pcol - 1))

/-! Event counters (R561, R562). -/

/-- Add to PMC`n` of a core and carry along its chain. -/
def State.addPmc (s : State) (k : Nat) : Nat → Nat → Nat → State
  | 0, _, _ => s
  | fuel + 1, n, amount =>
    if amount = 0 then s else
    let old := (s.reg (CORE_PMC k n)).toNat
    let s := s.setReg (CORE_PMC k n) (BitVec.ofNat 32 (old + amount))
    let carry := (old + amount) / 2 ^ 32
    if carry = 0 then s
    else if n < 7 ∧ s.regBit (CORE_PMC_CFG k n) 9 then
      if s.regBit (CORE_PMC_CFG k (n + 1)) 8 then s.addPmc k fuel (n + 1) carry else s
    else s.orReg (CORE_PERF_STATUS k) (2 ^ n)

/-- Whether PMC`n` counts only the carries of the counter before it (R562). -/
def State.chained (s : State) (k n : Nat) : Bool := decide (0 < n) && s.regBit (CORE_PMC_CFG k (n - 1)) 9

/-- Count `amount` occurrences of an event on a physical core: every enabled counter that selects it (R561), unless the
counters are frozen (R566). -/
def State.event (s : State) (k code amount : Nat) : State :=
  if s.regBit PERF_STATUS 0 then s else
  (List.range 8).foldl (fun s n =>
    if s.regBit (CORE_PMC_CFG k n) 8 && s.regFld (CORE_PMC_CFG k n) 0 8 == code && !s.chained k n then
      s.addPmc k 8 n amount
    else s) s

/-! Contexts and their registers. -/

/-- The value in effect of an AP register: the written one unless it is still staged (R15). -/
def State.eff (s : State) (a : Nat) : W32 := (spGet (fun _ => none) s.staged a).getD (s.reg a)
/-- A field of the value in effect. -/
def State.effFld (s : State) (a lo len : Nat) : Nat := fld (s.eff a) lo len
/-- A number taken as the nearer end of a range (R585). -/
def clampNat (lo hi v : Nat) : Nat := max lo (min hi v)

/-- CTX_STATUS STATE: 0 free, 1 enabled, 2 tearing down (R472). -/
def State.ctxState (s : State) (c : Nat) : Nat := s.regFld (CTX_STATUS c) 0 2
def State.ctxOn (s : State) (c : Nat) : Bool := s.ctxState c == 1
/-- The port that owns a context, as 0 or 1 (R442). -/
def State.ctxPort (s : State) (c : Nat) : Nat := s.regFld (CTX_STATUS c) 2 1
/-- The step phase of R31. -/
def State.phase (s : State) (c : Nat) : Nat := s.regFld (CTX_STATUS c) 4 3
/-- A new phase; while it is GATED a core of the context waits at a gate (R325, R335). -/
def State.setPhase (s : State) (c p : Nat) : State :=
  (s.setRegFld (CTX_STATUS c) 4 3 p).setRegFld (STREAM_STATUS c) 25 1 (if p = 1 then 1 else 0)
/-- The enabled contexts, in ascending order. -/
def State.contexts (s : State) : List Nat := (List.range 64).filter s.ctxOn
/-- The contexts that are not free. -/
def State.existing (s : State) : List Nat := (List.range 64).filter fun c => s.ctxState c != 0
/-- The regions that a context holds (R443). -/
def State.ctxRegions (s : State) (c : Nat) : List Nat :=
  (List.range 64).filter fun r => (s.region r).owner == some c
/-- A region that is dark (R401). -/
def State.isDark (s : State) (r : Nat) : Bool := (s.region r).dark.isSome
/-- The dark regions of a context's partition. -/
def State.darkOf (s : State) (c : Nat) : List Nat := (s.ctxRegions c).filter s.isDark
/-- A mask with a bit for each number of a list. -/
def maskOf (l : List Nat) : Nat := l.foldl (fun m i => m ||| 2 ^ i) 0

/-- Change the step in progress of a context. -/
def State.modStep (s : State) (c : Nat) (f : StepRun → StepRun) : State :=
  s.modCtx c fun x => { x with step := x.step.map f }
/-- Whether a context has a step in progress (R20). -/
def State.inStep (s : State) (c : Nat) : Bool := (s.ctx c).step.isSome

/-- What leaves the module. -/
def State.emit (s : State) (o : Output) : State := { s with out := s.out ++ [o] }
def State.modBoot (s : State) (f : Boot → Boot) : State := { s with boot := f s.boot }
def State.modPower (s : State) (f : Power → Power) : State := { s with power := f s.power }
/-- The opcode of a descriptor (R453). -/
def Desc.opc (d : Desc) : Nat := fld d.words 0 8
/-- Take a free value (assumption 2). -/
def State.free (s : State) : Nat × State := (Config.freeNat s.fresh, { s with fresh := s.fresh + 1 })

/-- The fabric's wall epoch. -/
def State.epoch (s : State) : Nat := s.fabric.epoch
def State.modFabric (s : State) (f : Fabric → Fabric) : State := { s with fabric := f s.fabric }

/-! Events (R429, R465). -/

/-- An event of a context: written at once when no window is open for its code and detail, else counted in the window. -/
def State.postEvent (s : State) (c code : Nat) (d0 d1 d2 : W32) : State :=
  let ring := s.effFld (CTX_EVENT_RING c) 0 14
  let e : Event := ⟨code, 0, s.epoch, s.reg (STREAM_STEP_COUNT c), d0, d1, d2⟩
  s.modCtx c fun x =>
    if x.windows.any (fun w => w.ring == ring && w.last.code == code && w.last.d0 == d0) then
      { x with windows := x.windows.map fun w =>
          if w.ring == ring && w.last.code == code && w.last.d0 == d0 then { w with reps := w.reps + 1, last := e } else w }
    else { x with events := x.events ++ [e], windows := x.windows ++ [⟨ring, 0, e⟩] }

/-- An event of every context's ring (R429). -/
def State.postAll (s : State) (code : Nat) (d0 d1 d2 : W32) : State :=
  s.existing.foldl (fun s c => s.postEvent c code d0 d1 d2) s

/-- A number as a detail word. -/
def w32 (n : Nat) : W32 := BitVec.ofNat 32 n

/-! The region grid (R40, R42). -/

/-- First region and first grid column of each region row (R40). -/
def rowFirst : List (Nat × Nat × Nat) :=
  [(0, 4, 3), (4, 8, 1), (12, 10, 0), (22, 10, 0), (32, 10, 0), (42, 10, 0), (52, 8, 1), (60, 4, 3)]
/-- The region row and grid column of a region. -/
def gridOf (r : Nat) : Nat × Nat :=
  match rowFirst.zipIdx.find? (fun e => decide (e.1.1 ≤ r ∧ r < e.1.1 + e.1.2.1)) with
  | some e => (e.2, e.1.2.2 + (r - e.1.1))
  | none => (0, 0)
/-- The region at a place of the grid. -/
def regionAt (row col : Nat) : Option Nat :=
  match rowFirst[row]? with
  | some e => if e.2.2 ≤ col ∧ col < e.2.2 + e.2.1 then some (e.1 + (col - e.2.2)) else none
  | none => none
/-- The neighbour of a region to the north, east, south or west (0 to 3). -/
def neighbour (r dir : Nat) : Option Nat :=
  let (row, col) := gridOf r
  match dir with
  | 0 => if row = 0 then none else regionAt (row - 1) col
  | 1 => regionAt row (col + 1)
  | 2 => regionAt (row + 1) col
  | _ => if col = 0 then none else regionAt row (col - 1)
/-- The regions that share an edge with a region (R42), in ascending order. -/
def neighbours (r : Nat) : List Nat :=
  (List.range 64).filter fun x => (List.range 4).any fun d => neighbour r d == some x
/-- The entry regions (R41). -/
def entryRegions : List Nat := [1, 22, 41, 62]
/-- The direction of the next region hop from `r` toward `e`: along the column first while that leads toward the wide
rows of the middle, else along the row first, so that the path stays on the wafer (assumption 12). -/
def hopDir (r e : Nat) : Nat :=
  let (r0, c0) := gridOf r
  let (r1, c1) := gridOf e
  let off (x : Nat) : Nat := if x ≤ 3 then 3 - x else x - 4
  let vert := if r1 < r0 then 0 else 2
  let horiz := if c1 < c0 then 3 else 1
  if r0 = r1 then horiz
  else if c0 = c1 then vert
  else if off r1 < off r0 ∨ (off r1 = off r0) then vert else horiz

/-! Faults. -/

/-- Mark a micro-batch of a context doubtful on this module (R25). -/
def State.doubt (s : State) (c mb : Nat) : State := s.modCtx c fun x => { x with doubt := insertNew mb x.doubt }

/-- The foreman's active instance runs. -/
def State.foremanOn (s : State) : Bool := s.foreman.active && s.foreman.takeover.isNone && s.foreman.lost.isNone

/-- A control frame as its router makes it (R80): type, code, source, micro-batch, context and the bits from 104 on. EPOCH and
CRC are 0 until it is sent. -/
def ctlFrame (type_ code source mb ctx rest : Nat) : W256 :=
  BitVec.ofNat 256 (type_ + (code <<< 4) + (source <<< 16) + ((mb % 65536) <<< 80) + ((ctx % 256) <<< 96) + ((rest % 2 ^ 136) <<< 104))

/-- The CRC-16 over a control frame's bits below 240 (R80, R622). -/
def ctlCrc (f : W256) : W256 :=
  let n := fld f 0 240
  BitVec.ofNat 256 (n + ((crcMsb 16 0x1021#16 0xFFFF#16 (leBytes 30 n)).toNat <<< 240))

/-- A frame as it is first sent, in a wall epoch (R80). -/
def stampCtl (epoch : Nat) (f : W256) : W256 := ctlCrc (setFld f 32 48 epoch)

/-- The SOURCE that names a router (R80): a logical core's, a column router, a service router. -/
def sourceOf (n : Nat) : Nat := if n < 7680 then n else if n < 7744 then 0x8040 + (n - 7680) else 0x8000 + (n - 7744)

/-- A control frame put into a router's queue for a link (R81); `own` says that it begins here. -/
def State.queueFrame (s : State) (router link : Nat) (f : W256) (own : Bool) : State :=
  s.modFabric fun b => { b with ctl := b.ctl ++ [⟨router, link, f, own⟩] }

/-- A FAULT frame of the region (R80, R82, R104, R409): a core's goes by its router to the region's service router; the service
router's own goes toward all four entry regions, and to the foreman's cores where it stands in one. The fault code is a free
value (assumption 2). -/
def State.sendFault (s : State) (r : Nat) (source : Option Nat) (mb ctx : Nat) : State :=
  let (n, s) := s.free
  let code := (Config.faultCode n).toNat
  match source with
  | some l => s.queueFrame l 8 (ctlFrame 3 code l mb ctx 0) true
  | none =>
    ((if entryRegions.contains r then [8] else []) ++ ((entryRegions.filter (· ≠ r)).map (hopDir r)).eraseDups).foldl
      (fun s d => s.queueFrame (7744 + r) d (ctlFrame 3 code (0x8000 + r) mb ctx 0) true) s

/-- Mark the micro-batch doubtful in the context that holds the region, with a FAULT frame from logical core `source`. -/
def State.doubtRegion (s : State) (r mb : Nat) (source : Option Nat := none) : State :=
  match (s.region r).owner with
  | some c => (s.doubt c mb).sendFault r source mb c
  | none => s

/-- The current micro-batch of a core becomes doubtful. -/
def State.doubtCore (s : State) (k : Nat) : State :=
  s.doubtRegion (regionOfPhys k) (s.core k).mb (s.logical k)

/-- Core cycles that a core loses beyond its planned work come out of its slack (R93, R146, R236). -/
def State.delay (s : State) (k n : Nat) : State :=
  s.modCore k fun c => { c with time := { c.time with slack := c.time.slack - (n : Int) } }

/-- A transient fault is counted (R398, R430). -/
def State.transient (s : State) : State := s.bump HEALTH_FAULTS_TRANSIENT 1
/-- A lasting fault is counted (R398, R430). -/
def State.lasting (s : State) : State := s.bump HEALTH_FAULTS_LASTING 1

/-- A check of a core's array, lanes or expander mismatches (R416). -/
def State.mismatch (s : State) (k n : Nat) : State := s.modRegion (regionOfPhys k) fun r => { r with checks := r.checks + n }

/-- A lasting fault of a core (R50, R140, R239): it is counted, the core is marked until its repair, the region records
it for the next micro-batch boundary (R51), and the current micro-batch becomes doubtful. -/
def State.lastingCore (s : State) (k : Nat) : State :=
  let s := s.lasting
  let s := s.modCore k fun c => { c with lasting := true }
  let s := s.modRegion (regionOfPhys k) fun r => { r with newDead := insertNew (k % 143) r.newDead }
  s.doubtCore k

/-! Descriptors. -/

/-- The taken descriptor of a number. -/
def State.desc (s : State) (c no : Nat) : Option Desc := (s.ctx c).taken.find? fun d => d.no == no
/-- The context named in a ring's RING_CONFIG. -/
def State.ringCtx (s : State) (ring : Nat) : Nat := s.regFld (RING_CONFIG ring) 8 6
def State.ring (s : State) (n : Nat) : Ring := spGet (fun _ => Ring.reset) s.rings n
def State.modRing (s : State) (n : Nat) (f : Ring → Ring) : State :=
  { s with rings := spSet (fun _ => Ring.reset) s.rings n (f (s.ring n)) }
/-- Change one taken descriptor. -/
def State.modDesc (s : State) (c no : Nat) (f : Desc → Desc) : State :=
  s.modCtx c fun x => { x with taken := x.taken.map fun d => if d.no == no then f d else d }
/-- A descriptor completes: its entry now waits for its turn and for room (R433, R463). -/
def State.complete (s : State) (c no status reason : Nat) (code : Nat := 0) (result : Nat := 0) : State :=
  s.modDesc c no fun d =>
    if d.result.isNone then { d with started := true, result := some ⟨status, code, reason, result⟩ } else d
/-- A descriptor has started and is not yet complete. -/
def State.start (s : State) (c no : Nat) : State := s.modDesc c no fun d => { d with started := true }

end Sys2Proof.Machine
end

