-- ==== Sys2Proof/Machine/Operands.lean ====
section
/-! DEFINITION. Operand forms: elements packed in the bench (R118, R156), tile headers (R245 to R248), tiles as the array
reads them (R116 to R120, R250, R258), the fields of vector instructions (R205) and their elements. -/

namespace Sys2Proof.Machine

/-- Granules of a bench (R266). -/
def benchGrans : Nat := 65536

/-- `n` elements of `b` bits from bit `8 × a` of a memory on: packed as one little-endian bit stream, which is the packing
of R118 and R156. -/
def unpackElems (m : Mem) (a b n : Nat) : List Nat :=
  let bits := m.readNat a ((n * b + 7) / 8)
  (List.range n).map fun i => nfld bits (i * b) b

/-- Elements as the number whose bits are their packed stream. -/
def packElems (b : Nat) (es : List Nat) : Nat := es.foldr (fun e x => e % 2 ^ b + (x <<< b)) 0

/-- A tile header's fields (R245). -/
structure TileHdr where
  fmt      : Nat
  dense    : Bool
  orient   : Bool
  scale    : Nat
  tscale   : Nat
  nblk     : Nat
  nnz      : Nat
  total    : Nat
  blocks   : Nat
  tileword : Nat
  resv     : Bool
deriving DecidableEq, Repr

/-- The header that a granule spells. -/
def TileHdr.ofNat (h : Nat) : TileHdr where
  fmt := nfld h 0 4
  dense := nfld h 4 1 = 1
  orient := nfld h 5 1 = 1
  scale := nfld h 6 2
  tscale := nfld h 8 8
  nblk := nfld h 16 7
  nnz := nfld h 24 13
  total := nfld h 40 10
  blocks := nfld h 64 64
  tileword := nfld h 128 32
  resv := nfld h 23 1 = 0 ∧ nfld h 37 3 = 0 ∧ nfld h 50 14 = 0 ∧ nfld h 160 96 = 0

/-- The granule that a header is stored as. -/
def TileHdr.toNat (h : TileHdr) : Nat :=
  h.fmt + bitN h.dense 4 + bitN h.orient 5 + (h.scale <<< 6) + (h.tscale <<< 8) + (h.nblk <<< 16) + (h.nnz <<< 24) +
  (h.total <<< 40) + (h.blocks <<< 64) + (h.tileword <<< 128)

/-- Ones among the low `n` bits. -/
def popCount (x : Nat) : Nat → Nat
  | 0 => 0
  | n + 1 => popCount x n + nfld x n 1

/-- Header and scale granules of a tile (R251). -/
def TileHdr.headGrans (h : TileHdr) : Nat := if h.scale = 2 then 5 else 1

/-- A tile's dense size in granules (R251). -/
def TileHdr.denseGrans (h : TileHdr) : Nat := h.headGrans + 16 * fmtBits h.fmt

/-- A tile's sparse size in granules (R251). -/
def TileHdr.sparseGrans (h : TileHdr) : Nat := h.headGrans + (h.nblk + 3) / 4 + (h.nnz * fmtBits h.fmt + 255) / 256

/-- The first two conditions of R248. -/
def TileHdr.fieldsOk (h : TileHdr) : Bool :=
  h.resv && h.fmt != 0xC && h.fmt != 0xD && h.fmt != 0xF && h.scale != 3 &&
  (h.scale == 1 || h.tscale == 0) && (h.fmt == 0xE || h.tileword == 0) &&
  (h.scale == 0 || h.fmt ≤ 5)

/-- The element bitmaps of the marked blocks, in ascending block number (R247). -/
def tileBitmaps (m : Mem) (a : Nat) (h : TileHdr) : List Nat :=
  (List.range h.nblk).map fun k => m.readNat ((a + h.headGrans) * 32 + 8 * k) 8

/-- Whether a stored tile's header is well formed (R248). -/
def TileHdr.wellFormed (m : Mem) (a : Nat) (h : TileHdr) : Bool :=
  h.fieldsOk && (h.dense || h.fmt ≤ 8) && h.nblk == popCount h.blocks 64 &&
  h.total == (if h.dense then h.denseGrans else h.sparseGrans) &&
  (h.dense || (let maps := tileBitmaps m a h
    maps.all (fun x => x != 0) && h.nnz == (maps.map fun x => popCount x 64).foldl (· + ·) 0))

/-- The block numbers marked in a block bitmap, ascending. -/
def markedBlocks (blocks : Nat) : List Nat := (List.range 64).filter fun b => nfld blocks b 1 = 1

/-- Values given out to the ones of a bitmap in ascending place; zeros elsewhere. What is left is answered too. -/
def spreadBits (map : Nat) (vals : List Nat) : Nat → Nat → List Nat → List Nat × List Nat
  | 0, _, acc => (acc.reverse, vals)
  | n + 1, i, acc =>
    if nfld map i 1 = 1 then
      match vals with
      | v :: vs => spreadBits map vs n (i + 1) (v :: acc)
      | [] => spreadBits map [] n (i + 1) (0 :: acc)
    else spreadBits map vals n (i + 1) (0 :: acc)

/-- The 64 elements of each block, in ascending block number, of a sparse-stored tile. -/
def sparseBlocks (marked : List Nat) : List Nat → List Nat → Nat → List (List Nat)
  | maps, vals, n =>
    match n with
    | 0 => []
    | k + 1 =>
      let b := 64 - (k + 1)
      if b ∈ marked then
        match maps with
        | mp :: maps =>
          let (es, rest) := spreadBits mp vals 64 0 []
          es :: sparseBlocks marked maps rest k
        | [] => List.replicate 64 0 :: sparseBlocks marked [] vals k
      else List.replicate 64 0 :: sparseBlocks marked maps vals k

/-- The 4,096 raw elements of a stored tile, row by row, as the array's expander gives them: absent elements, and the
elements of unmarked blocks, are +0 (R243, R250, R260). -/
def tileElems (m : Mem) (a : Nat) (h : TileHdr) : List (List Nat) :=
  if h.dense then
    let all := unpackElems m ((a + h.headGrans) * 32) (fmtBits h.fmt) 4096
    let rows := chunks 64 64 all
    rows.zipIdx.map fun (row, r) => row.zipIdx.map fun (e, c) => if nfld h.blocks (8 * (r / 8) + c / 8) 1 = 1 then e else 0
  else
    let vals := unpackElems m ((a + h.headGrans + (h.nblk + 3) / 4) * 32) (fmtBits h.fmt) h.nnz
    let bl := sparseBlocks (markedBlocks h.blocks) (tileBitmaps m a h) vals 64
    (List.range 64).map fun r => ((List.range 8).map fun bc =>
      (((bl.getD (8 * (r / 8) + bc) []).drop (8 * (r % 8))).take 8)).flatten

/-- The MX scale bytes of a stored tile, and the scale byte of each element (R247); none where the tile has no scale. -/
def tileScale (m : Mem) (a : Nat) (h : TileHdr) : Nat → Nat → Option Nat :=
  let mx := m.readNat ((a + 1) * 32) 128
  fun r c =>
    if h.scale = 1 then some h.tscale
    else if h.scale = 2 then
      some (if h.orient then nfld mx (8 * (2 * c + r / 32)) 8 else nfld mx (8 * (2 * r + c / 32)) 8)
    else none

/-- Whether a scale of the tile is 0xFF (R258). -/
def tileHasFF (m : Mem) (a : Nat) (h : TileHdr) : Bool :=
  if h.scale = 1 then h.tscale = 0xFF
  else if h.scale = 2 then
    let mx := m.readNat ((a + 1) * 32) 128
    (List.range 128).any fun i => nfld mx (8 * i) 8 = 0xFF
  else false

/-- The rows of a matrix as columns. -/
def transpose (rows : List (List FVal)) : List (List FVal) :=
  rows.foldr (fun row cols => List.zipWith (fun e col => e :: col) row cols) (List.replicate 64 [])

/-- A block bitmap with block rows and columns exchanged (R259). -/
def transposeBlocks (b : Nat) : Nat :=
  (List.range 64).foldl (fun x i => x + (nfld b (8 * (i % 8) + i / 8) 1) <<< i) 0

/-- The operand that a tile instruction names, as used with its transposition. `half` multiplies the integers of a scaled
INT8 operand by 2^-6 (R117). -/
def loadOperand (m : Mem) (a : Nat) (trans : Bool) : TileOperand :=
  let h := TileHdr.ofNat (m.readNat (a * 32) 32)
  let sc := tileScale m a h
  let rows := (tileElems m a h).zipIdx.map fun (row, r) => row.zipIdx.map fun (e, c) =>
    let v := decodeElem h.fmt e
    let v := if h.fmt = 5 ∧ h.scale ≠ 0 then v.scale (-6) else v
    match sc r c with
    | some b => v.scaleE8 b
    | none => v
  let ff := tileHasFF m a h
  { rows := if trans then transpose rows else rows
    blocks := if trans then transposeBlocks h.blocks else h.blocks
    nblk := h.nblk
    sparse := h.nblk ≤ 36 && !ff
    ffDense := h.nblk ≤ 36 && ff
    ff := ff }

/-- The kinds of operands that R115 pairs. -/
inductive PairKind where
  | narrow
  | int8
  | int4
  | half
deriving DecidableEq, Repr

/-- The kind of an operand of a format and a scale mode; none where R116 admits no such operand. -/
def pairKind (fmt scl : Nat) : Option PairKind :=
  match fmt with
  | 0x0 | 0x1 | 0x2 | 0x3 | 0x4 => if scl ≤ 2 then some .narrow else none
  | 0x5 => if scl = 0 then some .int8 else if scl = 2 then some .narrow else none
  | 0x6 => if scl = 0 then some .int4 else none
  | 0x7 | 0x8 => if scl = 0 then some .half else none
  | _ => none

/-- The accumulator class of a pair of R115 (true: INT32); none where the pair is not listed. -/
def pairClass (a b : PairKind) : Option Bool :=
  match a, b with
  | .narrow, .narrow => some false
  | .half, .half => some false
  | .int8, .int8 | .int8, .int4 | .int4, .int8 | .int4, .int4 => some true
  | _, _ => none

/-- The dense compute cycles of an operand pair (R124). -/
def pairCycles (fa fb : Nat) (a b : PairKind) : Nat :=
  match a, b with
  | .half, _ => 256
  | .int4, .int4 => 32
  | .narrow, .narrow => if fa = 4 ∧ fb = 4 then 32 else 64
  | _, _ => 64

/-! Vector instructions. -/

/-- The fields of a vector instruction (R205). -/
structure VInstr where
  opc    : Nat
  fmt    : Nat
  vd     : Nat
  va     : Nat
  vb     : Nat
  vc     : Nat
  mreg   : Nat
  masken : Bool
  zero   : Bool
  bcast  : Bool
  sr     : Bool
  count  : Nat
  aux    : Nat
  resv   : Nat
deriving DecidableEq, Repr

/-- The instruction that a word spells. -/
def VInstr.ofWord (w : W64) : VInstr where
  opc := fld w 0 8
  fmt := fld w 8 4
  vd := fld w 12 4
  va := fld w 16 4
  vb := fld w 20 4
  vc := fld w 24 4
  mreg := fld w 28 3
  masken := bitAt w 31
  zero := bitAt w 32
  bcast := bitAt w 33
  sr := bitAt w 34
  count := fld w 35 14
  aux := fld w 49 8
  resv := fld w 57 7

/-- The elements of a register from 0 to `n - 1`. -/
def Core.vlist (c : Core) (v n : Nat) : List W32 := denseFrom 0#32 0 n (spSlice (v * 8192) n c.vregs)
/-- The bits of a mask register from 0 to `n - 1`. -/
def Core.mlist (c : Core) (m n : Nat) : List Bool := denseFrom false 0 n (spSlice (m * 8192) n c.mregs)
/-- Elements 0 to `n - 1` of a vector register replaced; the rest keep their values (R209). -/
def Core.putV (c : Core) (v : Nat) (es : List W32) : Core :=
  { c with vregs := spPut (v * 8192) es.length (sparseFrom 0#32 0 es) c.vregs }
/-- Bits 0 to `n - 1` of a mask register replaced. -/
def Core.putM (c : Core) (m : Nat) (bs : List Bool) : Core :=
  { c with mregs := spPut (m * 8192) bs.length (sparseFrom false 0 bs) c.mregs }

/-- Which of the elements below COUNT are active (R210). -/
def VInstr.active (i : VInstr) (c : Core) : List Bool :=
  if i.masken then c.mlist i.mreg i.count else List.replicate i.count true

/-- The elements that an instruction reads as VB: element i reads VB at ⌊i / 64⌋ under BCAST (R205). -/
def VInstr.bElems (i : VInstr) (c : Core) : List W32 :=
  let es := c.vlist i.vb i.count
  if i.bcast then (List.range i.count).map fun k => c.velem i.vb (k / 64) else es

end Sys2Proof.Machine
end

