-- ==== Sys2Proof/Machine/Arrays.lean ====
section
/-! DEFINITION. The matrix arrays (R115 to R151) and the array's side of sparse tiles (R258 to R263). -/

namespace Sys2Proof.Machine

/-! Status flags of an accumulator, at the places of the status granule (R123). -/
def accSAT : Nat := 0x1
def accOVF : Nat := 0x2
def accINF_IN : Nat := 0x4
def accNAN : Nat := 0x8
def accSCALE_NAN : Nat := 0x10
def accRETRIED : Nat := 0x20
def accDOUBT : Nat := 0x40
def accILLEGAL : Nat := 0x80

/-- The sequencer issues an instruction: it counts as an event and towards the next sample tag (R567, R568). -/
def State.issued (s : State) (k : Nat) : State :=
  let s := s.event k 0x18 1
  if s.regBit PERF_STATUS 0 then s else s.modCore k fun c => { c with countdown := c.countdown - 1 }

/-- The term that two operand elements give: their exact product, or +0 where the lead operand's block is skipped
(R131, R263); flags of R123. -/
def tileTerm (skip : Bool) (x y : FVal) : FVal × Nat :=
  if skip then (.zero, 0)
  else ((x.mul y).1, if x.isInf || y.isInf then accINF_IN else 0)

/-- A sum rounded once to FP32 (R131), with OVF where finite values gave an infinity. -/
def sumRounded (a b : FVal) : FVal × Nat :=
  let v := (a.add b).1
  let (r, fl) := fp32.arith v
  (fp32.decode r, if fl = stOVF then accOVF else 0)

/-- The chain of additions of one element of P: the first product exactly, each later one with one rounding to FP32
(R131). -/
def chainF32 (skips : List Bool) (xs ys : List FVal) : FVal × Nat :=
  let terms := List.zipWith (fun sk xy => tileTerm sk xy.1 xy.2) skips (List.zip xs ys)
  match terms with
  | [] => (.zero, 0)
  | t :: ts => ts.foldl (fun acc u =>
      let (v, fl) := sumRounded acc.1 u.1
      (v, acc.2 ||| fl ||| u.2)) t

/-- The integer that a plain integer operand element names. -/
def FVal.toInt (v : FVal) : Int := v.roundInt

/-- One element of an integer P: the exact sum of the products (R132). -/
def chainInt (xs ys : List FVal) : Int := (List.zipWith (fun x y => x.toInt * y.toInt) xs ys).foldl (· + ·) 0

/-- Which operand leads a sparse operation (R259): `some true` op(A), `some false` op(B), none of a dense operation. -/
def sparseLead (a b : TileOperand) : Option Bool := if a.sparse then some true else if b.sparse then some false else none

/-- The skipped terms of the element in row `i` and column `j`, by reduction index (R259, R263). -/
def skipRow (lead : Option Bool) (a b : TileOperand) (i j : Nat) : List Bool :=
  (List.range 64).map fun k =>
    match lead with
    | some true => nfld a.blocks (8 * (i / 8) + k / 8) 1 = 0
    | some false => nfld b.blocks (8 * (k / 8) + j / 8) 1 = 0
    | none => false

/-- The product register P of an operation, 4,096 elements row by row, and the status flags that forming it sets. -/
def tileProduct (isInt : Bool) (a b : TileOperand) : Sp W32 × Nat :=
  let cols := transpose b.rows
  let lead := sparseLead a b
  if isInt then
    (sparseFrom 0#32 0 ((a.rows.map fun x => cols.map fun y => BitVec.ofInt 32 (chainInt x y)).flatten), 0)
  else
    let es := (a.rows.zipIdx.map fun (x, i) => cols.zipIdx.map fun (y, j) =>
      let (v, fl) := chainF32 (skipRow lead a b i j) x y
      (toF32 v, fl)).flatten
    (sparseFrom 0#32 0 (es.map fun e => e.1), es.foldl (fun fl e => fl ||| e.2) 0)

/-- The compute cycles of an operation (R124, R261), never fewer than one block step (R262). -/
def tileCycles (dense : Nat) (a b : TileOperand) : Nat :=
  match sparseLead a b with
  | some true => dense / 8 * max 1 ((a.nblk + 7) / 8)
  | some false => dense / 8 * max 1 ((b.nblk + 7) / 8)
  | none => dense

/-- P added to an accumulator, or put in its place by a TMMAZ (R131, R132): the new elements, flags of R123. -/
def accAdd (isInt zeroing : Bool) (old p : Sp W32) : Sp W32 × Nat :=
  let ps := denseFrom 0#32 0 4096 p
  if zeroing then
    (p, if !isInt && ps.any fun w => (f32 w).isNan then accNAN else 0)
  else
    let es := List.zipWith (fun o q =>
      if isInt then
        let (v, sat) := addI32 o q
        (v, if sat then accSAT else 0)
      else
        let (v, fl) := addF32 o q
        (v, (if fl &&& stOVF ≠ 0 then accOVF else 0) ||| (if (f32 v).isNan then accNAN else 0)))
      (denseFrom 0#32 0 4096 old) ps
    (sparseFrom 0#32 0 (es.map fun e => e.1), es.foldl (fun fl e => fl ||| e.2) 0)

/-- The sticky bits of REGION_ARRAY_STATUS that go with accumulator flags (R151). -/
def arraySticky (fl : Nat) : Nat :=
  (if fl &&& accSAT ≠ 0 then 0x10 else 0) ||| (if fl &&& accNAN ≠ 0 then 0x20 else 0) |||
  (if fl &&& accILLEGAL ≠ 0 then 0x8 else 0)

/-- The status flags of an accumulator joined with more, and the region's sticky bits with them. -/
def State.accFlags (s : State) (k a fl : Nat) : State :=
  let s := s.modCore k fun c =>
    let x := c.acc a
    c.setAcc a { x with flags := x.flags ||| BitVec.ofNat 8 fl }
  s.orReg (REGION_ARRAY_STATUS (regionOfPhys k)) (arraySticky fl)

/-- TZERO (R120). -/
def Core.zeroAcc (c : Core) (a : Nat) : Core := c.setAcc a TileAcc.zero

/-- The drained form of an accumulator's elements: as held, or with DFMT an INT32 accumulator as FP32 (R123). -/
def drainElems (x : TileAcc) (dfmt : Bool) : List W32 :=
  (denseFrom 0#32 0 4096 x.elems).map fun w => if dfmt && x.isInt then toF32 (FVal.ofInt w.toInt) else w

/-- The status granule (R123). -/
def statusGranule (x : TileAcc) : Nat := x.flags.toNat + bitN x.isInt 8 + (x.ops.toNat <<< 32)

/-- The bytes of 32-bit words. -/
def wordsBytes (ws : List W32) : List Byte := (ws.map fun w => leBytes 4 w.toNat).flatten

/-- A range of bench granules written: the bytes, and the poisoned marks of the granules it covers cleared. -/
def Core.writeBench (c : Core) (g : Nat) (bytes : List Byte) : Core :=
  let c := c.unhome g ((bytes.length + 31) / 32)
  { c with bench := c.bench.write (g * 32) bytes
           poison := c.poison.filter fun p => p < g || g + (bytes.length + 31) / 32 ≤ p }

/-- The accumulator's rows and its status granule in the bench (R123). -/
def Core.drain (c : Core) (a dest : Nat) (clr dfmt : Bool) : Core :=
  let x := c.acc a
  let c := c.writeBench dest (wordsBytes (drainElems x dfmt) ++ leBytes 32 (statusGranule x))
  if clr then c.zeroAcc a else c

/-- The class that an accumulator will have when every instruction in the list has completed (R120, R121). -/
def classAfter (a : Nat) (isInt : Bool) (ops : List TileOp) : Bool :=
  ops.foldl (fun c o => if o.acc ≠ a then c else
    match o.kind with
    | .mma true i _ _ _ => i
    | .drain _ true _ => false
    | .zero => false
    | _ => c) isInt

/-- A product of the queue: TMMA or TMMAZ. -/
def TileOp.multiplies (o : TileOp) : Bool :=
  match o.kind with
  | .mma _ _ _ _ _ => true
  | _ => false

/-- Whether a queued instruction may complete now: a product once its check has passed and every earlier addition is made, a
TDRAIN after every earlier operation on its accumulator, and the others in issue order (R145). -/
def tileReady (earlier : List TileOp) (o : TileOp) : Bool :=
  match o.kind, o.stage with
  | .mma _ _ _ _ _, .passed _ _ => earlier.isEmpty
  | .mma _ _ _ _ _, _ => false
  | .drain _ _ _, _ => earlier.all fun e => e.acc ≠ o.acc
  | _, _ => earlier.isEmpty

/-- What a read of an accumulator meets: corrected single-bit errors are counted (R138), and each element with an uncorrectable
error, whose value is open from then on (assumption 2), is a lasting fault of the core (R143). -/
def State.accRead (s : State) (k a : Nat) (x : AccRead) : State :=
  let r := regionOfPhys k
  let s := if x.corr = 0 then s else (s.bump (REGION_ACC_CORR r) x.corr).event k 0x17 x.corr
  x.lost.foldl (fun s e =>
    let v : W32 := BitVec.ofNat 32 (Config.freeNat s.fresh)
    let s := { s with fresh := s.fresh + 1 }
    let s := s.modCore k fun c => let x := c.acc a; c.setAcc a { x with elems := spSet zeroW x.elems e v }
    let s := s.accFlags k a accDOUBT
    ((s.bump (REGION_TILE_FAIL r) 1).orReg (REGION_ARRAY_STATUS r) 0x6).lastingCore k) s

/-- An operation whose check has passed adds its P (R131, R132, R139): the accumulator, its status and OPS, and the
counts of a retry. -/
def State.tileAdd (s : State) (k : Nat) (o : TileOp) (zeroing isInt : Bool) (p : Sp W32) (flags : Nat) : State :=
  let r := regionOfPhys k
  let x := (s.core k).acc o.acc
  let (es, fl) := accAdd isInt zeroing x.elems p
  let fl := fl ||| flags ||| (if o.retried then accRETRIED else 0)
  let base := if zeroing then 0#8 else x.flags
  let ops := if zeroing then 1#32 else satAdd32 x.ops 1
  let s := s.modCore k fun c => c.setAcc o.acc ⟨isInt, base ||| BitVec.ofNat 8 fl, ops, es⟩
  let s := s.orReg (REGION_ARRAY_STATUS r) (arraySticky fl ||| (if o.retried then 0x1 else 0))
  let s := s.event k 0x03 1
  let s := if o.retried then ((s.bump (REGION_TILE_RETRY r) 1).event k 0x05 1).transient else s
  s.accRead k o.acc o.reads

/-- The effect of an instruction at its turn. -/
def State.tileComplete (s : State) (k : Nat) (o : TileOp) : State :=
  match o.kind, o.stage with
  | .mma zeroing isInt _ _ _, .passed p fl => s.tileAdd k o zeroing isInt p fl
  | .mma _ _ _ _ _, _ => s
  | .drain d clr dfmt, _ => (s.accRead k o.acc o.reads).modCore k fun c => c.drain o.acc d clr dfmt
  | .zero, _ => s.modCore k fun c => c.zeroAcc o.acc
  | .illegal, _ => s.accFlags k o.acc accILLEGAL

/-- Complete every queued instruction whose turn has come; `kept` are those before it that still wait. -/
def State.flushTiles (s : State) (k : Nat) (kept : List TileOp) : List TileOp → State
  | [] => s.modCore k fun c => { c with ops := kept }
  | o :: os =>
    if tileReady kept o then (s.tileComplete k o).flushTiles k kept os
    else s.flushTiles k (kept ++ [o]) os

/-- Put an instruction at the end of the queue, and complete what may. -/
def State.enqueueTile (s : State) (k : Nat) (o : TileOp) : State :=
  s.flushTiles k [] ((s.core k).ops ++ [o])

/-- The fields of a tile instruction (R120). -/
structure TileInstr where
  opc  : Nat
  fa   : Nat
  fb   : Nat
  sa   : Nat
  sb   : Nat
  ta   : Bool
  tb   : Bool
  acc  : Nat
  clr  : Bool
  dfmt : Bool
  resv : Bool
  aa   : Nat
  ba   : Nat
  da   : Nat
deriving DecidableEq, Repr

/-- The instruction that a word spells. -/
def TileInstr.ofWord (w : BitVec 128) : TileInstr where
  opc := fld w 0 8
  fa := fld w 8 4
  fb := fld w 12 4
  sa := fld w 16 2
  sb := fld w 18 2
  ta := bitAt w 20
  tb := bitAt w 21
  acc := fld w 22 3
  clr := bitAt w 25
  dfmt := bitAt w 26
  resv := fld w 27 5 = 0 ∧ fld w 80 48 = 0
  aa := fld w 32 16
  ba := fld w 48 16
  da := fld w 64 16

/-- The class of a multiplying instruction's operation; none where its formats or scale modes are reserved or its pair is
illegal (R116, R122). -/
def TileInstr.pair (i : TileInstr) : Option (PairKind × PairKind × Bool) :=
  match pairKind i.fa i.sa, pairKind i.fb i.sb with
  | some a, some b => (pairClass a b).map fun c => (a, b, c)
  | _, _ => none

/-- Whether an operand's stored tile agrees with the instruction and is well formed (R248, R249). -/
def operandOk (m : Mem) (a fmt scl : Nat) : Bool :=
  let h := TileHdr.ofNat (m.readNat (a * 32) 32)
  h.wellFormed m a && h.fmt == fmt && h.scale == scl

/-- Whether a stored tile would pass the end of the bench (R122). -/
def operandFits (m : Mem) (a : Nat) : Bool := a + (TileHdr.ofNat (m.readNat (a * 32) 32)).total ≤ benchGrans

/-- Whether a granule of a range is marked poisoned. -/
def Core.poisoned (c : Core) (g n : Nat) : Bool := c.poison.any fun p => decide (g ≤ p) && decide (p < g + n)

/-- An illegal tile instruction (R122): no accumulator changes but its ILLEGAL flag, in issue order, and the current
micro-batch is doubtful. -/
def State.illegalTile (s : State) (k a : Nat) : State :=
  let s := s.doubtCore k
  s.enqueueTile k { kind := .illegal, acc := a }

/-- The compute cycles of a multiplying instruction on its operands (R124, R261). -/
def TileInstr.cycles (i : TileInstr) (a b : TileOperand) : Nat :=
  match i.pair with
  | some (pa, pb, _) => tileCycles (pairCycles i.fa i.fb pa pb) a b
  | none => 0

/-- A multiplying tile instruction of the sequencer on physical core `k` (R120 to R122, R131, R249, R258). The headers are
checked before the tiles' ends, and what they read beyond the bench is 0 (assumption 56). -/
def State.multiply (s : State) (k : Nat) (zeroing : Bool) (w : BitVec 128) : State :=
  let i := TileInstr.ofWord w
  let c := s.core k
  let r := regionOfPhys k
  match i.pair with
  | none => s.illegalTile k i.acc
  | some (_, _, cls) =>
    if !i.resv || (!zeroing && classAfter i.acc (c.acc i.acc).isInt c.ops != cls) then s.illegalTile k i.acc
    else if !operandOk c.bench i.aa i.fa i.sa || !operandOk c.bench i.ba i.fb i.sb then
      (s.orReg (REGION_SPARSE_STATUS r) 0x1).illegalTile k i.acc
    else if !operandFits c.bench i.aa || !operandFits c.bench i.ba then s.illegalTile k i.acc
    else
      let a := loadOperand c.bench i.aa i.ta
      let b := loadOperand c.bench i.ba i.tb
      let ha := TileHdr.ofNat (c.bench.readNat (i.aa * 32) 32)
      let hb := TileHdr.ofNat (c.bench.readNat (i.ba * 32) 32)
      let s := if a.ffDense || b.ffDense then s.orReg (REGION_SPARSE_STATUS r) 0x8 else s
      let s := if (sparseLead a b).isSome then (s.bump (REGION_SPARSE_OPS r) 1).event k 0x04 1 else s
      let s := s.event k 0x07 (i.cycles a b)
      let s := if c.lasting || c.poisoned i.aa ha.total || c.poisoned i.ba hb.total then s.doubtCore k else s
      s.enqueueTile k { kind := .mma zeroing cls w a b, acc := i.acc }

/-- Whether a word's opcode is the instruction's own (R120); a word of another opcode is not this command's. -/
def tileOpc (w : BitVec 128) (opc : Nat) : Bool := fld w 0 8 == opc

/-- TDRAIN of an accumulator and its status granule (R123). Under a lasting fault it marks the micro-batch, as the other tile
operations that compute or write do (R141, assumption 56). -/
def State.tdrain (s : State) (k : Nat) (i : TileInstr) (reads : AccRead) : State :=
  if !i.resv || i.da + 513 > benchGrans then s.illegalTile k i.acc
  else
    let s := if (s.core k).lasting then s.doubtCore k else s
    s.enqueueTile k { kind := .drain i.da i.clr i.dfmt, acc := i.acc, reads := reads }

/-- TZERO (R120); it uses no cell, and so is no tile operation of R141 (assumption 56). -/
def State.tzero (s : State) (k : Nat) (i : TileInstr) : State :=
  if !i.resv then s.illegalTile k i.acc
  else s.enqueueTile k { kind := .zero, acc := i.acc }

/-! Waiting at issue (R204, R623). -/

/-- Granules from `g` on, `n` of them, that a TDRAIN of the queue is still to write. -/
def Core.awaitsDrain (c : Core) (g n : Nat) : Bool :=
  c.ops.any fun o => match o.kind with
    | .drain d _ _ => decide (d < g + n ∧ g < d + 513)
    | _ => false

/-- An instruction of the sequencer on physical core `k`: it is issued, unless an earlier one waits, or it reads bench granules
that an earlier TDRAIN is still to write (R204); then it waits, and every later one behind it (R623). -/
def State.issue (s : State) (k : Nat) (c : SeqInstr) (reads : List (Nat × Nat)) (run : State → State) : State :=
  let x := s.core k
  if !x.waiting.isEmpty || reads.any (fun e => x.awaitsDrain e.1 e.2) then
    s.modCore k fun x => { x with waiting := x.waiting ++ [c] }
  else run s

/-- TMMA (R120) once it is issued: a word that does not carry its opcode changes nothing. -/
def State.runTmma (s : State) (k : Nat) (w : BitVec 128) : State :=
  if tileOpc w 0x21 || tileOpc w 0x22 || tileOpc w 0x23 then s
  else if tileOpc w 0x20 then (s.issued k).multiply k false w
  else (s.issued k).illegalTile k (TileInstr.ofWord w).acc
def State.runTmmaz (s : State) (k : Nat) (w : BitVec 128) : State :=
  if tileOpc w 0x21 then (s.issued k).multiply k true w else s
def State.runTdrain (s : State) (k : Nat) (w : BitVec 128) (reads : AccRead) : State :=
  if tileOpc w 0x22 then (s.issued k).tdrain k (TileInstr.ofWord w) reads else s
def State.runTzero (s : State) (k : Nat) (w : BitVec 128) : State :=
  if tileOpc w 0x23 then (s.issued k).tzero k (TileInstr.ofWord w) else s

def execTmma (core : Fin 7680) (w : BitVec 128) (s : State) : Out :=
  .next (s.issue (s.phys core) (.tmma w) [] fun s => s.runTmma (s.phys core) w)
def execTmmaz (core : Fin 7680) (w : BitVec 128) (s : State) : Out :=
  .next (s.issue (s.phys core) (.tmmaz w) [] fun s => s.runTmmaz (s.phys core) w)
def execTdrain (core : Fin 7680) (w : BitVec 128) (reads : AccRead) (s : State) : Out :=
  .next (s.issue (s.phys core) (.tdrain w reads) [] fun s => s.runTdrain (s.phys core) w reads)
def execTzero (core : Fin 7680) (w : BitVec 128) (s : State) : Out :=
  .next (s.issue (s.phys core) (.tzero w) [] fun s => s.runTzero (s.phys core) w)

/-! The check codes (R136 to R144). -/

/-- The exact sum of values; NaN and infinities as R131 adds them. -/
def sumExact (vs : List FVal) : FVal := vs.foldl (fun a v => (a.add v).1) .zero

/-- The exact products of the element in row `i` and column `j` of P (R128, R150). -/
def termsAt (lead : Option Bool) (a b : TileOperand) (x y : List FVal) (i j : Nat) : List FVal :=
  List.zipWith (fun sk e => (tileTerm sk e.1 e.2).1) (skipRow lead a b i j) (List.zip x y)

/-- Whether a sum of P differs from its check cell's: NaN agrees with NaN and an infinity with itself (R144), finite sums
within 2^-12 m + 2^-126 (R136). -/
def sumsDiffer (r check m : FVal) : Bool :=
  match r, check with
  | .nan, .nan => false
  | .inf x, .inf y => x != y
  | .fin _ _ _, .fin _ _ _ => ((m.scale (-12)).add (.fin false 1 (-126))).1.lt (r.add check.neg).1.abs
  | _, _ => true

/-- The comparison of the sums of rows, or of columns: `sums` gives each element's exact sum and the sum of its terms'
magnitudes, `own` are the elements of P as undisturbed cells form them, `got` as these cells have formed them. A check cell
agrees with an undisturbed P that is not finite (R137, R144). -/
def linesDiffer (sums : List (List (FVal × FVal))) (own got : List (List W32)) : Bool :=
  (List.zip sums (List.zip own got)).any fun e =>
    let r0 := sumExact (e.2.1.map f32)
    let check := match r0 with
      | .fin _ _ _ => sumExact (e.1.map (·.1))
      | v => v
    sumsDiffer (sumExact (e.2.2.map f32)) check (sumExact (e.1.map (·.2)))

/-- Whether the check codes of an operation mismatch (R136): `own` and `got` are P as undisturbed cells form it and as these
have formed it. -/
def codesDiffer (isInt : Bool) (a b : TileOperand) (own got : Sp W32) : Bool :=
  let rows (p : Sp W32) : List (List W32) := chunks 64 64 (denseFrom 0#32 0 4096 p)
  let turn {α : Type} (d : α) (m : List (List α)) : List (List α) := (List.range 64).map fun j => m.map fun row => row.getD j d
  let p := rows own
  let q := rows got
  if isInt then
    let sums (m : List (List W32)) : List Int := m.map fun row => (row.map BitVec.toInt).foldl (· + ·) 0
    sums p != sums q || sums (turn 0#32 p) != sums (turn 0#32 q)
  else
    let lead := sparseLead a b
    let cols := transpose b.rows
    let sums := a.rows.zipIdx.map fun (x, i) => cols.zipIdx.map fun (y, j) =>
      let ts := termsAt lead a b x y i j
      (sumExact ts, sumExact (ts.map FVal.abs))
    linesDiffer sums p q || linesDiffer (turn (.zero, .zero) sums) (turn 0#32 p) (turn 0#32 q)

/-- P with the elements that came out otherwise. -/
def upsetProduct (p : Sp W32) (up : List (Fin 4096 × W32)) : Sp W32 := up.foldl (fun p e => spSet zeroW p e.1 e.2) p

/-- Whether a run of an operation mismatches (R136, R138, R142, R260); one that nothing disturbs never does (R137). -/
def tileMismatch (isInt : Bool) (a b : TileOperand) (up : TileUpset) : Bool :=
  up.sums || up.adders || !up.operand.isEmpty || !up.expander.isEmpty ||
  (!up.prod.isEmpty && (let p := (tileProduct isInt a b).1; codesDiffer isInt a b p (upsetProduct p up.prod)))

/-- An operation whose check has passed: the P that it formed, with the status flags of its product (R131). -/
def TileOp.pass (o : TileOp) (isInt : Bool) (a b : TileOperand) (up : TileUpset) : TileOp :=
  let (p, fl) := tileProduct isInt a b
  { o with stage := .passed (upsetProduct p up.prod) (fl ||| (if a.ff || b.ff then accSCALE_NAN else 0)), reads := up.reads }

/-- The lasting array fault of R140: the accumulator goes without the operation's contribution, a TMMAZ's reset having
come first. -/
def State.tileFail (s : State) (k : Nat) (o : TileOp) (zeroing isInt : Bool) : State :=
  let r := regionOfPhys k
  let s := if zeroing then s.modCore k fun c => c.setAcc o.acc ⟨isInt, 0#8, 0#32, []⟩ else s
  let s := s.accFlags k o.acc accDOUBT
  let s := (s.bump (REGION_TILE_FAIL r) 1).orReg (REGION_ARRAY_STATUS r) 0x2
  s.lastingCore k

/-- A mismatch is counted, and an expander's failure as such (R139, R260, R416). -/
def State.tileMissed (s : State) (k : Nat) (up : TileUpset) : State :=
  let r := regionOfPhys k
  let s := s.mismatch k 1
  if up.expander.isEmpty then s else (s.bump (REGION_EXPAND_RETRY r) 1).orReg (REGION_SPARSE_STATUS r) 0x2

/-- The first instruction of a queue with a property, with what stands before it and after it. -/
def splitFirst (p : TileOp → Bool) : List TileOp → Option (List TileOp × TileOp × List TileOp)
  | [] => none
  | o :: os => if p o then some ([], o, os) else (splitFirst p os).map fun e => (o :: e.1, e.2)

/-- The oldest operation of a core that awaits its check. An operation computes beside at most one other, for two P registers
serve alternate operations (R145). -/
def nextCheck (ops : List TileOp) : Option (List TileOp × TileOp × List TileOp) :=
  match splitFirst (fun o => o.multiplies && o.stage == .computing) ops with
  | some e => if (e.1.filter TileOp.multiplies).length ≤ 1 then some e else none
  | none => none

/-- The oldest operation of a core that awaits its retry. -/
def nextRetry (ops : List TileOp) : Option (List TileOp × TileOp × List TileOp) :=
  splitFirst (fun o => o.multiplies && o.stage == .retry) ops

/-- The operands of a mismatched operation: those whose buffer words or expansion failed are loaded from the bench again
(R142, R260). A reloaded tile with a poisoned granule makes the micro-batch doubtful. -/
def State.reload (s : State) (k : Nat) (w : BitVec 128) (a b : TileOperand) (up : TileUpset) : State × TileOperand × TileOperand :=
  let i := TileInstr.ofWord w
  let c := s.core k
  let again (side : Bool) : Bool := up.operand.contains side || up.expander.contains side
  let bad (g : Nat) : Bool := c.poisoned g (TileHdr.ofNat (c.bench.readNat (g * 32) 32)).total
  let s := if (again true && bad i.aa) || (again false && bad i.ba) then s.doubtCore k else s
  (s, if again true then loadOperand c.bench i.aa i.ta else a, if again false then loadOperand c.bench i.ba i.tb else b)

/-- The check of an operation (R136 to R145): a pass sends P to its addition, a mismatch the operation to its retry. -/
def State.tileCheck (s : State) (k : Nat) (pre : List TileOp) (o : TileOp) (post : List TileOp) (up : TileUpset) : State :=
  let s := s.event k 0x06 up.stalls
  match o.kind with
  | .mma zeroing isInt w a b =>
    if tileMismatch isInt a b up then
      let (s, a', b') := (s.tileMissed k up).reload k w a b up
      s.modCore k fun c => { c with ops := pre ++ { o with kind := .mma zeroing isInt w a' b', stage := .retry } :: post }
    else s.flushTiles k [] (pre ++ o.pass isInt a b up :: post)
  | _ => s

/-- The retry of a mismatched operation (R139, R140, R146): it passes and its P takes the operation's place, or the fault is
lasting. Either way it takes its compute cycles and six more from the core's slack. -/
def State.tileRetry (s : State) (k : Nat) (pre : List TileOp) (o : TileOp) (post : List TileOp) (up : TileUpset) : State :=
  match o.kind with
  | .mma zeroing isInt w a b =>
    let n := (TileInstr.ofWord w).cycles a b
    let s := ((s.event k 0x06 up.stalls).event k 0x07 n).delay k (n + 6)
    if tileMismatch isInt a b up then
      ((s.tileMissed k up).tileFail k o zeroing isInt).flushTiles k [] (pre ++ post)
    else s.flushTiles k [] (pre ++ { o.pass isInt a b up with retried := true } :: post)
  | _ => s

end Sys2Proof.Machine
end

