-- ==== Sys2Proof/Machine/Tensor.lean ====
section
/-! DEFINITION. The tensor range (R282): the crate map and its entries (R290), where a crate lies, reading and writing its
bytes and poisoned marks, mapping a crate (R289), quotas (R295 to R300), retirement and the spare pool (R280, R281). -/

namespace Sys2Proof.Machine

/-- Fitted stockroom stacks and caravan ports (R6). -/
def State.stackCount (s : State) : Nat := match s.variant with | .s48c16 => 48 | .s24c16 => 24 | .s24c8 => 24
def State.ports (s : State) : Nat := match s.variant with | .s24c8 => 8 | _ => 16

/-! Map entries (R290). -/

def meTier (e : W64) : Nat := fld e 0 2
def mePin (e : W64) : Bool := bitAt e 3
def meHome (e : W64) : Nat := fld e 4 2
def meBound (e : W64) : Bool := bitAt e 6
def meCount (e : W64) : Nat := fld e 8 8
def meHRegion (e : W64) : Nat := fld e 16 6
def meHBay (e : W64) : Nat := fld e 22 4
def meLoc (e : W64) : Nat := fld e 32 28

/-- The stored entry of a crate; 0 while it is unmapped. -/
def Ctx.entry (x : Ctx) (n : Nat) : W64 := spGet (fun _ => 0#64) x.map n
def Ctx.setEntry (x : Ctx) (n : Nat) (e : W64) : Ctx := { x with map := spSet (fun _ => 0#64) x.map n e }
def State.entry (s : State) (c n : Nat) : W64 := (s.ctx c).entry n
def State.setEntry (s : State) (c n : Nat) (e : W64) : State := s.modCtx c fun x => x.setEntry n e

/-- LOC of a cellar slot. -/
def cellarLoc (region bay slot : Nat) : Nat := region + (bay <<< 6) + (slot <<< 10)
/-- First byte of the cellar slot with this LOC, in the cellar's byte numbering. -/
def cellarBase (loc : Nat) : Nat := ((nfld loc 0 6 * 10 + nfld loc 6 4) * 262144 + nfld loc 10 18) * 65536
/-- First byte of physical stockroom crate `p`. -/
def stockBase (p : Nat) : Nat := p * 65536

/-- Where a crate's bytes lie: in the cellar or the stockroom, from a byte address on. -/
inductive Place where
  | none
  | cellar (base : Nat)
  | stock (base : Nat)
deriving DecidableEq, Repr

def meplace (e : W64) : Place :=
  if meTier e = 1 then .cellar (cellarBase (meLoc e))
  else if meTier e = 2 then .stock (stockBase (meLoc e)) else .none

/-- The crate cannot be read or fetched: its map is lost (R290), it awaits rebuild (R280), or its region is dark (R404). -/
def State.crateRetired (s : State) (c n : Nat) : Bool :=
  let x := s.ctx c
  let e := x.entry n
  x.noMap || x.awaiting.contains n || (meTier e == 1 && s.isDark (nfld (meLoc e) 0 6))

/-! Bytes and poisoned marks of a place. -/

/-- The `n` bytes from byte `off` of a place. -/
def State.placeRead (s : State) (p : Place) (off n : Nat) : List Byte :=
  match p with
  | .none => List.replicate n 0#8
  | .cellar b => s.cellar.read (b + off) n
  | .stock b => s.stock.read (b + off) n

/-- Write bytes of a place; the granules written lose their poisoned marks (R274). -/
def State.placeWrite (s : State) (p : Place) (off : Nat) (bs : List Byte) : State :=
  match p with
  | .none => s
  | .cellar b => { s with cellar := s.cellar.write (b + off) bs,
                          cellarBad := spPut ((b + off) / 32) ((bs.length + 31) / 32) [] s.cellarBad }
  | .stock b => { s with stock := s.stock.write (b + off) bs,
                         stockBad := spPut ((b + off) / 32) ((bs.length + 31) / 32) [] s.stockBad }

/-- Whether one of `n` granules from granule `g` of a place carries a poisoned mark. -/
def State.placeBad (s : State) (p : Place) (g n : Nat) : Bool :=
  match p with
  | .none => false
  | .cellar b => !(spSlice (b / 32 + g) n s.cellarBad).isEmpty
  | .stock b => !(spSlice (b / 32 + g) n s.stockBad).isEmpty

/-- Mark granules of a place poisoned (R302). -/
def State.placePoison (s : State) (p : Place) (gs : List Nat) : State :=
  match p with
  | .none => s
  | .cellar b => { s with cellarBad := gs.foldl (fun m g => spSet (fun _ => false) m (b / 32 + g) true) s.cellarBad }
  | .stock b => { s with stockBad := gs.foldl (fun m g => spSet (fun _ => false) m (b / 32 + g) true) s.stockBad }

/-- Wipe a crate's place: zeros, no poisoned mark (R304). -/
def State.placeWipe (s : State) (p : Place) : State :=
  match p with
  | .none => s
  | .cellar b => { s with cellar := s.cellar.clear b 65536, cellarBad := spPut (b / 32) 2048 [] s.cellarBad }
  | .stock b => { s with stock := s.stock.clear b 65536, stockBad := spPut (b / 32) 2048 [] s.stockBad }

/-! Capacity and quotas. -/

/-- A physical stockroom crate has a piece on a channel (R276). -/
def crateOn (n p stack chan : Nat) : Bool :=
  (List.range 16).any fun i => (p + i) % n == stack && (i + p / n) % 16 == chan

/-- The retired channels, as stack and channel. -/
def State.retiredChans (s : State) : List (Nat × Nat) :=
  s.retired.filterMap fun r => match r with | .channel a b => some (a, b) | _ => none

/-- A physical stockroom crate is retired, by itself or with a channel (R280, R281). -/
def State.stockRetired (s : State) (p : Nat) : Bool :=
  s.retired.contains (.crate p) || s.retiredChans.any fun e => crateOn s.stackCount p e.1 e.2

/-- Physical stockroom crates (R276). -/
def State.stockCrates (s : State) : Nat := 3145728 * s.stackCount

/-- Crates retired with their channels: for each value of ⌊c / S⌋ modulo 16 the crates with a piece on one of them. -/
def State.chanRetired (s : State) : Nat :=
  let chans := s.retiredChans
  if chans.isEmpty then 0 else
  (List.range 16).foldl (fun t k =>
    t + 196608 * ((List.range s.stackCount).filter fun j =>
      chans.any fun e => crateOn s.stackCount (k * s.stackCount + j) e.1 e.2).length) 0

/-- QUOTA_STOCK_RETIRED. -/
def State.stockRetiredN (s : State) : Nat :=
  s.chanRetired + (s.retired.filter fun r => match r with
    | .crate p => !(s.retiredChans.any fun e => crateOn s.stackCount p e.1 e.2)
    | _ => false).length

/-- The cellar slots retired. -/
def State.cellarRetiredN (s : State) : Nat :=
  (s.retired.filter fun r => match r with | .slot _ _ _ => true | _ => false).length

/-- QUOTA_CELLAR_TOTAL (R275, R308). -/
def State.cellarTotal (s : State) : Nat := 167608320 - s.cellarRetiredN
/-- QUOTA_STOCK_TOTAL (R308). -/
def State.stockTotal (s : State) : Nat :=
  s.stockCrates - s.stockRetiredN - s.spares - (s.reg QUOTA_KEEP_RESERVE).toNat
/-- QUOTA_CELLAR_GRANTED and QUOTA_STOCK_GRANTED. -/
def State.cellarGranted (s : State) : Nat :=
  (List.range 64).foldl (fun t c => t + s.regFld (CTX_QUOTA_CELLAR c) 0 28) 0
def State.stockGranted (s : State) : Nat :=
  (List.range 64).foldl (fun t c => t + s.regFld (CTX_QUOTA_STOCK c) 0 28) 0

/-- The stockroom crates that a context's sums, sealed tiles and spill reserve take (R295): tally buffers and held sums
packed by their bytes (assumption 13); a sealed tile is 4,096 mantissas of 2 bytes, or FP32 values, and its word (R349). -/
def Ctx.tallyCrates (x : Ctx) (fp : Bool) : Nat :=
  let sealedBytes := (x.sealed.filter fun e => e.2.isSome).length * ((if fp then 16384 else 8192) + 32)
  let sumBytes := match x.step with
    | some st => st.sums.foldl (fun (t : Nat) (q : TallySum) =>
        let live := q.inputs.filter fun e => !bitAt e.2.hdr 50
        let terms : Nat := live.foldl (fun (n : Nat) e => n + fld e.2.hdr 64 32) 0
        t + (if live.isEmpty then 0 else 16384) + (if 32768 < terms then 32768 else 0)) 0
    | none => 0
  let reserve := match x.swatch with | some w => w.reserve | none => 0
  (sealedBytes + 65535) / 65536 + (sumBytes + 65535) / 65536 + reserve

/-- CTX_USE_CELLAR (R295, R306, R404): mapped cellar crates of regions that are not dark, those of a teardown wipe, copies in
progress, and the scale ledger's copies (R179). -/
def State.useCellar (s : State) (c : Nat) : Nat :=
  let x := s.ctx c
  ((x.map.map (·.2) ++ x.gone).filter fun e => meTier e == 1 && !s.isDark (nfld (meLoc e) 0 6)).length
  + (x.migrations.filter fun m => m.toCellar).length
  + x.scaleAt.length * ((s.regFld (CTX_SCALE_ENTRIES c) 0 32 + 2047) / 2048)

/-- CTX_USE_STOCK (R295). -/
def State.useStock (s : State) (c : Nat) : Nat :=
  let x := s.ctx c
  ((x.map.map (·.2) ++ x.gone).filter fun e => meTier e == 2).length + (x.migrations.filter fun m => !m.toCellar).length
  + x.tallyCrates (s.regBit (STREAM_LEDGER_CONTROL c) 0) + x.goneStock

/-! Placement (R289; assumption 7). -/

/-- The first number from `start` on, modulo `n`, that is not in a list. -/
def firstFree (n : Nat) (used : List Nat) : Nat → Nat → Option Nat
  | 0, _ => none
  | fuel + 1, k => if k % n ∈ used then firstFree n used fuel (k + 1) else if n = 0 then none else some (k % n)

/-- The slots of a row-bay that are taken or retired. -/
def State.baySlots (s : State) (region bay : Nat) : List Nat :=
  let mine (loc : Nat) : Bool := nfld loc 0 6 == region && nfld loc 6 4 == bay
  let mapped := s.ctxs.flatMap fun e => (e.2.map.map (·.2) ++ e.2.gone).filterMap fun m =>
    if meTier m == 1 && mine (meLoc m) then some (nfld (meLoc m) 10 18) else none
  let moving := s.ctxs.flatMap fun e => e.2.migrations.filterMap fun m =>
    if m.toCellar && mine m.loc then some (nfld m.loc 10 18) else none
  let gone := s.retired.filterMap fun r => match r with
    | .slot a b d => if a == region && b == bay then some d else none
    | _ => none
  mapped ++ moving ++ gone

/-- A free slot of a row-bay, of its 261,888 assignable ones (R275). -/
def State.freeSlot (s : State) (region bay : Nat) : Option Nat :=
  let used := s.baySlots region bay
  firstFree 261888 used (used.length + 1) (Config.cellarPick s.fresh)

/-- The physical stockroom crates in use. -/
def State.stockUsed (s : State) : List Nat :=
  s.ctxs.flatMap fun e =>
    ((e.2.map.map (·.2) ++ e.2.gone).filterMap fun m => if meTier m == 2 then some (meLoc m) else none) ++
    (e.2.migrations.filterMap fun m => if m.toCellar then none else some m.loc)

/-- A free physical stockroom crate that is not retired: the first from the pick on. -/
def State.freeStockFrom (s : State) (used : List Nat) : Nat → Nat → Option Nat
  | 0, _ => none
  | fuel + 1, k =>
    let p := k % s.stockCrates
    if used.contains p || s.stockRetired p then s.freeStockFrom used fuel (k + 1) else some p

def State.freeStock (s : State) : Option Nat :=
  let used := s.stockUsed
  s.freeStockFrom used (used.length + s.retired.length * 16 + 1 + (if s.retiredChans.isEmpty then 0 else s.stockCrates))
    (Config.stockPick s.fresh)

/-- Quota room of the cellar and of the stockroom. -/
def State.cellarRoom (s : State) (c : Nat) : Nat := s.regFld (CTX_QUOTA_CELLAR c) 0 28 - s.useCellar c
def State.stockRoom (s : State) (c : Nat) : Nat := s.regFld (CTX_QUOTA_STOCK c) 0 28 - s.useStock c

/-- A new map entry. -/
def newEntry (tier loc home hr hb : Nat) (pin bound : Bool) : W64 :=
  BitVec.ofNat 64 (tier + bitN pin 3 + (home <<< 4) + bitN bound 6 + (hr <<< 16) + (hb <<< 22) + (loc <<< 32))

/-- Map an unmapped crate in its home tier (R289); answers the end code of R303. -/
def State.mapCrate (s : State) (c n home hr hb : Nat) (pin bound : Bool) : State × Nat :=
  let slot := if (s.region hr).owner == some c && !s.isDark hr && decide (hb < 10) then s.freeSlot hr hb else none
  let room := decide (0 < s.cellarRoom c)
  let toStock (s : State) : State × Nat :=
    if s.stockRoom c = 0 then (s, 2) else
    match s.freeStock with
    | some p => ({ s with fresh := s.fresh + 1 }.setEntry c n (newEntry 2 p home hr hb pin bound), 0)
    | none => (s, 2)
  if home = 2 then toStock s else
  match slot, room with
  | some d, true =>
    ({ s with fresh := s.fresh + 1 }.setEntry c n (newEntry 1 (cellarLoc hr hb d) home hr hb pin bound), 0)
  | some _, false => if home = 0 then toStock s else (s, 1)
  | none, r => if home = 0 then toStock s else if r then (s, 3) else (s, 1)

/-! Retirement and spares (R280). -/

/-- Unassigned stockroom capacity: physical crates beyond those granted, or mapped beyond a quota that has been lowered (R300),
and not spare, reserved or retired. -/
def State.unassigned (s : State) : Nat :=
  s.stockTotal - (List.range 64).foldl (fun t c => t + max (s.regFld (CTX_QUOTA_STOCK c) 0 28) (s.useStock c)) 0

/-- SPARE_LOW after a change of the pool. -/
def State.checkSpares (s : State) : State :=
  if 4 * s.spares < clampNat 16384 1048576 (s.reg QUOTA_STOCK_SPARE).toNat then s.orReg QUOTA_MEM_STATUS 4 else s

/-- Refill the pool from unassigned capacity. -/
def State.refillSpares (s : State) : State :=
  let size := clampNat 16384 1048576 (s.reg QUOTA_STOCK_SPARE).toNat
  { s with spares := s.spares + min (size - s.spares) s.unassigned }

/-- Take a spare physical crate out of the pool, which is refilled before and after; none when there is none to be had. -/
def State.takeSpare (s : State) : Option Nat × State :=
  let s := s.refillSpares
  if s.spares = 0 then (none, s) else
  match s.freeStock with
  | some p => (some p, ({ s with spares := s.spares - 1, fresh := s.fresh + 1 }).refillSpares.checkSpares)
  | none => (none, s)

/-- Record a retired location in the inventory (R544). -/
def State.retire (s : State) (r : Retired) : State :=
  let s := { s with retired := insertNew r s.retired, boot := { s.boot with invDue := true } }
  let s := if 4194304 < s.retired.length then s.orReg MOD_MGMT_FLAGS 2 else s
  s.orReg QUOTA_MEM_STATUS 8

/-- Move a tensor crate to another place of the stockroom, which replaces its old physical crate. -/
def State.relocate (s : State) (c n p : Nat) : State :=
  let e := s.entry c n
  s.setEntry c n (setFld (setFld e 0 2 2) 32 28 p)

/-- A crate without a rebuild source (R415): it stays retired until it is next written, and one event names it. -/
def State.crateLost (s : State) (c n : Nat) : State :=
  if (s.ctx c).orphans.contains n then s else
  ((s.modCtx c fun x => { x with orphans := insertNew n x.orphans }).orReg HEALTH_FLAGS 0x20).postEvent c 0x108 (w32 n) 0#32 0#32

/-- Give a crate that awaits rebuild a spare physical crate; its old place is wiped, a stockroom one retired, a cellar one
freed (R280, R306). With no spare to be had, or while another crate has waited longer for one, it stays retired as a crate
without a rebuild source, and the answer is false. -/
def State.rehome (s : State) (c n : Nat) : State × Bool :=
  let old := s.entry c n
  let turn := match s.short.find? fun e => (s.ctx e.1).awaiting.contains e.2 with
    | some e => e == (c, n) || decide (1 < (s.refillSpares).spares)
    | none => true
  match (if turn then s.takeSpare else (none, s)) with
  | (some p, s) =>
    let s := s.placeWipe (meplace old)
    let s := if meTier old = 2 then s.retire (.crate (meLoc old)) else s
    let s := (s.placeWipe (.stock (stockBase p))).relocate c n p
    let s := s.modCtx c fun x => { x with awaiting := x.awaiting.filter (· ≠ n), orphans := x.orphans.filter (· ≠ n) }
    ({ s with short := s.short.filter (· ≠ (c, n)) }, true)
  | (none, s) => (({ s with short := insertNew (c, n) s.short }.orReg QUOTA_MEM_STATUS 0x20).crateLost c n, false)

/-! Requests. -/

/-- Count a request that reaches a crate (R291). -/
def State.countAccess (s : State) (c n : Nat) : State :=
  let e := s.entry c n
  if meTier e = 0 then s else s.setEntry c n (setFld e 8 8 (min 255 (meCount e + 1)))

/-- Record the end of a request of a context (R307). -/
def State.noteEnd (s : State) (c code : Nat) : State :=
  let s := if code = 1 ∨ code = 2 then s.bump (CTX_QUOTA_HITS c) 1 else s
  let s := if code = 4 ∨ code = 5 ∨ code = 6 ∨ code = 7 then s.bump (CTX_TIER_ENDS c) 1 else s
  let bit := match code with
    | 1 => 1 | 2 => 2 | 3 => 4 | 4 => 16 | 5 => 16 | 6 => 16 | 7 => 32 | _ => 0
  if bit = 0 then s else s.orReg (CTX_MEM_STATUS c) bit

/-- Read bytes of one crate (R287, R288, R302): the bytes, and the end code. -/
def State.readCrate (s : State) (c n off len : Nat) : List Byte × Nat × State :=
  let e := s.entry c n
  if s.crateRetired c n then (List.replicate len 0#8, 6, s.noteEnd c 6)
  else if meTier e = 0 then (List.replicate len 0#8, 0, s.orReg (CTX_MEM_STATUS c) 8)
  else
    let p := meplace e
    let bad := s.placeBad p (off / 32) ((len + 31) / 32)
    (s.placeRead p off len, if bad then 8 else 0, s.countAccess c n)

/-- A place for a crate that is to be written, and the end code. An unmapped crate is mapped (R287, R289), and so is one that is
lost with a dark region, where its slot stays until the next bring-up wipes it (R404); a crate that awaits rebuild takes a spare
physical crate when it has no rebuild source, or when the write is its owner's, `restores` (R280, R330); else the write ends
RETIRED. -/
def State.placeForWrite (s : State) (c n home hr hb : Nat) (pin bound restores : Bool) : State × Nat :=
  let x := s.ctx c
  if x.noMap then (s, 6)
  else if x.awaiting.contains n then
    (if restores || x.orphans.contains n then (match s.rehome c n with
      | (s, true) => (s, 0)
      | (s, false) => (s, 6)) else (s, 6))
  else if meTier (x.entry n) = 0 || s.crateRetired c n then s.mapCrate c n home hr hb pin bound
  else (s, 0)

/-- Write bytes of one crate. -/
def State.writeCrate (s : State) (c n off : Nat) (bs : List Byte) (home hr hb : Nat) (pin bound : Bool) (restores : Bool := false) :
    State × Nat :=
  let (s, code) := s.placeForWrite c n home hr hb pin bound restores
  if code ≠ 0 then (s.noteEnd c code, code) else
  let s := s.placeWrite (meplace (s.entry c n)) off bs
  (s.countAccess c n, 0)

/-- The bytes at a tensor address, over as many crates as they reach; unmapped and retired crates read as zeros. -/
def State.tensorRead (s : State) (c addr : Nat) : Nat → List Byte
  | 0 => []
  | len + 1 =>
    let total := len + 1
    (List.range ((addr % 65536 + total + 65535) / 65536)).flatMap fun i =>
      let n := addr / 65536 + i
      let off := if i = 0 then addr % 65536 else 0
      let before := if i = 0 then 0 else 65536 * i - addr % 65536
      let k := min (65536 - off) (total - before)
      if s.crateRetired c n then List.replicate k 0#8 else s.placeRead (meplace (s.entry c n)) off k

/-- The foreman's reads of `len` bytes at a tensor address, one request to each crate (R291, R301): an unmapped crate is noted
(R288), a retired one ends its read. -/
def State.foremanReads (s : State) (c addr len : Nat) : State :=
  if len = 0 then s else
  (List.range ((addr % 65536 + len + 65535) / 65536)).foldl (fun s i =>
    let n := addr / 65536 + i
    if s.crateRetired c n then s.noteEnd c 6
    else if meTier (s.entry c n) = 0 then s.orReg (CTX_MEM_STATUS c) 8 else s.countAccess c n) s

/-- A read of `len` bytes from a tensor address ends: a crate is retired or lost, or a granule is poisoned. -/
def State.tensorLost (s : State) (c addr len : Nat) : Bool :=
  (List.range (len / 32)).any fun i =>
    let a := addr + 32 * i
    s.crateRetired c (a / 65536) || s.placeBad (meplace (s.entry c (a / 65536))) (a % 65536 / 32) 1
/-- A number at a tensor address. -/
def State.tensorNat (s : State) (c addr len : Nat) : Nat := leNat (s.tensorRead c addr len)

/-- The tensor-table record that names a crate in the step in progress. -/
def State.tensorOf (s : State) (c n : Nat) : Option TensorRec :=
  match (s.ctx c).step with
  | some st => match st.variant with
    | some v => match st.prog.variants[v]? with
      | some q => q.tensors.find? fun t => decide (t.first ≤ n ∧ n < t.first + t.crates)
      | none => none
    | none => none
  | none => none

/-- Write bytes at a tensor address, crate by crate, homed by the tensor table of the step in progress; the end code is
that of the first crate that fails. -/
def State.tensorWrite (s : State) (c addr : Nat) (bs : List Byte) (restores : Bool := false) : State × Nat :=
  let total := bs.length
  (List.range ((addr % 65536 + total + 65535) / 65536)).foldl (fun (acc : State × Nat) i =>
    if total = 0 then acc else
    let n := addr / 65536 + i
    let off := if i = 0 then addr % 65536 else 0
    let before := if i = 0 then 0 else 65536 * i - addr % 65536
    let k := min (65536 - off) (total - before)
    let r := match acc.1.tensorOf c n with
      | some t => acc.1.writeCrate c n off ((bs.drop before).take k) t.home t.hregion t.hbay t.pin t.bound restores
      | none => acc.1.writeCrate c n off ((bs.drop before).take k) 0 (((acc.1.ctxRegions c).head?).getD 0) 0 false false restores
    (r.1, if acc.2 = 0 then r.2 else acc.2)) (s, 0)

/-- Unmap a crate and wipe its place (R287, R306). -/
def State.unmap (s : State) (c n : Nat) : State :=
  let e := s.entry c n
  let s := s.placeWipe (meplace e)
  let s := s.modCtx c fun x => { x.setEntry n 0#64 with
    awaiting := x.awaiting.filter (· ≠ n), orphans := x.orphans.filter (· ≠ n), migrations := x.migrations.filter fun m => m.crate ≠ n }
  { s with short := s.short.filter (· ≠ (c, n)) }

/-- The entry that QUERY returns (R290): MOVING and POISON as they stand. -/
def State.mapEntry (s : State) (c n : Nat) : W64 :=
  let x := s.ctx c
  let e := x.entry n
  if meTier e = 0 then 0#64 else
  let e := setBit e 2 (x.migrations.any fun m => m.crate == n)
  setBit e 7 (s.crateRetired c n && meTier e == 1 || s.placeBad (meplace e) 0 2048)

/-- Bytes of host memory behind a port. -/
def State.hostRead (s : State) (port addr n : Nat) : List Byte := (if port = 0 then s.host0 else s.host1).read addr n
/-- Write host memory behind a port. -/
def State.hostWrite (s : State) (port addr : Nat) (bs : List Byte) : State :=
  if port = 0 then { s with host0 := s.host0.write addr bs } else { s with host1 := s.host1.write addr bs }

end Sys2Proof.Machine
end

