-- ==== Sys2Proof/Machine/Wire.lean ====
section
/-! DEFINITION. Caravan frames and their sending (R477 to R500): addresses, the caravan header and its CRC, the choice of a
port, flows, class 0 frames, transfers, and the commit set. -/

namespace Sys2Proof.Machine

/-- This module's ID, and whether it is valid (R503). -/
def State.moduleId (s : State) : Nat := s.regFld CARAVAN_MODULE_ID 0 17
def State.moduleIdValid (s : State) : Bool := s.regBit CARAVAN_MODULE_ID 31
/-- The job number of a context. -/
def State.job (s : State) (c : Nat) : Nat := s.regFld (CARAVAN_CTX_JOB c) 0 16
/-- The enabled context of a job (R483). -/
def State.jobCtx (s : State) (j : Nat) : Option Nat := s.contexts.find? fun c => s.job c == j

/-- Port states of R498. -/
def State.portState (s : State) (p : Nat) : Nat := s.regFld (CARAVAN_PORT_STATUS p) 0 3
def State.portUp (s : State) (p : Nat) : Bool := s.portState p == 2
/-- The UP ports, in ascending order. -/
def State.upPorts (s : State) : List Nat := (List.range s.ports).filter s.portUp
def State.switched (s : State) : Bool := s.regBit CARAVAN_TOPO 0
def State.route (s : State) (m : Nat) : BitVec 16 := spGet (fun _ => 0#16) s.caravan.routes m
def State.modCaravan (s : State) (f : Caravan → Caravan) : State := { s with caravan := f s.caravan }

/-- The ports on which a frame to a module may leave (R490, R491). -/
def State.allowed (s : State) (dst : Nat) : List Nat :=
  if s.switched then s.upPorts else s.upPorts.filter fun p => bitAt (s.route dst) p

/-- The port of a flow (R491). -/
def State.flowPort (s : State) (job dst cls : Nat) : Option Nat :=
  let ps := s.allowed dst
  ps[Config.flowHash s.moduleId dst cls job % ps.length]?

/-- The MAC address of a port of a module (R478). -/
def macOf (m p : Nat) : BitVec 48 := BitVec.ofNat 48 ((0x025457 <<< 24) + ((m % 2 ^ 17) <<< 4) + p % 16)

/-- The PCP of a class (R503). -/
def State.pcp (s : State) (cls : Nat) : Nat := s.regFld CARAVAN_PCP (4 * cls) 3

/-- The caravan header's CRC over its bits [223:0], the subheader and the data (R479, R622). -/
def frameCrc (hdr sub : W256) (data : List Byte) : BitVec 32 :=
  crcLsb 32 0xEDB88320#32 0xFFFFFFFF#32 (leBytes 28 hdr.toNat ++ leBytes 32 sub.toNat ++ data) ^^^ 0xFFFFFFFF#32

/-- A frame (R477, R479). -/
def State.mkFrame (s : State) (cls type_ job port dst seq part npart xid : Nat) (sub : W256) (data : List Byte) : Frame :=
  let h := 1 + (cls <<< 4) + (type_ <<< 8) + (job <<< 16) + (s.moduleId <<< 32) + (port <<< 49) + (dst <<< 64)
    + ((seq % 2 ^ 24) <<< 96) + (part <<< 120) + (npart <<< 124) + (data.length <<< 128) + ((xid % 2 ^ 32) <<< 160)
  let hdr : W256 := BitVec.ofNat 256 h
  let dport := match s.caravan.peers.find? fun p => p.module == dst with | some p => p.port | none => port
  { dmac := macOf dst dport, pcp := BitVec.ofNat 3 (s.pcp cls), vid := BitVec.ofNat 12 (s.regFld CARAVAN_VLAN 0 12),
    etype := BitVec.ofNat 16 (s.regFld CARAVAN_ETHERTYPE 0 16),
    hdr := hdr ||| (BitVec.ofNat 256 ((frameCrc hdr sub data).toNat <<< 224)), sub := sub, data := data }

/-- A new transfer identifier. -/
def State.newXid (s : State) : Nat × State :=
  (s.caravan.nextXid, s.modCaravan fun v => { v with nextXid := (v.nextXid + 1) % 2 ^ 32 })

/-- A frame leaves on a port, or finds none UP (R490). -/
def State.launch (s : State) (port : Option Nat) (f : Frame) : State :=
  match port with
  | some p => if s.portUp p then s.emit (.frame p f) else s
  | none => if s.switched then s else (s.bump CARAVAN_DISCARDS 1).orReg CARAVAN_FLAGS 0x10

/-- The subheader of this module's HELLO on a port (R497). -/
def State.helloSub (s : State) (p : Nat) : W256 :=
  let jobs := maskOf (s.contexts.map fun c => s.job c % 16)
  BitVec.ofNat 256 ((s.reg ID_PART).toNat % 65536 + (s.moduleId <<< 16) + (p <<< 33) + ((jobs % 65536) <<< 48)
    + (s.stepping.toNat <<< 64) + (s.serial.toNat <<< 96))

/-- Send HELLO on a port (R497); until the peer has named itself, the destination that it carries is a free value
(assumption 2). -/
def State.sendHello (s : State) (p : Nat) (dst : Option Nat) : State :=
  let (xid, s) := s.newXid
  let (n, s) := s.free
  let f := s.mkFrame 0 0x01 0 p (dst.getD (n % 2 ^ 17)) 0 0 0 xid (s.helloSub p) []
  (s.modCaravan fun v => { v with express := v.express ++ [(⟨xid, f, p, 0⟩ : Express)] }).emit (.frame p f)

/-- In switched topology HELLO goes to a peer before the first frame to it (R497). -/
def State.greet (s : State) (dst : Nat) : State :=
  if !s.switched || s.caravan.peers.any (fun p => p.module == dst)
      || s.caravan.express.any (fun e => fld e.frame.hdr 8 8 == 1 && fld e.frame.hdr 64 17 == dst) then s
  else match s.upPorts with
    | [] => s
    | p :: _ => s.sendHello p (some dst)

/-- Send a class 0 frame (R494) to another module; it waits for its acknowledgement under its own transfer identifier. -/
def State.sendExpress (s : State) (c dst type_ : Nat) (sub : W256) : State :=
  let (xid, s) := (s.greet dst).newXid
  let port := s.flowPort (s.job c) dst 0
  let f := s.mkFrame 0 type_ (s.job c) (port.getD 0) dst 0 0 0 xid sub []
  let s := s.modCaravan fun v => { v with express := v.express ++ [(⟨xid, f, port.getD 0, 0⟩ : Express)] }
  s.launch port f

/-- The flow of a job, destination and class. -/
def State.txFlow (s : State) (job dst cls : Nat) : Option TxFlow :=
  s.caravan.tx.find? fun f => f.job == job && f.dst == dst && f.cls == cls

def State.modTx (s : State) (job dst cls : Nat) (f : TxFlow → TxFlow) : State :=
  s.modCaravan fun v => { v with tx := v.tx.map fun x => if x.job == job && x.dst == dst && x.cls == cls then f x else x }

/-- The port that serves a port's tally role (R412). -/
def State.tallyPort (s : State) (p : Nat) : Nat := (spGet (fun _ => none) s.caravan.tally p).getD p

/-- The frame with another sending port, and its CRC. -/
def frameOnPort (f : Frame) (p : Nat) : Frame :=
  let h := setFld (setFld f.hdr 49 4 p) 224 32 0
  { f with hdr := setFld h 224 32 (frameCrc h f.sub f.data).toNat }

/-- A frame of a flow leaves: a sum on the port that serves its shard's PORT, any other frame on the flow's port (R491). -/
def State.launchFlow (s : State) (x : TxFlow) (f : Frame) : State :=
  let port := if fld f.hdr 8 8 = 0x10 then some (s.tallyPort (fld f.hdr 49 4)) else if x.port < 16 then some x.port else none
  s.launch port (match port with | some p => frameOnPort f p | none => f)

/-- A class is paused on a port (R488). -/
def State.pausedOn (s : State) (p cls : Nat) : Bool :=
  cls != 0 && bitAt (spGet (fun _ => (0#8 : Byte)) s.caravan.paused p) (s.pcp cls)

/-- Move waiting frames of a flow into the window of 256 and launch them (R493). -/
def State.pumpFlow (s : State) (job dst cls : Nat) : State :=
  match s.txFlow job dst cls with
  | none => s
  | some x =>
    -- a priority pause of the class's PCP holds the flow back (R488)
    if decide (x.port < 16) && s.pausedOn x.port cls then s else
    if !((s.caravan.tx.take (16384 - s.caravan.rx.length)).any fun y => y.job == job && y.dst == dst && y.cls == cls) then s else
    let k := 256 - x.unacked.length
    let go := x.waiting.take k
    let s := s.modTx job dst cls fun y => { y with unacked := y.unacked ++ go, waiting := y.waiting.drop k }
    go.foldl (fun s f => s.launchFlow x f) s

/-- Send a transfer of classes 1 to 3 (R480, R493): one frame per part, each with its subheader. `on` is the port that a
shard record names (R491); `reply` the transfer identifier of the request that it answers. -/
def State.sendFrames (s : State) (c dst cls type_ : Nat) (on : Option Nat) (parts : List (W256 × List Byte))
    (reply : Option Nat := none) : State :=
  let job := s.job c
  let s := s.greet dst
  let (xid, s) := match reply with
    | some x => (x, s)
    | none => s.newXid
  let port := s.flowPort job dst cls
  let s := match s.txFlow job dst cls with
    | some _ => s
    | none => s.modCaravan fun v => { v with tx := v.tx ++ [(⟨job, dst, cls, port.getD 16, 0, [], [], 0⟩ : TxFlow)] }
  let n := parts.length
  let s := parts.zipIdx.foldl (fun s e =>
    match s.txFlow job dst cls with
    | none => s
    | some x =>
      let f := s.mkFrame cls type_ job (on.getD x.port) dst x.next e.2 (n - 1) xid e.1.1 e.1.2
      s.modTx job dst cls fun y => { y with next := (y.next + 1) % 2 ^ 24, waiting := y.waiting ++ [f] }) s
  s.pumpFlow job dst cls

/-- A transfer whose frames carry the same subheader. -/
def State.sendParts (s : State) (c dst cls type_ : Nat) (on : Option Nat) (sub : W256) (parts : List (List Byte))
    (reply : Option Nat := none) : State :=
  s.sendFrames c dst cls type_ on (parts.map fun p => (sub, p)) reply

/-- A crate as sixteen pieces. -/
def pieces (bs : List Byte) : List (List Byte) := chunks 4096 16 bs

/-! The job's modules (R499, R500). -/

/-- The job list of a context. -/
def State.jobList (s : State) (c : Nat) : List Nat :=
  let n := s.regFld (CARAVAN_CTX_COUNT c) 0 18
  (List.range n).map fun i => s.tensorNat c ((s.reg (CARAVAN_CTX_LIST c)).toNat * 65536 + 4 * i) 4

/-- The commit set of a context: the job list without the modules removed; this module only while it is no listener. -/
def State.commitSet (s : State) (c : Nat) : List Nat :=
  let x := s.ctx c
  (s.jobList c).filter fun m => !x.removed.contains m &&
    (m != s.moduleId || (match x.listen with | .member => true | .listener _ _ => false))

/-- The replica list of a context (R500). -/
def State.replicas (s : State) (c : Nat) : List Nat :=
  ((List.range 8).map fun n => s.eff (CARAVAN_CTX_REPLICA c n)).takeWhile (fun w => bitAt w 31) |>.map fun w => fld w 0 17

/-- The notices of R479's NOTICE frames, whose subheader the spec does not lay out: a code in [7:0], a module ID in
[48:32], a micro-batch in [79:64] (assumption 16). -/
def noticeSub (code module mb : Nat) : W256 := BitVec.ofNat 256 (code + (module <<< 32) + (mb <<< 64))
/-- A verdict's subheader: micro-batch in [15:0], clean in [16], step tag in [31:24] (assumption 16). -/
def verdictSub (mb tag : Nat) (clean : Bool) : W256 := BitVec.ofNat 256 (mb + bitN clean 16 + (tag <<< 24))
/-- A norm sum's subheader: the first tile of the sender's lowest shard in [31:0], the sum in [63:32] (assumption 16). -/
def normSub (first : Nat) (sum : W32) : W256 := BitVec.ofNat 256 (first + (sum.toNat <<< 32))

end Sys2Proof.Machine
end

