-- ==== Sys2Proof/Machine/Context.lean ====
section
/-! DEFINITION. What happens to a context as a whole: register resets (R588), ramp requests of its regions (R514, R516),
verdicts and NULL sums (R344, R346), ending a step, the step boundary (R27), and teardown (R445). -/

namespace Sys2Proof.Machine

/-! Register resets (R588). -/

/-- Return every register whose address satisfies `p` to its reset value. -/
def State.resetRegs (s : State) (p : Nat → Bool) : State :=
  { s with regs := spDrop p s.regs, staged := spDrop p s.staged }

/-- An address lies in a window. -/
def inWin (base size a : Nat) : Bool := decide (base ≤ a) && decide (a < base + size)

/-- The windows of a context in the CTX, STREAM, HEALTH, CARAVAN and PERF blocks (R588). -/
def ctxWindow (c a : Nat) : Bool :=
  inWin (0x20000 + c * 0x400) 0x400 a || inWin (0x300000 + c * 0x100) 0x100 a || inWin (0x401000 + c * 0x40) 0x40 a ||
  inWin (0x601000 + c * 0x80) 0x80 a || inWin (0x700100 + c * 0x40) 0x40 a

/-- The RING window of a ring. -/
def ringWindow (n a : Nat) : Bool := inWin (0x100000 + n * 64) 64 a
/-- The CORE windows of the physical cores of a region (R565). -/
def coreWindows (r a : Nat) : Bool := inWin (0x1000000 + r * 143 * 0x100) (143 * 0x100) a

/-- The context that a per-context window belongs to: CTX, STREAM, HEALTH, CARAVAN and PERF windows (R586), and the RING
window of a ring whose KIND is not 0. -/
def State.winCtx (s : State) (a : Nat) : Option Nat :=
  if inWin 0x20000 0x10000 a then some ((a - 0x20000) / 0x400)
  else if inWin 0x300000 0x4000 a then some ((a - 0x300000) / 0x100)
  else if inWin 0x401000 0x1000 a then some ((a - 0x401000) / 0x40)
  else if inWin 0x601000 0x2000 a then some ((a - 0x601000) / 0x80)
  else if inWin 0x700100 0x1000 a then some ((a - 0x700100) / 0x40)
  else if inWin 0x100000 0x100000 a then
    let n := (a - 0x100000) / 64
    if s.regFld (RING_CONFIG n) 0 2 = 0 then none else some (s.ringCtx n)
  else none

/-- A context has a step or a MOVE in progress (R468). -/
def State.ctxBusy (s : State) (c : Nat) : Bool :=
  s.inStep c || (s.ctx c).taken.any fun d => d.opc == 3 && d.started && d.result.isNone

/-- The block of an AP register is active (R15, R430, R468, R503, R529). -/
def State.apActive (s : State) (a : Nat) : Bool :=
  if inWin 0x20000 0x10000 a then s.ctxBusy ((a - 0x20000) / 0x400)
  else if inWin 0x400000 0x100 a then true
  else if inWin 0x600000 0x100 a then (List.range 64).any s.inStep
  else if inWin 0x800000 0x40000 a then match (s.region ((a - 0x800000) / 0x1000)).owner with
    | some c => s.inStep c
    | none => false
  else match s.winCtx a with
    | some c => s.inStep c
    | none => false

/-- Let the staged writes of the registers that satisfy `p` take effect (R15). -/
def State.applyStaged (s : State) (p : Nat → Bool) : State := { s with staged := spDrop p s.staged }
/-- A step has ended: what is staged in a block that is active no longer is in effect (R15). -/
def State.settleAp (s : State) : State := s.applyStaged fun a => !s.apActive a

/-- The steward reports the module failed through its management interfaces (R64, R519). -/
def State.reportFailed (s : State) : State :=
  ([.smb, .pcie .h0, .pcie .h1, .mg] : List MgmtPort).foldl (fun s p => s.emit (.moduleFailed p))
    (s.modPower fun p => { p with failed := true })

/-! Region power (R513 to R517). -/

/-- REGION_POWER STATE: 0 RUN, 1 DOZE, 2 RETAIN, 3 OFF. -/
def State.powerOf (s : State) (r : Nat) : Nat := s.regFld (REGION_POWER r) 0 2
/-- The value of a step register in effect, clamped to 4 to 16 (R520, R529). -/
def State.stepOf (s : State) (r : Nat) : Nat :=
  min (min (clampNat 4 16 (s.effFld (REGION_CLOCK_REQ r) 0 5)) (s.regFld POWER_STATUS 6 5)) (s.region r).thermal
/-- The region hosts the active foreman, a standby, or the standby that is taking over (R65, R409). -/
def State.hostsForeman (s : State) (r : Nat) : Bool :=
  s.foreman.standbys.contains r || s.foreman.takeover == some r || (s.foreman.active && s.regFld HEALTH_FOREMAN 0 6 == r)
/-- An unassigned region that hosts the foreman or a standby is held in DOZE at the voltage of clock step 4 (R65), which is the
step it reports (assumption 64). -/
def State.vlogHeld (s : State) (r : Nat) : Bool := (s.region r).owner.isNone && s.hostsForeman r
/-- A region's power state, and its clock step: one in RUN and DOZE alone. -/
def State.setPower (s : State) (r p : Nat) : State :=
  let s := s.setRegFld (REGION_POWER r) 0 2 p
  if p ≥ 2 then s.setRegFld (REGION_POWER r) 2 5 0
  else if s.vlogHeld r then s.setRegFld (REGION_POWER r) 2 5 4
  else if s.regFld (REGION_POWER r) 2 5 = 0 then s.setRegFld (REGION_POWER r) 2 5 (s.stepOf r) else s

/-- A region asks for a ramp (R516); a request for a ramp that already waits or runs is the same request. -/
def State.askRamp (s : State) (r : Nat) (up : Bool) : State :=
  if s.power.rampQ.any (fun q => q.region == r && q.up == up) || s.power.ramps.contains (r, up) then s
  else { s with power := { s.power with rampQ := (s.power.rampQ.filter fun q => q.region != r) ++ [⟨r, up, false, false⟩] } }

/-- A region leaves its context: down to RETAIN, but an entry region that hosts the foreman stays in DOZE (R65, R514). -/
def State.releaseRegion (s : State) (r : Nat) : State :=
  let s := s.modRegion r fun x => { x with owner := none }
  if s.isDark r ∨ s.powerOf r ≥ 2 then s else
  let s := s.setPower r 1
  if s.hostsForeman r then s else s.askRamp r false

/-- What a core loses when its region leaves DOZE downward (R513): accumulators and cluster state; `bench` too in OFF. What
they hold after the wake is their value at reset (assumption 67). -/
def Core.asleep (c : Core) (bench : Bool) : Core :=
  { Core.reset with
    bench := if bench then [] else c.bench, poison := if bench then [] else c.poison, homes := if bench then [] else c.homes, sgen := c.sgen, countdown := c.countdown, lasting := c.lasting }

/-- Change every core of a region. -/
def State.modRegionCores (s : State) (r : Nat) (f : Core → Core) : State :=
  (List.range 143).foldl (fun s i => if s.core (r * 143 + i) = Core.reset then s else s.modCore (r * 143 + i) f) s

/-- The routers of a region: its logical cores' and its column router. -/
def regionRouters (r : Nat) : List Nat := (List.range 120).map (fun i => r * 120 + i) ++ [7680 + r]

/-- Stop the schedules of a context's routers, or with `drop` lose their hop tables too (R402, R513). -/
def State.stopRouters (s : State) (r : Nat) (drop : Bool) : State :=
  let stop (e : Nat × Router) : Option (Nat × Router) :=
    if e.1 / 120 = r ∧ e.1 < 7680 ∨ e.1 = 7680 + r then (if drop then none else some (e.1, { e.2 with live := false }))
    else some e
  s.modFabric fun b => { b with routers := b.routers.filterMap stop }

/-! Verdicts and sums that a context still owes (R344, R346). -/

/-- The verdict set of a micro-batch, from the reduction plan of the variant in use (R344; assumption 15). -/
def State.verdictSet (s : State) (c mb : Nat) : List Nat :=
  match (s.ctx c).step with
  | none => []
  | some st =>
    match st.prog.variants[(st.variant.getD 0)]? with
    | none => []
    | some v => match v.vsets.find? fun e => e.1 == mb with
      | none => []
      | some e =>
        let js := (s.jobList c).dropWhile (· < e.2)
        js.take (Config.verdictLen e.1 e.2)

/-- The step tag of a context: the low eight bits of its step count (R18). -/
def State.tag (s : State) (c : Nat) : Nat := s.regFld (STREAM_STEP_COUNT c) 0 8

/-- The shards of the variant in use. -/
def State.shards (s : State) (c : Nat) : List Shard :=
  match (s.ctx c).step with
  | none => []
  | some st => match st.prog.variants[(st.variant.getD 0)]? with
    | none => []
    | some v => v.shards

/-- The foreman's verdict on a micro-batch goes to every module of the verdict set (R344); its own gates take it at once. -/
def State.tellVerdict (s : State) (c mb : Nat) (clean : Bool) : State :=
  let set := s.verdictSet c mb
  let s := s.modStep c fun st => { st with
    judged := insertNew mb st.judged, verdicts := st.verdicts ++ [(mb, s.moduleId, clean)] }
  (set.filter (· ≠ s.moduleId)).foldl (fun s m => s.sendExpress c m 0x03 (verdictSub mb (s.tag c) clean)) s

/-- The foreman sends its verdict on a micro-batch: clean unless it has heard that the micro-batch is doubtful (R344). -/
def State.sendVerdict (s : State) (c mb : Nat) : State :=
  match (s.ctx c).step with
  | none => s
  | some st => if st.judged.contains mb then s else s.tellVerdict c mb (!(s.ctx c).told.contains mb)

/-- The foreman hears that a micro-batch is doubtful, and withholds it (R25, R429): D1 is the region that reports it, 0x3F when
no region does. A clean verdict that has gone out is taken back by a doubtful one (R19, assumption 59). -/
def State.withhold (s : State) (c mb region : Nat) : State :=
  let s := s.doubt c mb
  if (s.ctx c).told.contains mb then s else
  let s := (s.modCtx c fun x => { x with told := insertNew mb x.told }).postEvent c 0x101 (w32 (mb % 65536)) (w32 region) 0#32
  if (s.ctx c).step.any fun st => st.judged.contains mb then
    (s.tellVerdict c mb false).modStep c fun st => { st with recalled := insertNew mb st.recalled }
  else s

/-- A sum header (R341). -/
def sumHdr (tile mb : Nat) (wide fp null : Bool) (terms mbs tag tokens : Nat) (word : W32) : W256 :=
  let n := tile + (mb <<< 32) + bitN wide 48 + bitN fp 49 + bitN null 50 + (terms <<< 64) + (mbs <<< 96) + (tag <<< 120)
    + (tokens <<< 128) + (word.toNat <<< 176)
  let crc := crcMsb 16 0x1021#16 0xFFFF#16 (leBytes 30 n)
  BitVec.ofNat 256 (n + (crc.toNat <<< 240))

/-- A NULL sum for a tile to the shard's parent (R346), when this module is not the root. -/
def State.sendNull (s : State) (c : Nat) (sh : Shard) (tile mb : Nat) : State :=
  if sh.root then s else
  s.sendParts c sh.parent 1 0x10 (some sh.port)
    (sumHdr tile mb false (s.regBit (STREAM_LEDGER_CONTROL c) 0) true 0 0 (s.tag c) 0 0#32) [[]]

/-- The tiles of a shard whose sum this module has sent on. -/
def State.tileSent (s : State) (c t : Nat) : Bool :=
  (s.ctx c).step.any fun st => st.sums.any fun q => q.sent && q.tile == t && q.mb == 0xFFFF

/-- NULL sums for every tile of a shard that the module still owes (R346). -/
def State.sendNulls (s : State) (c : Nat) (sh : Shard) : State :=
  (List.range sh.ntiles).foldl (fun s i =>
    if s.tileSent c (sh.first + i) then s else s.sendNull c sh (sh.first + i) 0xFFFF) s

/-- Doubtful verdicts for every micro-batch that has none, and a NULL sum for every shard that the module still owes
(R445, R290). -/
def State.abandonStep (s : State) (c : Nat) : State :=
  match (s.ctx c).step with
  | none => s
  | some st =>
    let owed := (List.range st.prog.tokens.length).filter fun mb => !st.judged.contains mb
    let s := owed.foldl (fun s mb => (s.withhold c mb 0x3F).sendVerdict c mb) s
    (s.shards c).foldl (fun s sh => s.sendNulls c sh) s

/-- The schedule of a context stops. -/
def State.haltSchedule (s : State) (c : Nat) : State :=
  (s.ctxRegions c).foldl (fun s r => s.stopRouters r false) s

/-! Teardown (R445). -/

/-- Start a teardown. `silent`: no completion is written, as when the owning port is lost or the module is reset. -/
def State.teardown (s : State) (c : Nat) (silent : Bool) (desc : Option Nat) : State :=
  if s.ctxState c = 0 then s else
  let s := if s.ctxState c = 2 then s else
    let s := s.setRegFld (CTX_STATUS c) 0 2 2
    let s := s.abandonStep c
    if s.regFld MOD_FABRIC_STATUS 0 2 = 0 then s.haltSchedule c else s.modCtx c fun x => { x with stopDue := true }
  -- a swatch is cancelled, a securing fails, a MOVE stops (R394, R422)
  let s := match (s.ctx c).swatch with
    | some w => (s.complete c w.desc 4 0x42).orReg (CTX_PIPE_FLAGS c) 0x20
    | none => s
  let s := match (s.ctx c).secure with
    | some q =>
      let s := s.orReg (HEALTH_SEC_FLAGS c) 2
      (s.setRegFld (HEALTH_SEC_STATUS c) 0 2 0).postEvent c 0x10C q.step 3#32 0#32
    | none => s
  -- the crates leave the map before their wipe begins (R306)
  let s := s.modCtx c fun x => { x with
    gone := x.gone ++ (x.map.map (·.2)).filter (fun e => meTier e != 0) ++
      x.migrations.map fun m => newEntry (if m.toCellar then 1 else 2) m.loc 0 0 0 false false
    goneStock := x.goneStock + x.tallyCrates (s.regBit (STREAM_LEDGER_CONTROL c) 0)
    map := [], migrations := [], awaiting := [], orphans := [], sealed := [], delivered := []
    swatch := none, secure := none, secureQ := [], sched := [], step := none
    portLost := x.portLost || silent, tearDesc := if silent then none else x.tearDesc.or desc,
    taken := if x.portLost || silent then [] else x.taken.map fun d =>
      if d.result.isNone && desc != some d.no then { d with started := true, result := some ⟨4, 0, 0x42, 0⟩ }
      else d }
  let s := { s.setPhase c 0 with short := s.short.filter fun e => e.1 != c }.settleAp
  if s.wipes.contains c then s else { s with wipes := s.wipes ++ [c] }.orReg QUOTA_WIPE_STATUS 8

/-- The last entry of a torn-down context is written: its rings are disabled and returned to reset values, its regions
enter RETAIN, its quotas and sinks are cleared, and the context is free (R445). -/
def State.freeCtx (s : State) (c : Nat) : State :=
  let rings := (s.rings.map (·.1)).filter fun n => s.ringCtx n == c
  let allRings := ((s.regs.filter fun e => inWin 0x100000 0x100000 e.1).map fun e => (e.1 - 0x100000) / 64).eraseDups
  let named := allRings.filter fun n => s.ringCtx n == c && s.reg (RING_CONFIG n) != 0#32
  let regions := s.ctxRegions c
  let s := regions.foldl (fun s r => s.releaseRegion r) s
  let s := { s with rings := s.rings.filter fun e => !rings.contains e.1 }
  let s := s.resetRegs fun a => ctxWindow c a || named.any (fun n => ringWindow n a) || regions.any fun r => coreWindows r a
  s.setCtx c Ctx.reset

/-- Free a torn-down context once its wipe is complete and every entry is written. -/
def State.tryFree (s : State) (c : Nat) : State :=
  if s.ctxState c = 2 ∧ ¬ s.wipes.contains c ∧ (s.ctx c).taken = [] then s.freeCtx c else s

/-- TEARDOWN_WIPE_COMPLETE (R306, R445): the context's crates and the cores of its regions are wiped, its quota use is
released, and the TEARDOWN descriptor completes. -/
def State.teardownWiped (s : State) (c : Nat) : State :=
  if !s.wipes.contains c then s else
  let s := (s.ctx c).gone.foldl (fun s e => s.placeWipe (meplace e)) s
  let s := (s.ctxRegions c).foldl (fun s r => (s.modRegionCores r fun k => { Core.reset with sgen := k.sgen, lasting := k.lasting }).stopRouters r true) s
  let s := { s with wipes := s.wipes.filter (· ≠ c) }
  let s := if s.wipes.isEmpty then s.setRegFld QUOTA_WIPE_STATUS 3 1 0 else s
  let s := s.modCtx c fun x => { x with
    gone := [], goneStock := 0, scaleA := [], scaleB := [], scaleAt := [], scaleKind := [], sinks := [], slots := [] }
  let s := s.refillSpares.setRegFld (CTX_SCALE_ENTRIES c) 0 32 0
  let s := match (s.ctx c).tearDesc with
    | some n => s.complete c n 0 0
    | none => s
  s.tryFree c

end Sys2Proof.Machine
end

