-- ==== Sys2Proof/Machine/Module.lean ====
section
/-! DEFINITION. The module's state (R469, R470): RUN, PAUSE, HALT, RESET and POWER_OFF, the conflicts between masters, the
wipes (R304, R305), and how a bring-up begins (R532, R545). -/

namespace Sys2Proof.Machine

/-- A master's number in MOD_CONFLICT (R471). -/
def srcNo : Master → Nat
  | .h0 => 0
  | .h1 => 1
  | .steward => 2
/-- A module state's number, and its place in the order "safer wins" (R469). -/
def stateNo : ModState → Nat
  | .run => 0
  | .pause => 1
  | .halt => 2
  | .reset => 3
  | .powerOff => 4

/-- MOD_STATUS STATE and READY. -/
def State.modState (s : State) : Nat := s.regFld MOD_STATUS 0 3
def State.ready (s : State) : Bool := s.regBit MOD_STATUS 5
/-- MOD_BRINGUP_STATUS PHASE (R548). -/
def State.bringup (s : State) : Nat := s.regFld MOD_BRINGUP_STATUS 0 3
/-- A bring-up is running. -/
def State.bringingUp (s : State) : Bool := s.bringup == 1 || s.bringup == 2 || s.bringup == 3

/-- Record a discarded write in MOD_CONFLICT (R469, R470). -/
def State.conflict (s : State) (lostState wonState lostSrc wonSrc block : Nat) : State :=
  let n := (s.regFld MOD_CONFLICT 16 16 + 1) % 65536
  let w := w32 (lostState + (wonState <<< 3) + (lostSrc <<< 6) + (wonSrc <<< 8) + (block <<< 10) + (n <<< 16))
  ((s.setReg MOD_CONFLICT w).orReg MOD_HOST_FLAGS 1).postAll 0x3 w 0#32 0#32

/-! Steps that end early. -/

/-- A context goes to SEALING with every micro-batch that has no verdict doubtful (R403, R469). -/
def State.sealEarly (s : State) (c : Nat) : State :=
  match (s.ctx c).step with
  | none => s
  | some st =>
    if s.phase c ≥ 4 ∨ s.phase c = 0 then s else
    let s := s.haltSchedule c
    let s := (List.range st.prog.tokens.length).foldl (fun s mb =>
      if (s.ctx c).step.any (fun st => st.judged.contains mb) then s
      else (s.withhold c mb 0x3F).sendVerdict c mb) s
    ((s.setPhase c 4).setRegFld (STREAM_LEDGER_STATUS c) 0 3 1).setRegFld (STREAM_LEDGER_STATUS c) 8 8 (s.tag c)

/-! Descriptor kinds (R453). -/
/-- A context fence (R435). -/
def Desc.isFence (d : Desc) : Bool :=
  d.opc == 7 || d.opc == 4 || (d.opc == 9 && (fld d.words 64 8 == 1 || fld d.words 64 8 == 2 || fld d.words 64 8 == 6))

/-- Whether a descriptor waits under R20, R387 or R435 (R469). -/
def waitsOn (x : Ctx) (d : Desc) : Bool :=
  !d.started && d.result.isNone &&
  ((d.opc == 1 && x.step.isSome) || (d.opc == 5 && x.swatch.isSome) || d.isFence ||
   (x.taken.takeWhile fun e => e.no != d.no).any fun e => e.isFence && e.result.isNone)

/-- HALT cancels the descriptors that wait. -/
def State.cancelWaiting (s : State) (c : Nat) : State :=
  s.modCtx c fun x => { x with
    taken := x.taken.map fun d =>
      if waitsOn x d then { d with started := true, result := some ⟨4, 0, 0x41, 0⟩ } else d }

/-! Reset and power off. -/

/-- Registers that RESET and POWER_OFF keep (R588); the status registers that show a state which the reset does not
change are kept with that state (assumption 17). -/
def keptReg (a : Nat) : Bool :=
  inWin 0 0x10 a || a == MOD_CONTROL || a == MOD_STATUS || a == MOD_CONFLICT || inWin 0x10300 0x18 a ||
  inWin 0x500000 0x10000 a || a == HEALTH_FOREMAN ||
  (inWin 0x800000 0x40000 a && (inWin 0x100 0x30 (a % 0x1000) || a % 0x1000 == 0x700 || a % 0x1000 == 0x708 || a % 0x1000 == 0x70C))

/-- A caravan after a reset: the cages alone keep what is in them. -/
def Caravan.afterReset (v : Caravan) : Caravan := { Caravan.reset with osfp := v.osfp }

/-- Every register but those kept, every context, ring, flow and memory returns to its state after power-on. -/
def State.wipeOut (s : State) : State :=
  let s := s.existing.foldl (fun s c => s.abandonStep c) s
  let s := s.resetRegs fun a => !keptReg a
  let s := (List.range 16).foldl (fun s p =>
    if (spGet (fun _ => none) s.caravan.osfp p).isSome then s.setRegFld (CARAVAN_PORT_STATUS p) 16 1 1 else s) s
  let s := s.setRegFld MOD_STATUS 5 1 0
  { s with
    ctxs := [], rings := [], cores := [], spares := 65536, short := [], cellar := [], cellarBad := [], stock := [], stockBad := [], wipes := [], keep := [],
    latches := [], caravan := s.caravan.afterReset, snap := Snapshot.reset, monitors := [],
    mail0 := Mailbox.reset, mail1 := Mailbox.reset,
    regions := (s.regions.map fun e => (e.1, { e.2 with owner := none, refetch := false, restores := [], darkDue := false, newDead := [], checks := 0, heldN := 0 })),
    fabric := { Fabric.reset with epoch := s.fabric.epoch },
    boot := { s.boot with wiping := true } }

/-- Module reset (R469): every context is torn down without completions, and every wipe of R304 runs. -/
def State.moduleReset (s : State) (m : Master) : State :=
  let s := s.wipeOut
  let s := (List.range 64).foldl (fun s r =>
    if s.powerOf r ≤ 1 ∧ ¬ s.isDark r then (if s.hostsForeman r then s.setPower r 1 else s.askRamp r false) else s) s
  s.modBoot fun b => { b with inReset := true, resetBy := srcNo m }

/-- Choose cold or warm (R545) and begin a bring-up (R530, R548). -/
def State.beginBringup (s : State) : State :=
  let ok (i : Inventory) : Bool := i.valid && i.step == s.stepping && i.serial == s.serial
  let cold := !(ok s.boot.invA || ok s.boot.invB) || s.regBit MOD_BRINGUP_CONTROL 0 || s.boot.cold
  let s := s.setReg MOD_BRINGUP_STATUS (w32 (1 + bitN cold 7))
  let s := (s.setRegFld MOD_BRINGUP_CONTROL 0 1 0).setRegFld QUOTA_WIPE_STATUS 0 3 7
  let s := { s with regions := s.regions.map fun (e : Nat × Region) => (e.1, { e.2 with dark := none, svcFailed := 0, proven := false }) }
  s.modBoot fun b => { b with
    cold := false, booted := false, off := false, inReset := false, testing := [], tested := [], proven := [], gained := 0, stockDone := false,
    wiping := true }

/-- POWER_OFF (R469, R527): every region goes to OFF, ramps are abandoned and waiting requests discarded, and a bring-up
in progress is abandoned (R532). -/
def State.powerOff (s : State) (m : Master) : State :=
  let abandoned := s.bringingUp
  let s := s.wipeOut
  let s := (List.range 64).foldl (fun s r =>
    ((s.setPower r 3).setRegFld (REGION_POWER r) 16 2 0).modRegion r fun x => { x with proven := false }) s
  let s := s.modPower fun p => { p with ramps := [], rampQ := [] }
  let s := s.setRegFld POWER_STATUS 13 2 0
  let s := if abandoned then s.setRegFld MOD_BRINGUP_STATUS 0 3 6 else s
  let s := { s with foreman := { Foreman.reset with turn := s.foreman.turn } }
  s.modBoot fun b => { b with inReset := false, off := true, busy := false, resetBy := srcNo m }

/-- The write that takes effect when several masters write MOD_CONTROL in the same keeper clock cycle: the safer wins. -/
def saferWin (w : Master × ModState) (ws : List (Master × ModState)) : Master × ModState :=
  ws.foldl (fun a b => if stateNo a.2 < stateNo b.2 then b else a) w

/-- A new bring-up starts, when the converter runs and a reference oscillator does (R506, R519), and the module is not in
recovery (R535). -/
def State.restart (s : State) : State :=
  if s.regFld POWER_STATUS 0 3 = 3 ∧ s.bringup ≠ 5 ∧ (s.power.oscA || s.power.oscB) = true then s.beginBringup else s

/-- The state that a write puts into effect. A POWER_OFF of the steward under R506, R524 or R526 gives way to RUN alone
(R508). -/
def State.enterState (s : State) (m : Master) (st : ModState) : State :=
  if s.power.offForce ∧ st ≠ .run then s else
  let s := (s.setReg MOD_CONTROL (w32 (stateNo st))).setRegFld MOD_STATUS 0 3 (stateNo st)
  match st with
  | .run =>
    if s.boot.off then (s.modPower fun p => { p with offForce := false }).restart else s
  | .pause => s
  | .halt => s.existing.foldl (fun s c => (s.sealEarly c).cancelWaiting c) s
  | .reset =>
    if s.bringingUp ∨ s.boot.off = true then
      -- R532: the bring-up is abandoned, every region goes to OFF, and a new one starts at once
      let s := (List.range 64).foldl (fun s r => s.setPower r 3) s
      let s := s.modPower fun p => { p with ramps := [], rampQ := [] }
      let s := (s.modFabric fun b => { b with change := none }).setRegFld MOD_FABRIC_STATUS 0 2 0
      (s.setRegFld POWER_STATUS 13 2 0).restart.setRegFld MOD_STATUS 0 3 0
    else s.moduleReset m
  | .powerOff => s.powerOff m

/-- A MOD_CONTROL write by a master with the writes that it meets (R469, R470). -/
def State.modWrite (s : State) (m : Master) (st : ModState) (lost : List (Master × ModState)) : State :=
  if s.boot.inReset ∧ st ≠ .powerOff ∧ ¬ lost.any (fun e => e.2 == .powerOff) then
    ((m, st) :: lost).foldl (fun s e => s.conflict (stateNo e.2) s.modState (srcNo e.1) s.boot.resetBy 1) s
  else
    let w := saferWin (m, st) lost
    let s := (((m, st) :: lost).erase w).foldl (fun s e =>
      s.conflict (stateNo e.2) (stateNo w.2) (srcNo e.1) (srcNo w.1) 1) s
    s.enterState w.1 w.2

/-- The steward writes POWER_OFF to MOD_CONTROL under R506, R524 or R526 (R508). -/
def State.stewardOff (s : State) : State :=
  (s.modWrite .steward .powerOff []).modPower fun p => { p with offForce := true }

/-- The host may use BAR0 at all: not in recovery (R535), and not in RETIRED (R553). -/
def State.hostOpen (s : State) : Bool := s.bringup != 5 && s.regFld MOD_LIFECYCLE 0 3 != 4

/-- A master's MOD_CONTROL write reaches the module: a host's unless its registers are shut, the steward's unless it carries
out another request (R559). -/
def State.modCommand (s : State) (m : Master) (st : ModState) (lost : List (Master × ModState)) : Out :=
  if (if m = .steward then !s.boot.busy else s.hostOpen) then .next (s.modWrite m st lost) else .next s

def execRun (m : Master) (lost : List (Master × ModState)) (s : State) : Out := s.modCommand m .run lost
def execPause (m : Master) (lost : List (Master × ModState)) (s : State) : Out := s.modCommand m .pause lost
def execHalt (m : Master) (lost : List (Master × ModState)) (s : State) : Out := s.modCommand m .halt lost
def execReset (m : Master) (lost : List (Master × ModState)) (s : State) : Out := s.modCommand m .reset lost
def execPowerOff (m : Master) (lost : List (Master × ModState)) (s : State) : Out := s.modCommand m .powerOff lost

/-- A mode change begins, and MODE reads 3 (R109). -/
def State.changeMode (s : State) (m : Nat) : State :=
  (s.modFabric fun b => { b with change := some (m, 2) }).setRegFld MOD_FABRIC_STATUS 0 2 3

/-- The root of the whole-wafer barrier tree: region 37 of a healthy module (R107); with it dark, the lowest-numbered region that is
not (assumption 61). -/
def State.wholeRoot (s : State) : Nat :=
  if s.isDark 37 then ((List.range 64).find? fun r => !s.isDark r).getD 37 else 37

/-- READY, and with it the service mode of the fabric (R109), once a completed bring-up's regions are wiped and nothing has
switched the module off (R541, R552). -/
def State.becomeReady (s : State) : State :=
  if s.bringup = 4 ∧ ¬ s.boot.wiping ∧ ¬ s.boot.off ∧ s.regFld POWER_STATUS 0 3 = 3 then
    let s := s.setRegFld MOD_STATUS 5 1 1
    let s := if s.regFld MOD_FABRIC_STATUS 0 2 = 0 then s.changeMode 1 else s
    (s.setRegFld MOD_FABRIC_STATUS 8 6 s.wholeRoot).modBoot fun b => { b with busy := false }
  else s

/-- WIPE_COMPLETE (R305): the wipe of a tier ends. With the last one the wipe is complete: a reset enters RUN, a finished bring-up
or a lifecycle wipe sets READY. -/
def execWipeComplete (tier : MemTier) (s : State) : Out :=
  if !s.boot.wiping then .next s else
  let bit := match tier with
    | .bench => 0
    | .cellar => 1
    | .stock => 2
  let s := s.setRegFld QUOTA_WIPE_STATUS bit 1 0
  if s.regFld QUOTA_WIPE_STATUS 0 3 ≠ 0 then .next s else
  let s := if s.boot.inReset then s.setRegFld MOD_STATUS 0 3 0 else s
  .next (s.modBoot fun b => { b with wiping := false, inReset := false }).becomeReady

/-- TEARDOWN_WIPE_COMPLETE (R306). -/
def execTeardownWipeComplete (ctx : Fin 64) (s : State) : Out := .next (s.teardownWiped ctx)

end Sys2Proof.Machine
end

