-- ==== Sys2Proof/Machine/Ports.lean ====
section
/-! DEFINITION. The caravan ports (R474 to R476, R497, R498, R608): training, admission, lane loss, retraining, leaving
service, and the moves of flows (R491) and tally roles (R412, R502) that follow. -/

namespace Sys2Proof.Machine

/-- The lane groups of a width (R475): the first lane of each. -/
def laneGroups (w : Nat) : List Nat := (List.range (8 / w)).map (· * w)

/-- The widest width of R475 whose lanes are all sound, no wider than MAXW allows; 0 when there is none (R476). -/
def State.widest (s : State) (p : Nat) : Nat :=
  let failed := s.regFld (CARAVAN_PORT_STATUS p) 8 8
  let maxw := 2 ^ min 3 (s.regFld (CARAVAN_PORT_CONTROL p) 4 4)
  (([8, 4, 2, 1] : List Nat).find? fun w => decide (w ≤ maxw) &&
    (laneGroups w).any fun f => nfld failed f w == 0).getD 0

def State.setPortState (s : State) (p st : Nat) : State := s.setRegFld (CARAVAN_PORT_STATUS p) 0 3 st
def State.setLanes (s : State) (p n : Nat) : State := s.setRegFld (CARAVAN_PORT_STATUS p) 4 4 n

/-- An OSFP module is present and may be used: at most 30 W, and of the 200 Gb/s-per-lane class (R608). -/
def State.osfpFit (s : State) (p : Nat) : Bool :=
  match spGet (fun _ => none) s.caravan.osfp p with
  | some (w, ok) => decide (w ≤ 30) && ok
  | none => false

/-- Give every flow whose port satisfies `p` the port of R491, and send what its window has room for. -/
def State.moveFlows (s : State) (p : Nat → Bool) : State :=
  let moved := (s.caravan.tx.filter fun x => p x.port).map fun x => (x.job, x.dst, x.cls)
  moved.foldl (fun s k =>
    (s.modTx k.1 k.2.1 k.2.2 fun x => { x with port := (s.flowPort k.1 k.2.1 k.2.2).getD 16 }).pumpFlow k.1 k.2.1 k.2.2) s

/-- SUM_AGAIN (R347): the sum of a tile is asked for again; its subheader is chosen: the tile in [31:0], the micro-batch in
[47:32] (assumption 16). -/
def State.sendSumAgain (s : State) (c m tile mb : Nat) : State :=
  s.sendParts c m 1 0x11 none (BitVec.ofNat 256 (tile + (mb <<< 32))) [[]]

/-- The sums that were in a port's bridge and had not left are requested again from their senders (R502). -/
def State.rerequest (s : State) (p : Nat) : State :=
  s.existing.foldl (fun s c =>
    let ours := (s.shards c).filter fun sh => s.tallyPort sh.port == p
    let mine (q : TallySum) : Bool := !q.sent && ours.any fun sh => decide (sh.first ≤ q.tile ∧ q.tile < sh.first + sh.ntiles)
    let asks : List (Nat × Nat × Nat) := match (s.ctx c).step with
      | some st => (st.sums.filter mine).flatMap fun (q : TallySum) => q.inputs.filterMap fun e => match e.1 with
          | .module m => some (m, q.tile, q.mb)
          | .region _ | .fabric _ _ => none
      | none => []
    let s := s.modStep c fun st => { st with sums := st.sums.map fun q => if mine q then
      { q with inputs := q.inputs.filter fun e => match e.1 with | .module _ => false | .region _ | .fabric _ _ => true } else q }
    asks.foldl (fun s a => s.sendSumAgain c a.1 a.2.1 a.2.2) s) s

/-- The next fitted port in ascending order, modulo 16, that is in service; else the next fitted one (R412). -/
def State.nextPort (s : State) (p : Nat) : Nat :=
  let order := (List.range 15).map (fun i => (p + 1 + i) % 16) |>.filter (· < s.ports)
  ((order.find? fun q => s.portState q != 0).orElse fun _ => order.head?).getD p

/-- A port's tally role, and those that it serves for others, move (R412, R502). -/
def State.moveTally (s : State) (p : Nat) : State :=
  let dest := s.nextPort p
  let roles := (List.range 16).filter fun q => s.tallyPort q == p
  let s := s.rerequest p
  let s := s.modCaravan fun v => { v with tally := roles.foldl (fun t q => spSet (fun _ => none) t q (some dest)) v.tally }
  (s.orReg HEALTH_FLAGS 4).postAll 0x10A (w32 (1 + (p <<< 4) + (dest <<< 12))) 0#32 0#32

/-- A port goes DOWN (R498): flows move, the tally role moves, unacknowledged frames are kept for other ports. -/
def State.portDown (s : State) (p : Nat) : State :=
  let s := ((s.setPortState p 0).setLanes p 0).orReg CARAVAN_FLAGS 4
  let s := s.modCaravan fun v => { v with peers := v.peers.filter fun e => e.port != p }
  (s.moveFlows (· == p)).moveTally p

/-- Training starts when the port is enabled, a usable OSFP module is present and the module ID is valid (R498). -/
def State.tryTrain (s : State) (p : Nat) : State :=
  if s.portState p = 0 ∧ s.regBit (CARAVAN_PORT_CONTROL p) 0 = true ∧ p < s.ports ∧ s.moduleIdValid = true ∧ s.ready = true
  then (if s.osfpFit p then s.setPortState p 1 else
    if s.regBit (CARAVAN_PORT_STATUS p) 16 then s.orReg CARAVAN_FLAGS 4 else s) else s

/-- Whether a HELLO is admitted (R497). -/
def State.helloGood (s : State) (h : W256) : Bool :=
  let m := fld h 16 17
  fld h 0 16 == 0xA640 && m != s.moduleId &&
  !s.caravan.peers.any fun e => e.module == m && e.serial != BitVec.ofNat 64 (fld h 96 64)

/-- A port becomes UP, or is UP again (R498): flows find it (R491). -/
def State.portUpNow (s : State) (p : Nat) : State := (s.setPortState p 2).moveFlows fun _ => true

/-- The HELLO of a peer on a port is admitted or refused (R497). -/
def State.admitPeer (s : State) (p : Nat) (h : W256) : State :=
  let m := fld h 16 17
  if s.helloGood h then
    let s := s.modCaravan fun v => { v with
      peers := insertNew ⟨m, BitVec.ofNat 64 (fld h 96 64), p⟩ v.peers, refused := v.refused.filter (· ≠ m) }
    if s.portState p = 1 ∧ s.regFld (CARAVAN_PORT_STATUS p) 4 4 ≠ 0 then s.portUpNow p else s
  else
    let s := s.orReg CARAVAN_FLAGS 2
    let s := s.modCaravan fun v => { v with refused := insertNew m v.refused }
    if s.portState p = 1 ∧ ¬ s.switched then s.setPortState p 4 else s

/-- ENABLE written 1. -/
def State.enablePort (s : State) (p : Nat) : State := (s.setRegFld (CARAVAN_PORT_CONTROL p) 0 1 1).tryTrain p
/-- ENABLE written 0. -/
def State.disablePort (s : State) (p : Nat) : State :=
  let s := s.setRegFld (CARAVAN_PORT_CONTROL p) 0 1 0
  if s.portState p = 0 then s else s.portDown p
/-- RETRAIN written 1: the failed-lane marks are cleared and the port trains at full width. A port that may not train
stays DOWN. -/
def State.retrainPort (s : State) (p : Nat) : State :=
  let s := s.setRegFld (CARAVAN_PORT_STATUS p) 8 8 0
  if s.portState p = 0 then s.tryTrain p else
  let s := (s.setPortState p 1).setLanes p 0
  let s := s.modCaravan fun v => { v with peers := v.peers.filter fun e => e.port != p }
  s.moveFlows (· == p)

/-- A write of CARAVAN_PORT_CONTROL reaches a port at all (R531, R535, R7). -/
def State.portOpen (s : State) (m : Master) (p : Nat) : Bool :=
  decide (p < s.ports) && s.ready && (m == .steward || s.hostOpen)

/-- PORT_ENABLE (R498). -/
def execPortEnable (m : Master) (port : Fin 16) (s : State) : Out :=
  .next (if s.portOpen m port then s.enablePort port else if s.ready then s else s.orReg MOD_MGMT_FLAGS 1)

/-- PORT_DISABLE (R498). -/
def execPortDisable (m : Master) (port : Fin 16) (s : State) : Out :=
  .next (if s.portOpen m port then s.disablePort port else if s.ready then s else s.orReg MOD_MGMT_FLAGS 1)

/-- RETRAIN (R498). -/
def execRetrain (m : Master) (port : Fin 16) (s : State) : Out :=
  .next (if s.portOpen m port then s.retrainPort port else if s.ready then s else s.orReg MOD_MGMT_FLAGS 1)

/-- PORT_LOCK (R498): a port locks at a width. In training HELLO follows; in a retrain the port is UP again. -/
def execPortLock (port : Fin 16) (lanes : Nat) (hello : Option W256) (s : State) : Out :=
  let p := port.val
  if ¬ (lanes ∈ ([1, 2, 4, 8] : List Nat) ∧ lanes ≤ s.widest p) then .next s
  else if s.portState p = 1 then
    let s := (s.setLanes p lanes).sendHello p (hello.map fun h => fld h 16 17)
    .next (match hello with
      | some h => s.admitPeer p h
      | none => if s.switched then s.portUpNow p else s)
  else if s.portState p = 3 ∧ lanes = s.widest p then
    let s := (s.setLanes p lanes).bump (CARAVAN_PORT_RETRAINS p) 1
    let s := (s.orReg HEALTH_FLAGS 8).postAll 0x109 (w32 (p + (lanes <<< 4))) 0#32 0#32
    .next (s.portUpNow p)
  else .next s

/-- TRAINING_TIMEOUT (R498): no lock at any width within 500 ms. -/
def execTrainingTimeout (port : Fin 16) (s : State) : Out :=
  if s.portState port = 1 ∧ s.regFld (CARAVAN_PORT_STATUS port) 4 4 = 0 then
    .next ((s.setPortState port 0).orReg CARAVAN_FLAGS 4)
  else .next s

/-- LANE_LOSS (R498): the lane is marked failed, flows move, and the port retrains; with no width left it goes DOWN. -/
def execLaneLoss (port : Fin 16) (lane : Fin 8) (s : State) : Out :=
  let p := port.val
  if s.portState p = 2 then
    let s := s.setRegFld (CARAVAN_PORT_STATUS p) (8 + lane.val) 1 1
    if s.widest p = 0 then .next (s.portDown p)
    else .next ((s.setPortState p 3).moveFlows (· == p))
  else .next s

/-- RETRAIN_TIMEOUT (R498, R412, R502). -/
def execRetrainTimeout (port : Fin 16) (s : State) : Out :=
  if s.portState port = 3 then .next (s.portDown port) else .next s

/-- OSFP_INSERT (R608, R609). -/
def execOsfpInsert (port : Fin 16) (watts : Nat) (class200 : Bool) (s : State) : Out :=
  let p := port.val
  if s.ports ≤ p ∨ (spGet (fun _ => none) s.caravan.osfp p).isSome = true then .next s else
  let s := s.modCaravan fun v => { v with osfp := spSet (fun _ => none) v.osfp p (some (watts, class200)) }
  let s := s.setRegFld (CARAVAN_PORT_STATUS p) 16 1 1
  let s := if s.osfpFit p then s else s.orReg CARAVAN_FLAGS 4
  .next (s.tryTrain p)

/-- OSFP_REMOVE (R609): the port goes DOWN. -/
def execOsfpRemove (port : Fin 16) (s : State) : Out :=
  let p := port.val
  let s := s.modCaravan fun v => { v with osfp := spSet (fun _ => none) v.osfp p none }
  let s := s.setRegFld (CARAVAN_PORT_STATUS p) 16 1 0
  .next (if s.portState p = 0 then s else s.portDown p)

/-- PFC_PAUSE (R488): a pause or a resume of classes 1 to 3 is honoured when PFC is set; class 0 is never paused. -/
def execPfcPause (port : Fin 16) (pcps : Byte) (on : Bool) (s : State) : Out :=
  let p := port.val
  if !(s.portUp p && s.regBit (CARAVAN_PORT_CONTROL p) 8) then .next s else
  let mask : Byte := BitVec.ofNat 8 (maskOf (([1, 2, 3] : List Nat).map s.pcp)) &&& pcps
  let old := spGet (fun _ => (0#8 : Byte)) s.caravan.paused p
  let s := s.modCaravan fun v => { v with
    paused := spSet (fun _ => 0#8) v.paused p (if on then old ||| mask else old &&& ~~~mask) }
  .next (if on then s else s.moveFlows fun q => q == p)

end Sys2Proof.Machine
end

