-- ==== Sys2Proof/Machine/HostRead.lean ====
section
/-! DEFINITION. Reading the registers (R14, R439, R440, R531, R535, R553, R560, R581, R584, R585): the values that are
computed from other state, the latches, and BAR4 (R590 to R594). -/

namespace Sys2Proof.Machine

/-- The effective power cap (R522, R524, R526), rounded down to a watt. -/
def State.effCap (s : State) : Nat :=
  let cap := clampNat 2000 32000 (s.regFld POWER_CAP 0 16)
  let flowA := s.regFld POWER_COOL_A 16 12
  let flowB := s.regFld POWER_COOL_B 16 12
  let hot := max (s.regFld POWER_COOL_A 0 8) (s.regFld POWER_COOL_B 0 8)
  let c1 := if s.power.cooled then
      min (min (cap * flowA / 600) (cap * flowB / 200)) (min cap (cap * (20 - (hot - 40)) / 20)) else cap
  if s.power.hotConv then c1 * 3 / 4 else c1

/-- The rings of a context that are enabled (R446). -/
def State.ringUse (s : State) (c : Nat) : Nat :=
  (s.rings.filter fun e => e.2.on && s.ringCtx e.1 == c).length

/-- Descriptors of a ring taken and not yet completed. -/
def State.outstanding (s : State) (n : Nat) : Nat :=
  min 65535 (((s.ctx (s.ringCtx n)).taken.filter fun d => d.ring == n && d.result.isNone).length)

/-- The number of a port. -/
def portNo : HostPort → Nat
  | .h0 => 0
  | .h1 => 1
def masterPort : Master → Option Nat
  | .h0 => some 0
  | .h1 => some 1
  | .steward => none

/-- The access reaches a context that the other port owns (R440, R586). -/
def State.foreign (s : State) (port a : Nat) : Bool :=
  match s.winCtx a with
  | some c => s.ctxState c != 0 && s.ctxPort c != port
  | none => false

/-- The block code of an address (R578). -/
def blockOf (a : Nat) : Nat :=
  if a < 0x10000 then 0 else if a < 0x20000 then 1 else if a < 0x100000 then 2 else if a < 0x200000 then 3
  else if a < 0x300000 then 4 else if a < 0x400000 then 5 else if a < 0x500000 then 6 else if a < 0x600000 then 7
  else if a < 0x700000 then 8 else if a < 0x800000 then 9 else if a < 0x1000000 then 10 else 11

/-- The W1C registers that hold a bit. -/
def State.stickies (s : State) : List Nat :=
  (s.regs.map (·.1)).filter fun a => match regRow a with
    | some r => r.acc == .w1c && s.reg a != 0#32
    | none => false

/-- The mailbox of a port. -/
def State.mail (s : State) (p : Nat) : Mailbox := if p = 0 then s.mail0 else s.mail1
def State.setMail (s : State) (p : Nat) (m : Mailbox) : State := if p = 0 then { s with mail0 := m } else { s with mail1 := m }
def Mailbox.reg (m : Mailbox) (o : Nat) : W32 := spGet zeroW m.regs o
def Mailbox.setReg (m : Mailbox) (o : Nat) (v : W32) : Mailbox := { m with regs := spSet zeroW m.regs o v }

/-- MOD_STICKY and its companions (R581), as a port reads them. -/
def State.modSticky (s : State) (port : Nat) : Nat :=
  maskOf ((s.stickies.map fun a => match blockOf a with
    | 1 => 0 | 2 => 1 | 4 => 2 | 5 => 3 | 6 => 4 | 7 => 5 | 8 => 6 | 9 => 7 | 10 => 8 | _ => 9) ++
    (if (s.mail port).reg 0x10 != 0#32 then [10] else []))
def State.stickyRegions (s : State) : Nat :=
  maskOf (s.stickies.filterMap fun a =>
    if inWin 0x800000 0x40000 a then some ((a - 0x800000) / 0x1000)
    else if 0x1000000 ≤ a then some ((a - 0x1000000) / 0x100 / 143) else none)
def State.stickyCtxs (s : State) : Nat :=
  maskOf (s.stickies.filterMap fun a => if inWin 0x100000 0x100000 a then none else s.winCtx a)

/-- CORE_CYCLE of a physical core (R560); the cycle within the epoch is a free value (assumption 2). In RETAIN and OFF it
reads 0. -/
def State.coreCycle (s : State) (k : Nat) : Nat × State :=
  if s.powerOf (regionOfPhys k) ≥ 2 then (0, s) else
  let (n, s) := s.free
  ((s.epoch * 256 + n % 256) % 2 ^ 56, s)

/-- REGION_INFO (R580). -/
def State.regionInfo (s : State) (r : Nat) : Nat :=
  let (row, col) := gridOf r
  let own := match (s.region r).owner with
    | some c => (c <<< 8) + 2 ^ 14
    | none => 0
  row + (col <<< 3) + bitN (entryRegions.contains r) 7 + own
    + bitN (s.foreman.active && s.regFld HEALTH_FOREMAN 0 6 == r) 15 + bitN (s.foreman.standbys.contains r) 16

/-- The value of a register as the hardware shows it, without side effects but the free values it takes. -/
def State.liveReg (s : State) (port a : Nat) : W32 × State :=
  let v := s.reg a
  let ro (n : Nat) : W32 × State := (w32 (n % 2 ^ 32), s)
  if a = ID_VARIANT then ro (match s.variant with | .s48c16 => 0x1030 | .s24c16 => 0x1018 | .s24c8 => 0x818)
  else if a = ID_STEPPING then (s.stepping, s)
  else if a = MOD_STATUS then ro (setFld v 6 7 s.contexts.length).toNat
  else if a = MOD_STICKY then ro (s.modSticky port)
  else if a = MOD_STICKY_REGION_LO then ro s.stickyRegions
  else if a = MOD_STICKY_REGION_HI then ro (s.stickyRegions >>> 32)
  else if a = MOD_STICKY_CTX_LO then ro s.stickyCtxs
  else if a = MOD_STICKY_CTX_HI then ro (s.stickyCtxs >>> 32)
  else if a = MOD_EPOCH_LO then ro s.epoch
  else if a = MOD_EPOCH_HI then ro (s.epoch >>> 32)
  else if a = MOD_HELD_LO then ro s.fabric.heldN
  else if a = MOD_HELD_HI then ro (s.fabric.heldN >>> 32)
  else if inWin 0x20000 0x10000 a then
    let c := (a - 0x20000) / 0x400
    match (a - 0x20000) % 0x400 with
    | 0x4 => ro (setFld v 16 7 (s.ctxRegions c).length).toNat
    | 0x8 => ro (maskOf (s.ctxRegions c))
    | 0xC => ro (maskOf (s.ctxRegions c) >>> 32)
    | 0x14 => ro (s.ringUse c)
    | 0x108 => ro (s.useCellar c)
    | 0x10C => ro (s.useStock c)
    | _ => (v, s)
  else if inWin 0x100000 0x100000 a ∧ (a - 0x100000) % 64 = 0x1C then
    ro (setFld v 16 16 (s.outstanding ((a - 0x100000) / 64))).toNat
  else if a = QUOTA_CELLAR_TOTAL then ro s.cellarTotal
  else if a = QUOTA_STOCK_TOTAL then ro s.stockTotal
  else if a = QUOTA_CELLAR_GRANTED then ro s.cellarGranted
  else if a = QUOTA_STOCK_GRANTED then ro s.stockGranted
  else if a = QUOTA_STOCK_RETIRED then ro s.stockRetiredN
  else if inWin 0x300000 0x4000 a then
    let c := (a - 0x300000) / 0x100
    match (a - 0x300000) % 0x100 with
    | 0xC => ro (s.ctx c).starve
    | 0x10 => ro ((s.ctx c).starve >>> 32)
    | _ => (v, s)
  else if a = HEALTH_DARK_LO then ro (maskOf ((List.range 32).filter s.isDark))
  else if a = HEALTH_DARK_HI then ro (maskOf ((List.range 32).filter fun r => s.isDark (r + 32)))
  else if inWin 0x401000 0x1000 a ∧ (a - 0x401000) % 0x40 = 0x20 then
    ro (setFld v 16 7 (s.darkOf ((a - 0x401000) / 0x40)).length).toNat
  else if a = POWER_EFF_CAP then ro s.effCap
  else if a = CARAVAN_ROUTE_DATA then ro (s.route (s.regFld CARAVAN_ROUTE_INDEX 0 17)).toNat
  else if inWin 0x601000 0x2000 a ∧ (a - 0x601000) % 0x80 = 0x30 then
    let c := (a - 0x601000) / 0x80
    ro (if s.ctxState c = 0 then 0 else (s.commitSet c).length)
  else if inWin 0x800000 0x40000 a then
    let r := (a - 0x800000) / 0x1000
    match (a - 0x800000) % 0x1000 with
    | 0x0 => ro (s.regionInfo r)
    | 0x100 => ro (setBit v 16 ((s.region r).dark == some .notServiceable)).toNat
    | _ => (v, s)
  else if 0x1000000 ≤ a then
    let k := (a - 0x1000000) / 0x100
    match (a - 0x1000000) % 0x100 with
    | 0x0 => let (n, s) := s.coreCycle k; (w32 (n % 2 ^ 32), s)
    | 0x4 => let (n, s) := s.coreCycle k; (w32 (n >>> 32), s)
    | _ => (v, s)
  else (v, s)

/-- The register whose value a read of `a` latches (R564, R584). -/
def State.latchOf (s : State) (a : Nat) : Option Nat :=
  if a = MOD_EPOCH_LO ∨ a = MOD_HELD_LO then some (a + 4)
  else if inWin 0x300000 0x4000 a ∧ (a - 0x300000) % 0x100 = 0xC then some (a + 4)
  else if 0x1000000 ≤ a then
    let k := (a - 0x1000000) / 0x100
    let o := (a - 0x1000000) % 0x100
    if o = 0 then some (a + 4)
    else if 0x10 ≤ o ∧ o < 0x2C ∧ s.regBit (CORE_PMC_CFG k ((o - 0x10) / 4)) 9 = true then some (a + 4) else none
  else none

/-- BAR0 reads return reset values: from the start until READY (R531), but not while a POWER_OFF is in effect or the module
has failed (assumption 18). QUOTA_WIPE_STATUS shows the wipes that run (R305). -/
def State.early (s : State) : Bool := !s.ready && s.modState != 4 && !s.power.failed

/-- A read of one word of BAR0 by a port. -/
def State.readReg (s : State) (port a : Nat) : W32 × State :=
  let latch := spGet (fun _ => none) s.latches port
  let s := { s with latches := spSet (fun _ => none) s.latches port none }
  match regRow a with
  | none => (0#32, s.orReg MOD_HOST_FLAGS 4)
  | some row =>
    if !s.hostOpen && !(a < 0x10 || (a == MOD_LIFECYCLE && s.bringup != 5)) then (0#32, s)
    else if s.foreign port a then (0#32, s.orReg MOD_HOST_FLAGS 2)
    else if row.acc = .wo then (0#32, s)
    else if s.early && decide (0x10 ≤ a) && a != QUOTA_WIPE_STATUS then (regReset a, s)
    -- a port that the variant does not fit is an idle, unlinked one (R7)
    else if inWin 0x600100 0x400 a ∧ s.ports ≤ (a - 0x600100) / 0x40 then (regReset a, s)
    else
      let (v, s1) := match latch with
        | some (b, w) => if b = a then (w, s) else s.liveReg port a
        | none => s.liveReg port a
      match s1.latchOf a with
      | none => (v, s1)
      | some b =>
        let (w, s2) := s1.liveReg port b
        (v, { s2 with latches := spSet (fun _ => none) s2.latches port (some (b, w)) })

/-- A BAR0 read (R439): one aligned word, or two in ascending order. -/
def State.readBar0 (s : State) (p : HostPort) (a size : Nat) : State :=
  if size = 4 ∧ a % 4 = 0 then
    let (v, s) := s.readReg (portNo p) a
    s.emit (.readData p (leBytes 4 v.toNat))
  else if size = 8 ∧ a % 8 = 0 then
    let (v, s) := s.readReg (portNo p) a
    let (w, s) := s.readReg (portNo p) (a + 4)
    s.emit (.readData p (leBytes 4 v.toNat ++ leBytes 4 w.toNat))
  else
    let s := { s with latches := spSet (fun _ => none) s.latches (portNo p) none }
    (s.orReg MOD_HOST_FLAGS 4).emit (.readData p (List.replicate size 0#8))

/-! BAR4. -/

/-- The mailbox is BUSY. -/
def Mailbox.busy (m : Mailbox) : Bool := fld (m.reg 4) 0 2 == 1

/-- A BAR4 access that breaks R591. -/
def State.badBar4 (s : State) (p : Nat) : State :=
  let m := s.mail p
  (s.setMail p (m.setReg 0x10 (m.reg 0x10 ||| 4#32))).orReg MOD_HOST_FLAGS 4

/-- One word of BAR4, and whether it lies in a hole (R590). -/
def State.bar4Word (s : State) (p a : Nat) : Nat × Bool :=
  let m := s.mail p
  if a < 0x1000 then
    (if a = 0 then (0, false) else if a ∈ ([4, 8, 0xC, 0x10] : List Nat) then ((m.reg a).toNat, false) else (0, true))
  else if a < 0x11000 then (m.req.readNat (a - 0x1000) 4, false)
  else if a < 0x21000 then (if m.busy then 0 else m.resp.readNat (a - 0x11000) 4, false)
  else if inWin 0x100000 0x10 a then
    (if s.ready then nfld s.snap.header.toNat (8 * (a - 0x100000)) 32 else 0, false)
  else if inWin 0x101000 0x8F000 a then
    let n := (a - 0x101000) / 64
    (if s.ready then nfld (spGet (fun _ => (0#512 : W512)) s.snap.records n).toNat (8 * ((a - 0x101000) % 64)) 32 else 0, false)
  else (0, true)

/-- A BAR4 read (R591). -/
def State.readBar4 (s : State) (p : HostPort) (a size : Nat) : State :=
  if !s.hostOpen then s.emit (.readData p (List.replicate size 0#8))
  else if a % 4 = 0 ∧ size % 4 = 0 ∧ 4 ≤ size ∧ size ≤ 4096 then
    let ws := (List.range (size / 4)).map fun i => s.bar4Word (portNo p) (a + 4 * i)
    let s := if ws.any (·.2) then s.badBar4 (portNo p) else s
    s.emit (.readData p (ws.flatMap fun w => leBytes 4 w.1))
  else (s.badBar4 (portNo p)).emit (.readData p (List.replicate size 0#8))

/-- LATCHED_LOW_READ (R564, R584, R591): a read of BAR0, or with `bar4` of BAR4, by a port. -/
def execLatchedLowRead (p : HostPort) (bar4 : Bool) (addr : BitVec 26) (size : Nat) (s : State) : Out :=
  .next (if bar4 then s.readBar4 p addr.toNat size else s.readBar0 p addr.toNat size)

/-- HOST_LINK_UP (R606). -/
def execHostLinkUp (p : HostPort) (s : State) : Out :=
  .next (if s.regFld POWER_STATUS 0 3 = 3 then s.setRegFld MOD_STATUS (3 + portNo p) 1 1 else s)

/-- PORT_LOSS (R441, R606): the port's contexts are torn down with no completion; the others are told. -/
def execPortLoss (p : HostPort) (kind : PortLossKind) (s : State) : Out :=
  let n := portNo p
  let mine := s.existing.filter fun c => s.ctxPort c == n
  let s := if kind = .functionReset then s else s.setRegFld MOD_STATUS (3 + n) 1 0
  let s := mine.foldl (fun s c => s.teardown c true none) s
  let s := { s.orReg MOD_HOST_FLAGS 0x20 with latches := spSet (fun _ => none) s.latches n none }
  .next ((s.existing.filter fun c => !mine.contains c).foldl (fun s c =>
    s.postEvent c 0x4 (w32 n) (w32 mine.length) 0#32) s)

/-! The mailboxes (R592, R593). -/

/-- The mailbox enters DONE and signals when IEN is set. -/
def State.mailDone (s : State) (p : HostPort) (result : Nat) (resp : List Byte) : State :=
  let m := s.mail (portNo p)
  let m := (m.setReg 4 (setFld (setFld (m.reg 4) 0 2 2) 4 4 result)).setReg 8 (w32 resp.length)
  let m : Mailbox := { m with resp := Mem.write [] 0 resp, work := none }
  let s := s.setMail (portNo p) m
  if bitAt (m.reg 0xC) 11 then s.emit (.msix p (fld (m.reg 0xC) 0 11)) else s

/-- A write of MBX_DOORBELL. -/
def State.mailBell (s : State) (p : HostPort) (v : W32) : State :=
  let m := s.mail (portNo p)
  if m.busy then s.setMail (portNo p) (m.setReg 0x10 (m.reg 0x10 ||| 1#32)) else
  let len := fld v 0 17
  let m := m.setReg 4 (w32 (1 + (fld v 24 8 <<< 24)))
  let good := fld v 17 3 = 0 ∧ (fld v 20 4 = 1 ∨ fld v 20 4 = 2) ∧ 1 ≤ len ∧ len ≤ 65536
  if good then s.setMail (portNo p) { m with work := some (m.req.read 0 len), resp := [] }
  else (s.setMail (portNo p) m).mailDone p 2 []

/-- MBX_DOORBELL. -/
def execMbxDoorbell (p : HostPort) (val : W32) (s : State) : Out :=
  .next (if s.hostOpen then s.mailBell p val else s)

/-- MAILBOX_REPLY: the steward's reply to the request in hand. -/
def execMailboxReply (p : HostPort) (result : BitVec 4) (resp : List Byte) (s : State) : Out :=
  .next (if (s.mail (portNo p)).busy then s.mailDone p result.toNat (resp.take 65536) else s)

/-- MAILBOX_TIMEOUT: no reply within 10 s. -/
def execMailboxTimeout (p : HostPort) (s : State) : Out :=
  .next (if (s.mail (portNo p)).busy then s.mailDone p 3 [] else s)

/-- A write of BAR4 (R591). -/
def State.writeBar4 (s : State) (p : HostPort) (a size v : Nat) : State :=
  let n := portNo p
  if !s.hostOpen then s
  else if !((size == 4 && a % 4 == 0) || (size == 8 && a % 8 == 0)) then s.badBar4 n
  else if inWin 0x1000 0x10000 a then
    let m := s.mail n
    if m.busy then s.setMail n (m.setReg 0x10 (m.reg 0x10 ||| 2#32))
    else s.setMail n { m with req := m.req.writeNat (a - 0x1000) size v }
  else if a < 0x1000 then
    (List.range (size / 4)).foldl (fun s i =>
      let w := w32 (nfld v (32 * i) 32)
      let m := s.mail n
      match a + 4 * i with
      | 0x0 => s.mailBell p w
      | 0xC => s.setMail n (m.setReg 0xC (w &&& 0xFFF#32))
      | 0x10 => s.setMail n (m.setReg 0x10 (m.reg 0x10 &&& ~~~w))
      | _ => s.badBar4 n) s
  else s.badBar4 n

end Sys2Proof.Machine
end

