-- ==== Sys2Proof/Machine/HostWrite.lean ====
section
/-! DEFINITION. Writing the registers (R13 to R17, R439, R440, R470, R531, R582 to R589): set-up locks and their marks,
staging, quotas, enabling contexts (R442) and rings (R446 to R449), and the writes that act. -/

namespace Sys2Proof.Machine

/-! Contexts and rings. -/

/-- The lifecycle state lets contexts be enabled (R550). -/
def State.mayEnable (s : State) : Bool := s.regFld MOD_LIFECYCLE 0 3 == 1 || s.regFld MOD_LIFECYCLE 0 3 == 2

/-- ENABLE written 1 to a context by a port (R442). -/
def State.enableCtx (s : State) (port c : Nat) : State :=
  if s.ctxState c = 0 ∧ s.ready = true ∧ s.mayEnable = true then
    ((s.setRegFld (CTX_STATUS c) 0 2 1).setRegFld (CTX_STATUS c) 2 1 port).setRegFld (CTX_CONTROL c) 0 1 1
  else s

def State.draining (s : State) (n : Nat) : Bool := s.regBit (RING_STATUS n) 1
/-- RING_REFUSED of the ring's context. -/
def State.ringRefused (s : State) (n : Nat) : State := s.orReg (CTX_HOST_FLAGS (s.ringCtx n)) 8
/-- KIND, SIZE and PAIR of RING_CONFIG. -/
def State.ringKind (s : State) (n : Nat) : Nat := s.regFld (RING_CONFIG n) 0 2
def State.ringSize (s : State) (n : Nat) : Nat := s.regFld (RING_CONFIG n) 2 5
def State.ringPair (s : State) (n : Nat) : Nat := s.regFld (RING_CONFIG n) 16 14
def State.ringDepth (s : State) (n : Nat) : Nat := 2 ^ s.ringSize n
def State.ringOn (s : State) (n : Nat) : Bool := (s.ring n).on

/-- A ring becomes enabled: indices 0, write phase 1 (R448). -/
def State.startRing (s : State) (n : Nat) : State :=
  let s := { s with rings := spSet (fun _ => Ring.reset) s.rings n { Ring.reset with on := true } }
  let s := (s.setReg (RING_PROD n) 0#32).setReg (RING_CONS n) 0#32
  (s.setReg (RING_STATUS n) 9#32).setReg (RING_ENABLE n) 1#32

/-- A ring becomes disabled: its indices return to 0 (R449). -/
def State.stopRing (s : State) (n : Nat) : State :=
  let s := { s with rings := spSet (fun _ => Ring.reset) s.rings n Ring.reset }
  let s := (s.setReg (RING_PROD n) 0#32).setReg (RING_CONS n) 0#32
  (s.setReg (RING_STATUS n) 0#32).setReg (RING_ENABLE n) 0#32

/-- RING_ENABLE written 1 (R447). -/
def State.enableRing (s : State) (port : Option Nat) (n : Nat) : State :=
  let c := s.ringCtx n
  if s.draining n then s.ringRefused n
  else if s.ringOn n then s
  else
    let kind := s.ringKind n
    let good := kind ≠ 0 ∧ 4 ≤ s.ringSize n ∧ s.ringSize n ≤ 16 ∧ s.ctxOn c = true ∧ some (s.ctxPort c) = port ∧
      s.ringUse c < s.regFld (CTX_QUOTA_RINGS c) 0 15 ∧
      (kind = 1 → s.ringOn (s.ringPair n) = true ∧ s.ringKind (s.ringPair n) = 2 ∧ s.ringCtx (s.ringPair n) = c)
    if good then s.startRing n else s.ringRefused n

/-- RING_ENABLE written 0 (R449). -/
def State.disableRing (s : State) (n : Nat) : State :=
  if !s.ringOn n then s else
  match s.ringKind n with
  | 1 => (s.setRegFld (RING_STATUS n) 1 1 1).setReg (RING_ENABLE n) 0#32
  | 2 =>
    if s.rings.any fun e => e.2.on && s.ringKind e.1 == 1 && s.ringPair e.1 == n then s.ringRefused n else s.stopRing n
  | _ => s.stopRing n

/-- Every descriptor taken from a draining ring has completed and been written: the ring is disabled (R449). -/
def State.drained (s : State) (n : Nat) : Bool :=
  s.ringOn n && s.draining n && !(s.ctx (s.ringCtx n)).taken.any fun d => d.ring == n

/-! Locks and staging. -/

/-- An SU register is locked (R15, R468, R503, R589). -/
def State.suLocked (s : State) (a : Nat) : Bool :=
  if inWin 0x20000 0x10000 a then s.ctxBusy ((a - 0x20000) / 0x400)
  else if inWin 0x100000 0x100000 a then s.ringOn ((a - 0x100000) / 64)
  else if inWin 0x200000 0x100000 a then !s.existing.isEmpty
  else if inWin 0x600000 0x100 a then (List.range 16).any fun p => s.portState p != 0
  else match s.winCtx a with
    | some c => s.inStep c
    | none => false

/-- The LOCKED_WRITE bit of an SU register (R589). -/
def State.lockMark (s : State) (a : Nat) : State :=
  let c := (s.winCtx a).getD 0
  if inWin 0x20000 0x10000 a then
    (if inWin 0x100 8 ((a - 0x20000) % 0x400) then s.orReg (CTX_MEM_STATUS c) 0x80 else s.orReg (CTX_HOST_FLAGS c) 0x10)
  else if inWin 0x100000 0x100000 a then s.orReg (CTX_HOST_FLAGS (s.ringCtx ((a - 0x100000) / 64))) 0x10
  else if inWin 0x200000 0x100000 a then s.orReg QUOTA_MEM_STATUS 0x10
  else if inWin 0x300000 0x100000 a then (s.orReg (STREAM_LEDGER_FLAGS c) 0x80).orReg (STREAM_FLAGS c) 0x20
  else if inWin 0x600000 0x100000 a then s.orReg CARAVAN_FLAGS 0x20
  else s.orReg (PERF_CTX_FLAGS c) 8

/-- An SU write to an active block is dropped (R589): its marks, and the event or the steward's log. -/
def State.lockedWrite (s : State) (m : Master) (a : Nat) : State :=
  let s := s.lockMark a
  let s := if s.contexts.isEmpty then s else s.orReg MOD_HOST_FLAGS 0x40
  match masterPort m with
  | none => s.emit (.log 0x0005)
  | some p => match s.winCtx a with
    | some c => s.postEvent c 0x5 (w32 a) 0#32 0#32
    | none => (s.contexts.filter fun c => s.ctxPort c == p).foldl (fun s c => s.postEvent c 0x5 (w32 a) 0#32 0#32) s

/-- Write an AP register: at once, or staged behind the value in effect, a later write replacing an earlier (R17). -/
def State.writeAp (s : State) (a : Nat) (v : W32) : State :=
  if s.apActive a then
    let old := spGet (fun _ => none) s.staged a
    let s' := match old with
      | some _ => s
      | none => { s with staged := spSet (fun _ => none) s.staged a (some (s.reg a)) }
    s'.setReg a v
  else { s with staged := spDrop (· == a) s.staged }.setReg a v

/-! Writes that act, or that a quota may drop. -/

/-- PERF_CONTROL (R566): FREEZE is stored and takes effect at the next wall epoch; SNAPSHOT asks for a copy. -/
def State.writePerf (s : State) (freeze snapshot : Bool) : State :=
  let s := s.setReg PERF_CONTROL (if freeze then 1#32 else 0#32)
  if snapshot && !s.regBit PERF_STATUS 1 then
    { s.setRegFld PERF_STATUS 1 1 1 with
      snap := { s.snap with asked := true, header := s.snap.header &&& ~~~(0x10000000000000000#128) } }
  else s

/-- A context quota, or a share, whose sum over all contexts would pass a limit is dropped (R297, R446, R487). -/
def sumOver (f : Nat → Nat) (c v : Nat) : Nat := (List.range 64).foldl (fun t i => t + if i = c then v else f i) 0

/-- CARAVAN_PORT_CONTROL (R498, R587): MAXW and PFC are SU fields; ENABLE and RETRAIN act. -/
def State.writePort (s : State) (m : Master) (p : Nat) (v : W32) : State :=
  let cur := s.reg (CARAVAN_PORT_CONTROL p)
  let s := if s.portState p = 0 then
      (s.setRegFld (CARAVAN_PORT_CONTROL p) 4 4 (fld v 4 4)).setRegFld (CARAVAN_PORT_CONTROL p) 8 1 (fld v 8 1)
    else if fld v 4 4 ≠ fld cur 4 4 ∨ fld v 8 1 ≠ fld cur 8 1 then s.lockedWrite m (CARAVAN_PORT_CONTROL p) else s
  let s := if fld v 0 1 = fld cur 0 1 then s else if bitAt v 0 then s.enablePort p else s.disablePort p
  if bitAt v 9 then s.retrainPort p else s

/-- A write that has passed every check of access, to a register with behaviour of its own; none: it has none. -/
def State.actWrite (s : State) (m : Master) (a : Nat) (v : W32) : Option State :=
  if a = MOD_CONTROL then
    some (match fld v 0 3 with
      | 0 => s.modWrite m .run [] | 1 => s.modWrite m .pause [] | 2 => s.modWrite m .halt []
      | 3 => s.modWrite m .reset [] | 4 => s.modWrite m .powerOff [] | _ => s)
  else if inWin 0x20000 0x10000 a then
    let c := (a - 0x20000) / 0x400
    match (a - 0x20000) % 0x400 with
    | 0x0 =>
      let s := s.setRegFld (CTX_CONTROL c) 1 1 (fld v 1 1)
      some (match masterPort m with
        | some p => if bitAt v 0 then s.enableCtx p c else s
        | none => s)
    | 0x10 =>
      some (if sumOver (fun i => s.regFld (CTX_QUOTA_RINGS i) 0 15) c (fld v 0 15) > 16384 then s.orReg MOD_HOST_FLAGS 8
        else s.setReg a (w32 (fld v 0 15)))
    | 0x24 => some (if v = 1#32 ∧ s.ctxState c = 1 then s.teardown c false none else s)
    | 0x100 =>
      some (if fld v 0 28 > 2618880 * (s.ctxRegions c).length then s.orReg QUOTA_MEM_STATUS 1
        else s.setReg a (w32 (fld v 0 28)))
    | 0x104 =>
      some (if sumOver (fun i => s.regFld (CTX_QUOTA_STOCK i) 0 28) c (fld v 0 28) > s.stockTotal then
          s.orReg QUOTA_MEM_STATUS 1
        else (s.setReg a (w32 (fld v 0 28))).refillSpares)
    | _ => none
  else if inWin 0x100000 0x100000 a ∧ (a - 0x100000) % 64 = 0x10 then
    let n := (a - 0x100000) / 64
    some (if bitAt v 0 then s.enableRing (masterPort m) n else s.disableRing n)
  else if a = QUOTA_STOCK_SPARE then
    let s := s.setReg a v
    let size := clampNat 16384 1048576 v.toNat
    some ({ s with spares := min s.spares size }.refillSpares.checkSpares)
  else if inWin 0x600100 0x400 a ∧ (a - 0x600100) % 0x40 = 0 then some (s.writePort m ((a - 0x600100) / 0x40) v)
  else if inWin 0x601000 0x2000 a ∧ (a - 0x601000) % 0x80 = 4 then
    let c := (a - 0x601000) / 0x80
    some (if sumOver (fun i => s.regFld (CARAVAN_CTX_SHARE i) 0 7) c (fld v 0 7) > 64 then s.orReg CARAVAN_FLAGS 1
      else s.setReg a (w32 (fld v 0 7)))
  else if a = CARAVAN_ROUTE_DATA then
    some (s.modCaravan fun x => { x with
      routes := spSet (fun _ => 0#16) x.routes (s.regFld CARAVAN_ROUTE_INDEX 0 17) (BitVec.ofNat 16 v.toNat) })
  else if a = CARAVAN_MODULE_ID then
    let s := s.setReg a (v &&& 0x8001FFFF#32)
    some ((List.range 16).foldl (fun s p => s.tryTrain p) s)
  else if a = PERF_CONTROL then some (s.writePerf (bitAt v 0) (bitAt v 1))
  else if 0x1000000 ≤ a ∧ 0x30 ≤ (a - 0x1000000) % 0x100 then
    let k := (a - 0x1000000) / 0x100
    let n := ((a - 0x1000000) % 0x100 - 0x30) / 4
    let v := if n = 7 then v &&& 0x1FF#32 else v &&& 0x3FF#32
    some (if fld v 0 8 ≥ 0x1B then (s.setReg a (v &&& 0x300#32)).orReg (CORE_PERF_STATUS k) 0x100 else s.setReg a v)
  else none

/-- The bits of a write reach a register without behaviour of its own (R13, R14). -/
def State.plainWrite (s : State) (row : RegRow) (a : Nat) (v : W32) : State :=
  let mask : W32 := w32 row.mask
  match row.acc with
  | .ro => s
  | .wo => s
  | .w1c => s.setReg a (s.reg a &&& ~~~(v &&& mask))
  | .rw =>
    let new := (s.reg a &&& ~~~mask) ||| (v &&& mask)
    if row.cls = .ap then s.writeAp a new else s.setReg a new

/-- A write of one word of BAR0 (R439, R440, R470, R531, R535, R7, R589). -/
def State.writeReg (s : State) (m : Master) (a : Nat) (v : W32) (beaten : List Master) : State :=
  let s := match masterPort m with
    | some p => { s with latches := spSet (fun _ => none) s.latches p none }
    | none => s
  match regRow a with
  | none => if m = .steward ∨ s.hostOpen = true then s.orReg MOD_HOST_FLAGS 4 else s
  | some row =>
    let port := masterPort m
    if port.isSome && !s.hostOpen then s
    else if port.any (fun p => s.foreign p a) then s.orReg MOD_HOST_FLAGS 2
    else if !s.ready && port.isSome && a != MOD_CONTROL && a != MOD_BRINGUP_CONTROL then s.orReg MOD_MGMT_FLAGS 1
    else if inWin 0x600100 0x400 a ∧ s.ports ≤ (a - 0x600100) / 0x40 then s
    else
      let s := if row.acc = .w1c then s else
        beaten.foldl (fun s o => s.conflict 0 0 (srcNo o) (srcNo m) (blockOf a)) s
      if row.cls = .su && s.suLocked a then s.lockedWrite m a
      else match s.actWrite m a v with
        | some s => s
        | none => s.plainWrite row a v

/-- The order of R470 puts `o` before `m`. -/
def beforeMaster (o m : Master) : Bool :=
  match o, m with
  | .steward, .h0 => true
  | .steward, .h1 => true
  | .h0, .h1 => true
  | _, _ => false

/-- A BAR0 write (R439): one aligned word, or two in ascending order. -/
def State.writeBar0 (s : State) (m : Master) (a size v : Nat) (beaten : List Master) : State :=
  if size = 4 ∧ a % 4 = 0 then s.writeReg m a (w32 (v % 2 ^ 32)) beaten
  else if size = 8 ∧ a % 8 = 0 then
    (s.writeReg m a (w32 (v % 2 ^ 32)) beaten).writeReg m (a + 4) (w32 (v >>> 32)) beaten
  else
    let s := match masterPort m with
      | some p => { s with latches := spSet (fun _ => none) s.latches p none }
      | none => s
    if m = .steward ∨ s.hostOpen = true then s.orReg MOD_HOST_FLAGS 4 else s

def masterHost : Master → Option HostPort
  | .h0 => some .h0
  | .h1 => some .h1
  | .steward => none

/-- REGISTER_WRITE (R15, R439, R470, R589, R591). -/
def execRegisterWrite (m : Master) (bar4 : Bool) (addr : BitVec 26) (size : Nat) (val : W64) (beaten : List Master) (s : State) :
    Out :=
  if bar4 then .next (match masterHost m with
    | some p => s.writeBar4 p addr.toNat size val.toNat
    | none => s)
  else if beaten.all (fun o => beforeMaster o m) then .next (s.writeBar0 m addr.toNat size val.toNat beaten)
  else .next s

def portMaster : HostPort → Master
  | .h0 => .h0
  | .h1 => .h1

/-- CTX_ENABLE (R442): H0's write takes effect when both ports write in one cycle, and H1's is recorded. -/
def execCtxEnable (p : HostPort) (ctx : Fin 64) (val : W32) (both : Bool) (s : State) : Out :=
  let v := val ||| 1#32
  let a := CTX_CONTROL ctx
  if both && s.ctxState ctx == 0 && s.ready && s.hostOpen then
    .next ((s.writeReg .h0 a v []).conflict 0 0 1 0 2)
  else .next (s.writeReg (portMaster p) a v [])

/-- CTX_ABORT (R445, R472): only the value 1 tears down. -/
def execCtxAbort (p : HostPort) (ctx : Fin 64) (val : W32) (s : State) : Out :=
  .next (s.writeReg (portMaster p) (CTX_ABORT ctx) val [])

/-- RING_ENABLE (R447). -/
def execRingEnable (p : HostPort) (ring : Fin 16384) (s : State) : Out :=
  .next (s.writeReg (portMaster p) (RING_ENABLE ring) 1#32 [])

/-- RING_DRAIN (R449). -/
def execRingDrain (p : HostPort) (ring : Fin 16384) (s : State) : Out :=
  .next (s.writeReg (portMaster p) (RING_ENABLE ring) 0#32 [])

/-- RING_DRAIN_COMPLETE (R449). -/
def execRingDrainComplete (ring : Fin 16384) (s : State) : Out :=
  .next (if s.drained ring then s.stopRing ring else s)

/-- FREEZE (R566). -/
def execFreeze (m : Master) (on : Bool) (s : State) : Out :=
  .next (s.writeReg m PERF_CONTROL (if on then 1#32 else 0#32) [])

/-- SNAPSHOT (R566). -/
def execSnapshot (m : Master) (on : Bool) (s : State) : Out :=
  .next (s.writeReg m PERF_CONTROL (if on then 3#32 else 2#32) [])

/-- SNAPSHOT_COMPLETE (R594): the records of the copy made at the wall epoch boundary are in place. -/
def execSnapshotComplete (s : State) : Out :=
  if !s.regBit PERF_STATUS 1 || s.snap.asked then .next s else
  let n := (s.regFld PERF_STATUS 16 16 + 1) % 65536
  let s := (s.setRegFld PERF_STATUS 1 1 0).setRegFld PERF_STATUS 16 16 n
  let h := s.snap.epoch % 2 ^ 48 + (n <<< 48) + (1 <<< 64) + (9152 <<< 65)
  .next { s with snap := { s.snap with header := BitVec.ofNat 128 h, records := s.snap.taken, taken := [] } }

end Sys2Proof.Machine
end

