-- ==== Sys2Proof/Machine/HostRings.lean ====
section
/-! DEFINITION. Rings at work: doorbells (R450 to R452), taking descriptors (R434, R453, R454), the order in which they
start (R20, R433, R435), completions (R462, R463), events (R429, R465 to R467) and interrupts (R464). -/

namespace Sys2Proof.Machine

def State.prod (s : State) (n : Nat) : Nat := s.regFld (RING_PROD n) 0 16
def State.cons (s : State) (n : Nat) : Nat := s.regFld (RING_CONS n) 0 16
/-- A ring's base in host memory (R447). -/
def State.ringBase (s : State) (n : Nat) : Nat := s.regFld (RING_BASE_LO n) 12 20 * 4096 + (s.reg (RING_BASE_HI n)).toNat * 2 ^ 32
/-- Distance from `a` forward to `b` in a ring. -/
def ringDist (d a b : Nat) : Nat := (b + d - a % d) % d
/-- A completion or event ring has no room (R463). -/
def State.ringFull (s : State) (n : Nat) : Bool := (s.prod n + 1) % s.ringDepth n == s.cons n
def State.showFull (s : State) (n : Nat) : State := s.setRegFld (RING_STATUS n) 2 1 (if s.ringFull n then 1 else 0)

/-! Doorbells. -/

/-- Why a doorbell is dropped, in the order of R452's list from 0. -/
def State.bellCause (s : State) (p : HostPort) (addr size : Nat) (v : W64) : Option Nat :=
  let c := addr / 0x100000
  let n := addr % 0x100000 / 64
  let idx := fld v 0 16
  let d := s.ringDepth n
  if !(s.ringOn n && s.ringCtx n == c) then some 0
  else if s.ctxPort c ≠ portNo p then some 1
  else if size ≠ 8 ∨ addr % 64 ≠ 0 then some 5
  else if fld v 16 14 ≠ n then some 2
  else if d ≤ idx then some 3
  else if fld v 30 33 ≠ 0 then some 4
  else if s.ringKind n = 1 then
    (if ringDist d (s.cons n) idx < ringDist d (s.cons n) (s.prod n) then some 6 else none)
  else if ringDist d (s.cons n) idx > ringDist d (s.cons n) (s.prod n) then some 7 else none

/-- DOORBELL (R450 to R452). -/
def execDoorbell (p : HostPort) (addr : BitVec 26) (size : Nat) (val : W64) (s : State) : Out :=
  let c := addr.toNat / 0x100000
  let n := addr.toNat % 0x100000 / 64
  let idx := fld val 0 16
  if !s.hostOpen then .next s else
  match s.bellCause p addr.toNat size val with
  | some cause =>
    let s := ((s.bump (CTX_DOORBELL_DROPS c) 1).bump MOD_DOORBELL_DROPS 1).bump (RING_DROPS n) 1
    let s := (s.orReg (CTX_HOST_FLAGS c) 1).orReg MOD_HOST_FLAGS 0x10
    .next (s.postEvent c 0x1 (w32 (n + (cause <<< 16))) 0#32 0#32)
  | none =>
    if s.ringKind n = 1 then
      let k := ringDist (s.ringDepth n) (s.prod n) idx
      if k = 0 then .next s else
      let b := s.bells
      let s := { s.setReg (RING_PROD n) (w32 idx) with bells := b + 1 }
      .next (s.modRing n fun r => { r with urgent := bitAt val 63, bells := r.bells ++ [(k, b)] })
    else .next ((s.setReg (RING_CONS n) (w32 idx)).showFull n)

/-! Descriptors. -/

def Desc.ordered (d : Desc) : Bool := bitAt d.words 8
def Desc.user (d : Desc) : Nat := fld d.words 32 32
/-- A field of a descriptor's body. -/
def Desc.f (d : Desc) (lo len : Nat) : Nat := fld d.words lo len

/-- The body bits that an opcode's table names, as (low bit, length); none: the opcode is reserved (R453). -/
def bodyFields : Nat → Option (List (Nat × Nat))
  | 1 => some [(64, 2), (128, 48), (192, 64)]
  | 2 => some [(64, 2), (96, 32)]
  | 3 => some [(64, 15), (128, 64), (192, 48), (256, 32)]
  | 4 => some [(64, 5), (128, 64)]
  | 5 => some [(128, 48)]
  | 6 => some []
  | 7 => some []
  | 8 => some [(64, 8), (128, 64), (192, 32), (224, 32)]
  | 9 => some [(64, 8), (128, 64), (192, 64), (256, 64)]
  | _ => none

/-- The bits of a list of fields, as a word. -/
def fieldMask (l : List (Nat × Nat)) : W512 := BitVec.ofNat 512 (l.foldl (fun m e => m ||| ((2 ^ e.2 - 1) <<< e.1)) 0)

/-- A descriptor uses a reserved opcode, field or value (R454). -/
def Desc.reserved (d : Desc) : Bool :=
  match bodyFields d.opc with
  | none => true
  | some l =>
    let named := fieldMask ([(0, 9), (32, 32)] ++ l)
    (d.words &&& ~~~named) != 0#512 ||
    (match d.opc with
      | 3 => d.f 64 2 == 3 || d.f 256 32 == 0
      | 4 => d.f 64 2 == 3 || (d.f 64 2 == 2 && d.f 67 2 == 3)
      | 8 => !(decide (1 ≤ d.f 64 8 ∧ d.f 64 8 ≤ 7)) || d.f 128 5 != 0 || d.f 224 32 == 0
          || (d.f 64 8 == 2 && (d.f 192 32 != 0 || d.f 224 32 != 1))
      | 9 => !(decide (1 ≤ d.f 64 8 ∧ d.f 64 8 ≤ 6))
      | _ => false)

/-- A submission ring from which the foreman may take (R434, R449, R463). -/
def State.canTake (s : State) (n : Nat) : Bool :=
  s.ringOn n && s.ringKind n == 1 && !s.draining n && s.prod n != s.cons n && !s.ringFull (s.ringPair n)

/-- The ring of a context that is served next (R434). -/
def State.nextRing (s : State) (c : Nat) : Option Nat :=
  let rs := (s.rings.map (·.1)).filter fun n => s.ringCtx n == c && s.canTake n
  match rs.find? fun n => (s.ring n).urgent with
  | some n => some n
  | none =>
    let last := (s.ctx c).lastRing
    (rs.find? fun n => decide (last < n)).orElse fun _ => rs.head?

/-- A CANCEL (R461): what it covers is settled when it is taken. -/
def Desc.isCancel (d : Desc) : Bool := d.opc == 9 && d.f 64 8 == 5

/-- Take the descriptor at a ring's consumer index; a CANCEL completes what it takes with `f`. -/
def State.takeFrom (s : State) (c n : Nat) (f : Desc → Desc := id) : State :=
  let i := s.cons n
  let bytes := s.hostRead (s.ctxPort c) ((s.ringBase n + 64 * i) % 2 ^ 64) 64
  let r := s.ring n
  let bell := match r.bells with
    | (_, b) :: _ => b
    | [] => s.bells
  let bells := match r.bells with
    | (k, b) :: t => if k ≤ 1 then t else (k - 1, b) :: t
    | [] => []
  let d : Desc := ⟨s.takes, n, i, BitVec.ofNat 512 (leNat bytes), true, bell, false, none⟩
  let d : Desc := if d.reserved then { d with started := true, result := some ⟨3, 0, 0x01, 0⟩ } else d
  let s := s.setReg (RING_CONS n) (w32 ((i + 1) % s.ringDepth n))
  let s := s.modRing n fun r => { r with bells := bells }
  let marks := if d.isCancel then (s.rings.map (·.1)).map fun q => (d.no, q, s.prod q) else []
  { s with takes := s.takes + 1 }.modCtx c fun x => { x with taken := x.taken ++ [f d], cancels := x.cancels ++ marks }

/-- The context that is served next: the first after the one served last that has a descriptor to take (R434). -/
def State.nextCtx (s : State) : Option Nat :=
  ((List.range 64).map fun i => (s.foreman.turn + 1 + i) % 64).find? fun c => s.ctxOn c && (s.nextRing c).isSome

/-- DESCRIPTOR_TAKE (R434, R453, R454): the next context in round-robin order that has a descriptor to take. With no foreman
the descriptors are still taken, and every STEP completes ENDED (R64). -/
def execDescriptorTake (s : State) : Out :=
  if s.modState ≠ 0 ∨ s.ready = false ∨ ¬ (s.foremanOn = true ∨ s.regBit HEALTH_FOREMAN 6 = true) then .next s else
  match s.nextCtx with
  | none => .next s
  | some c => match s.nextRing c with
    | none => .next s
    | some n =>
      let urgent := (s.ring n).urgent
      let s := s.takeFrom c n
      let s := if urgent then s else s.modCtx c fun x => { x with lastRing := n }
      .next { s with foreman := { s.foreman with turn := c } }

/-- A descriptor of the context that no ring has delivered yet, but whose doorbell was accepted before number `bell`, is a
STEP (R20). -/
def State.earlierStep (s : State) (c bell : Nat) : Bool :=
  ((s.rings.map (·.1)).filter fun n => s.ringCtx n == c && s.ringKind n == 1 && !s.draining n).any fun n =>
    let before := ((s.ring n).bells.filter fun e => decide (e.2 < bell)).foldl (fun t e => t + e.1) 0
    (List.range before).any fun i =>
      s.hostRead (s.ctxPort c) ((s.ringBase n + 64 * ((s.cons n + i) % s.ringDepth n)) % 2 ^ 64) 1 == [1#8]

/-- Whether a taken descriptor may start (R20, R433, R435). -/
def State.mayStart (s : State) (c : Nat) (d : Desc) : Bool :=
  let x := s.ctx c
  let before := x.taken.takeWhile fun e => e.no != d.no
  let mine := before.filter fun e => e.ring == d.ring
  !d.started && d.result.isNone &&
  mine.all (fun e => e.started || e.result.isSome) &&
  (!d.ordered || mine.all fun e => e.result.isSome) &&
  (if d.isFence then before.all fun e => e.result.isSome else before.all fun e => !e.isFence || e.result.isSome) &&
  (d.opc != 1 || (x.step.isNone && !s.earlierStep c d.bell &&
    !x.taken.any fun e => e.opc == 1 && decide (e.bell < d.bell) && !e.started && e.result.isNone))

/-- The descriptor that a ring and an index name: the first taken one that has not completed, of those not started when `fresh`. -/
def State.named (s : State) (c ring index : Nat) (fresh : Bool := false) : Option Desc :=
  ((s.ctx c).taken.find? fun d => d.ring == ring && d.index == index && d.result.isNone && !(fresh && d.started)).bind fun d =>
    s.desc c d.no

/-- The context and descriptor that a descriptor command names, when it has that opcode and may start. -/
def State.ready? (s : State) (ring index opc : Nat) : Option (Nat × Desc) :=
  let c := s.ringCtx ring
  if s.ctxState c = 0 then none else
  match s.named c ring index true with
  | some d => if d.opc == opc && s.mayStart c d then some (c, d) else none
  | none => none

/-! Entries. -/

/-- Write a 32-byte entry at a completion or event ring's producer index; PHASE is put in (R463). -/
def State.putEntry (s : State) (n : Nat) (e : W256) : State :=
  let w := s.prod n
  let d := s.ringDepth n
  let e := setFld e 0 1 (s.regFld (RING_STATUS n) 3 1)
  let s := s.hostWrite (s.ctxPort (s.ringCtx n)) ((s.ringBase n + 32 * w) % 2 ^ 64) (leBytes 32 e.toNat)
  let s := s.setReg (RING_PROD n) (w32 ((w + 1) % d))
  let s := if w + 1 = d then s.setRegFld (RING_STATUS n) 3 1 (1 - s.regFld (RING_STATUS n) 3 1) else s
  (s.modRing n fun r => { r with unsig := r.unsig + 1 }).showFull n

/-- A completion entry (R462). -/
def Desc.entry (d : Desc) (r : DescResult) : W256 :=
  BitVec.ofNat 256 (((r.status % 8) <<< 1) + ((r.code % 16) <<< 4) + ((r.reason % 256) <<< 8) + ((d.ring % 2 ^ 14) <<< 16)
    + ((d.index % 2 ^ 16) <<< 32) + ((if d.readable then d.opc else 0) <<< 48) + ((if d.readable then d.user else 0) <<< 64)
    + ((r.result % 2 ^ 160) <<< 96))

/-- COMPLETION_WRITE (R433, R463): the next entry of a submission ring, once its descriptor has completed and its completion
ring has room. The TEARDOWN completion is the last of its context (R445). -/
def execCompletionWrite (ring : Fin 16384) (s : State) : Out :=
  let n := ring.val
  let c := s.ringCtx n
  let q := s.ringPair n
  match (s.ctx c).taken.find? fun d => d.ring == n with
  | none => .next s
  | some d => match d.result with
    | none => .next s
    | some r =>
      let last := decide ((s.ctx c).tearDesc = some d.no)
      if s.foreman.takeover.isSome || s.foreman.lost.isSome || s.ringFull q || !s.ringOn q
        || (last && decide (1 < (s.ctx c).taken.length)) then .next s else
      let s := s.putEntry q (d.entry r)
      let s := if s.ringFull q then (s.orReg (CTX_HOST_FLAGS c) 2).postEvent c 0x2 (w32 q) 0#32 0#32 else s
      let s := s.modCtx c fun x => { x with taken := match takeFirst (fun e => e.ring == n) x.taken with
        | some (_, t) => t
        | none => x.taken }
      .next (s.tryFree c)

/-- An event entry (R465). -/
def Event.entry (e : Event) (lost : Bool) : W256 :=
  BitVec.ofNat 256 (bitN lost 1 + ((e.code % 2 ^ 16) <<< 16) + (min e.rep 65535 <<< 32) + ((e.epoch % 2 ^ 48) <<< 64)
    + (e.step.toNat <<< 128) + (e.d0.toNat <<< 160) + (e.d1.toNat <<< 192) + (e.d2.toNat <<< 224))

/-- EVENT_WRITE (R465, R467): the oldest waiting event is written, or is lost when no enabled event ring has room for it. -/
def execEventWrite (ctx : Fin 64) (s : State) : Out :=
  let c := ctx.val
  match (s.ctx c).events with
  | [] => .next s
  | e :: rest =>
    let n := s.effFld (CTX_EVENT_RING c) 0 14
    let open_ := bitAt (s.eff (CTX_EVENT_RING c)) 31 && s.ringOn n && s.ringKind n == 3 && s.ringCtx n == c && s.ctxState c != 0
    if open_ && !s.ringFull n then
      let s := s.putEntry n (e.entry (s.ctx c).lost)
      .next (s.modCtx c fun x => { x with events := rest, lost := false })
    else
      let s := (s.bump (CTX_EVENT_LOST c) 1).orReg (CTX_HOST_FLAGS c) 4
      .next (s.modCtx c fun x => { x with events := rest, lost := true })

/-- EVENT_REPEAT_WINDOW_CLOSE (R429): with repeats in the window one entry reports them and opens a new window. -/
def execEventRepeatWindowClose (ctx : Fin 64) (code : BitVec 16) (d0 : W32) (s : State) : Out :=
  .next (s.modCtx ctx fun x =>
    match takeFirst (fun w : EventWin => w.last.code == code.toNat && w.last.d0 == d0) x.windows with
    | none => x
    | some (w, rest) =>
      if w.reps = 0 then { x with windows := rest }
      else { x with events := x.events ++ [{ w.last with rep := min w.reps 65535 }], windows := rest ++ [{ w with reps := 0 }] })

/-- RING_IRQ_SIGNAL (R464): unsignalled entries have reached COUNT, or the oldest of them is TIME old. -/
def execRingIrqSignal (ring : Fin 16384) (timed : Bool) (s : State) : Out :=
  let n := ring.val
  let irq := s.reg (RING_IRQ n)
  let r := s.ring n
  if r.on && s.ringKind n != 1 && bitAt irq 11 && decide (0 < r.unsig) &&
      (timed || decide (max 1 (fld irq 12 8) ≤ r.unsig) || fld irq 20 12 == 0) then
    let p : HostPort := if s.ctxPort (s.ringCtx n) = 0 then .h0 else .h1
    .next ((s.modRing n fun r => { r with unsig := 0 }).emit (.msix p (fld irq 0 11)))
  else .next s

end Sys2Proof.Machine
end

