-- ==== Sys2Proof/Machine/Image.lean ====
section
/-! DEFINITION. The schedule image (R457): reading it from the context's tensor range, and its checks (R86, R107, R318,
R343, R360, R373, R405, R456). -/

namespace Sys2Proof.Machine

/-! The router grid (R43, R45, R46, R70, R74). -/

/-- Logical global row and column of a logical core. -/
def coreRC (l : Nat) : Nat × Nat :=
  let (r, c) := gridOf (l / 120)
  (r * 10 + l % 120 / 12, c * 12 + l % 12)

/-- The logical core at a place of the global grid. -/
def coreAt (row col : Nat) : Option Nat :=
  match regionAt (row / 10) (col / 12) with
  | some r => some (r * 120 + row % 10 * 12 + col % 12)
  | none => none

/-- The place `n` positions away in a direction (N, E, S, W as 0 to 3). -/
def shiftRC (rc : Nat × Nat) (dir n : Nat) : Option (Nat × Nat) :=
  match dir with
  | 0 => if rc.1 < n then none else some (rc.1 - n, rc.2)
  | 1 => some (rc.1, rc.2 + n)
  | 2 => some (rc.1 + n, rc.2)
  | _ => if rc.2 < n then none else some (rc.1, rc.2 - n)

/-- The core at the tap of a region's column router: logical row 0, column 6 (R74). -/
def tapCore (r : Nat) : Nat := r * 120 + 6

/-- The router at the other end of a router's port, with the latency of the link (R69, R73, R74); ports 0 to 3 are N, E, S,
W, ports 4 to 7 XN, XE, XS, XW. None where the link does not exist (R46) or the port is ruled out (R75). -/
def portPartner (router port : Nat) : Option (Nat × Nat) :=
  let far (rc : Nat × Nat) (dir n lat : Nat) : Option (Nat × Nat) :=
    match shiftRC rc dir n with
    | some dest => match coreAt dest.1 dest.2 with
      | some l =>
        let seams := if dir % 2 = 0 then max rc.1 dest.1 / 10 - min rc.1 dest.1 / 10 else max rc.2 dest.2 / 12 - min rc.2 dest.2 / 12
        some (l, lat + seams)
      | none => none
    | none => none
  if router < 7680 then
    (if port < 4 then far (coreRC router) port 1 2 else if port < 8 then far (coreRC router) (port - 4) 8 3 else none)
  else
    let r := router - 7680
    match port with
    | 0 => (neighbour r 0).map fun x => (7680 + x, 5)
    | 2 => (neighbour r 2).map fun x => (7680 + x, 5)
    | 5 => far (coreRC (tapCore r)) 1 8 3
    | 7 => far (coreRC (tapCore r)) 3 8 3
    | _ => none

/-- The region of a router. -/
def routerRegion (router : Nat) : Nat := if router < 7680 then router / 120 else (router - 7680) % 64

/-! Reading. -/

/-- `n` records of `size` bytes each at a tensor address. -/
def State.recs (s : State) (c addr n size : Nat) : List Nat := (List.range n).map fun i => s.tensorNat c (addr + i * size) size

/-- A part record (R457). -/
structure PartRec where
  kind  : Nat
  crate : Nat
  gran  : Nat
  len   : Nat
  rsvd  : Bool
deriving DecidableEq, Repr, Inhabited

def partRec (v : Nat) : PartRec :=
  ⟨nfld v 0 8, nfld v 32 32, nfld v 64 11, nfld v 96 32, nfld v 8 24 != 0 || nfld v 75 21 != 0⟩
def PartRec.addr (p : PartRec) : Nat := p.crate * 65536 + p.gran * 32
/-- A part is as long as the `bytes` that its records take. -/
def PartRec.holds (p : PartRec) (bytes : Nat) : Bool := decide (bytes ≤ 32 * p.len)
/-- The crates that a part reaches. -/
def PartRec.crates (p : PartRec) : List Nat :=
  (List.range ((p.gran * 32 + p.len * 32 + 65535) / 65536)).map (p.crate + ·)

/-- R315. -/
def streamHdr (v : Nat) : StreamHdr :=
  ⟨nfld v 0 2 == 1, nfld v 4 4, nfld v 8 4, nfld v 16 16, nfld v 32 16, nfld v 48 16, nfld v 64 16, nfld v 80 13, nfld v 96 21,
   nfld v 117 9⟩
/-- R316. -/
def dGroup (v : Nat) : DGroup := ⟨nfld v 0 64, nfld v 64 10, nfld v 74 4⟩
/-- R317. -/
def pfEntry (v : Nat) : PfEntry :=
  ⟨nfld v 0 12, nfld v 12 1 == 1, nfld v 16 8, nfld v 32 32, nfld v 64 16, nfld v 80 8⟩
/-- R372. -/
def slotRec (v : Nat) : SlotRec := ⟨nfld v 0 2, nfld v 2 3, nfld v 8 16, nfld v 24 8, nfld v 32 8⟩
/-- R376. -/
def chanRec (v : Nat) : ChanRec := ⟨nfld v 0 17, nfld v 17 1 == 1, nfld v 18 4, nfld v 32 32, nfld v 64 16⟩
/-- R343. -/
def shardRec (v : Nat) : Shard :=
  ⟨nfld v 0 32, nfld v 32 24, nfld v 56 4, nfld v 60 1 == 1, nfld v 61 1 == 1, nfld v 64 17, nfld v 84 4⟩
/-- A record of the tensor table. -/
def tensorRec (v : Nat) : TensorRec :=
  ⟨nfld v 0 32, nfld v 32 32, nfld v 64 2, nfld v 66 6, nfld v 72 4, nfld v 76 1 == 1, nfld v 77 1 == 1, nfld v 78 1 == 1⟩

/-- A router's segments from a byte address: `n` of them; answers the address after them and whether they are well formed. -/
def State.readSegs (s : State) (c : Nat) : Nat → Nat → List HopSeg × Nat × Bool
  | 0, a => ([], a, true)
  | n + 1, a =>
    let h := s.tensorNat c a 8
    let k := nfld h 16 13
    let es := (s.recs c (a + 8) k 8).map fun (v : Nat) => (BitVec.ofNat 64 v : W64)
    let (t, e, ok) := s.readSegs c n (a + 8 + 8 * k)
    (⟨nfld h 0 13, es⟩ :: t, e, ok && nfld h 13 3 == 0 && nfld h 29 35 == 0)

/-- The hop tables of a part: from `a` up to `stop`. -/
def State.readTables (s : State) (c stop : Nat) : Nat → Nat → List HopTable × Bool
  | 0, _ => ([], true)
  | fuel + 1, a =>
    if stop < a + 8 then ([], true) else
    let h := s.tensorNat c a 8
    -- zeros alone fill the last granule
    if h = 0 ∧ s.tensorNat c a (stop - a) = 0 then ([], true) else
    let (segs, e, ok) := s.readSegs c (nfld h 16 16) (a + 8)
    let (t, ok') := s.readTables c stop fuel e
    (⟨nfld h 0 16, segs⟩ :: t, ok && ok' && nfld h 32 32 == 0 && decide (e ≤ stop))

/-! The checks on hop tables (R86, R107). -/

def ascending : List Nat → Bool
  | a :: b :: t => decide (a ≤ b) && ascending (b :: t)
  | _ => true
/-- Ascending, with no number twice. -/
def rising (l : List Nat) : Bool := (l.zip l.tail).all fun e => decide (e.1 < e.2)

/-- The data cycles of a run (R85): from CYCLE on, control slots skipped; fewer than LEN when it passes cycle 255. -/
def runCycles (cycle len : Nat) : List Nat :=
  ((List.range 256).filter fun k => decide (cycle ≤ k) && k % 64 != 0).take len

/-- A hop entry's fields. -/
def heCycle (e : W64) : Nat := fld e 0 8
def heLen (e : W64) : Nat := fld e 8 8
def heEpoch (e : W64) : Nat := fld e 16 12
def heIn (e : W64) : Nat := fld e 28 4
def heIn2 (e : W64) : Nat := fld e 32 4
def heOut (e : W64) : Nat := fld e 36 9
def heOp (e : W64) : Nat := fld e 45 3
def heStream (e : W64) : Nat := fld e 48 8
/-- The output ports that an entry drives: 0 to 7, and 8 for CORE. -/
def heOuts (e : W64) : List Nat := (List.range 9).filter fun i => nfld (heOut e) i 1 == 1

/-- A port that a router has at all (R46, R74, R75): CORE at core routers only. -/
def portExists (router port : Nat) : Bool :=
  if port = 8 then decide (router < 7680) else (portPartner router port).isSome

/-- R86 for one entry; `regions` is the partition. -/
def entryOk (router period regions : Nat) (e : W64) : Bool :=
  let run := runCycles (heCycle e) (heLen e)
  let ports := heOuts e
  let ins := [heIn e] ++ (if heOp e = 0 then [] else [heIn2 e])
  heCycle e % 64 != 0 && decide (1 ≤ heLen e ∧ heLen e ≤ 252) && run.length == heLen e && decide (heEpoch e < period) &&
  (decide (heLen e % 4 = 0) || !((ins ++ ports).any fun p => decide (4 ≤ p ∧ p < 8))) &&
  ins.all (fun p => p == 15 || (decide (p ≤ 8) && portExists router p)) && ports.all (portExists router) &&
  ports.all (fun p => p == 8 || match portPartner router p with
    | some (q, _) => nfld regions (routerRegion q) 1 == 1
    | none => false) &&
  decide (heOp e ≤ 2) && (if heOp e = 0 then heIn2 e == 15 else heIn2 e != 15) && fld e 56 8 == 0

/-- Two entries of one router drive the same port in the same cycle. -/
def clash (a b : W64) : Bool :=
  heEpoch a == heEpoch b && heOut a &&& heOut b != 0 &&
  (runCycles (heCycle a) (heLen a)).any fun k => (runCycles (heCycle b) (heLen b)).contains k

def noClash : List W64 → Bool
  | [] => true
  | e :: es => es.all (fun f => !clash e f) && noClash es

def segOk (router regions : Nat) (g : HopSeg) : Bool :=
  decide (1 ≤ g.period ∧ g.period ≤ 4096) && decide (g.entries.length ≤ 4096) &&
  g.entries.all (entryOk router g.period regions) && noClash g.entries

/-- A table is of a router of the partition. -/
def tableOk (regions : Nat) (t : HopTable) : Bool :=
  decide (t.router < 7744) && nfld regions (routerRegion t.router) 1 == 1 && t.segs.all (segOk t.router regions)

/-- The region hops from a service router to another's region, over the seams between neighbours (R82); 1 to a neighbour. -/
def regionHops (dest : Nat) : Nat → Nat → Option Nat
  | 0, _ => none
  | fuel + 1, r => if r = dest then some 0 else match neighbour r (hopDir r dest) with
    | some x => (regionHops dest fuel x).map (· + 1)
    | none => none

/-- The hops from a region's service router to the root of a barrier tree (R107); none when it does not get there. -/
def treeDepth (tree : List Nat) : Nat → Nat → Option Nat
  | 0, _ => none
  | fuel + 1, r =>
    match tree[r]? with
    | none => none
    | some 0xFF => some 0
    | some p => if p < 64 then (match regionHops p 24 r, treeDepth tree fuel p with
      | some n, some d => some (n + d)
      | _, _ => none) else none

/-- A region of the partition that the variant does not take as dark. -/
def liveRegion (regions dark r : Nat) : Bool := nfld regions r 1 == 1 && nfld dark r 1 == 0

/-- The barrier tree (R107, R457): every live region has a live parent or is the one root, from which it is at most 13 hops
away, and a region outside the partition holds 0xFE. -/
def treeOk (regions dark : Nat) (tree : List Nat) : Bool :=
  (List.range 64).all (fun r =>
    let p := tree.getD r 0
    if liveRegion regions dark r then
      (p == 0xFF || (decide (p < 64) && liveRegion regions dark p)) && (treeDepth tree 14 r).any fun d => decide (d < 14)
    else nfld regions r 1 == 1 || p == 0xFE) &&
  ((List.range 64).filter fun r => liveRegion regions dark r && tree.getD r 0 == 0xFF).length == 1

/-- A variant's entries name no link into a region that its DARK marks (R405). -/
def darkOk (dark : Nat) (t : HopTable) : Bool :=
  t.segs.all fun g => g.entries.all fun e => (heOuts e).all fun p => p == 8 || match portPartner t.router p with
    | some (q, _) => nfld dark (routerRegion q) 1 == 0
    | none => true

/-! The checks on the other parts. -/

/-- R318: the stream header. -/
def streamOk (v : Nat) : Bool :=
  let h := streamHdr v
  decide (nfld v 0 2 ≤ 1) && nfld v 2 2 == 0 && nfld v 12 4 == 0 && nfld v 93 3 == 0 && nfld v 126 2 == 0 &&
  (if h.resident then h.kmin == 0 && h.kmax == 0 && h.lsize == 0 && decide (1 ≤ h.npos ∧ h.npos ≤ 8)
   else decide (1 ≤ h.kmin ∧ h.kmin ≤ h.kmax) && h.psize == 0 && decide (1 ≤ h.npos ∧ h.npos ≤ 4096)) &&
  decide (1 ≤ h.nent ∧ h.nent ≤ 1048576) && decide (1 ≤ h.ngrp ∧ h.ngrp ≤ 256) &&
  decide (h.lbase + (h.kmax + 1) * h.lsize ≤ 65536) && decide (h.pbase + h.psize ≤ 65536) &&
  (h.psize == 0 || h.lsize == 0 || decide (h.lbase + (h.kmax + 1) * h.lsize ≤ h.pbase ∨ h.pbase + h.psize ≤ h.lbase))

/-- Two deliveries to a common entry core whose bench ranges overlap. -/
def pfClash (gs : List DGroup) (a b : PfEntry) : Bool :=
  let ga := gs.getD a.group default
  let gb := gs.getD b.group default
  a.pos == b.pos && decide (a.offset < b.offset + 2048 ∧ b.offset < a.offset + 2048) &&
  ga.regions &&& gb.regions != 0 && ga.rows &&& gb.rows != 0 && ga.ecol == gb.ecol

def pfNoClash (gs : List DGroup) : List PfEntry → Bool
  | [] => true
  | e :: es => es.all (fun f => !pfClash gs e f) && pfNoClash gs es


/-- R318: the groups and entries. -/
def prefetchOk (h : StreamHdr) (regions : Nat) (rawG rawE : List Nat) : Bool :=
  let gs := rawG.map dGroup
  let es := rawE.map pfEntry
  rawG.all (fun v => nfld v 78 50 == 0 && decide (nfld v 74 4 ≤ 11)) &&
  rawE.all (fun v => nfld v 13 3 == 0 && nfld v 24 8 == 0 && nfld v 88 40 == 0) &&
  es.all (fun e => decide (e.pos < h.npos) && decide (e.group < gs.length) &&
    decide (e.offset + 2048 ≤ if h.resident then h.psize else h.lsize) &&
    (gs.getD e.group default).regions &&& (2 ^ 64 - 1 - regions) == 0) &&
  ascending (es.map (·.pos)) && (List.range h.npos).all (fun p => es.any fun e => e.pos == p) && pfNoClash gs es

/-- R373. -/
def tableOkMb (h : StreamHdr) (hdr : Nat) (rawM rawS rawC : List Nat) : Bool :=
  let nmb := nfld hdr 0 16
  let v := nfld hdr 40 4
  let nch := nfld hdr 68 8
  let slots := rawS.map slotRec
  let chans := rawC.map chanRec
  let idx (p : SlotRec → Bool) : List Nat := (slots.zipIdx.filter fun e => p e.1).map (·.2)
  decide (1 ≤ nmb) && nfld hdr 37 3 == 0 && nfld hdr 76 52 == 0 && decide (1 ≤ nfld hdr 16 21 ∧ nfld hdr 16 21 ≤ 1048576) &&
  v == (if h.resident then h.npos else 1) && decide (1 ≤ nfld hdr 44 12 ∧ nfld hdr 44 12 ≤ 4095) &&
  decide (nfld hdr 56 12 < nfld hdr 44 12) &&
  rawM.all (fun r => nfld r 48 16 == 0 && decide (1 ≤ nfld r 0 48)) &&
  rawC.all (fun r => nfld r 22 10 == 0 && nfld r 80 48 == 0 && decide (1 ≤ nfld r 18 4) && decide (1 ≤ nfld r 64 16)) &&
  rawS.all (fun r => decide (nfld r 0 2 ≤ 2) && nfld r 5 3 == 0 && nfld r 40 24 == 0) &&
  slots.all (fun q => decide (q.vstage < v) && decide (q.mb < nmb) &&
    (q.inCh == 0xFF || (decide (q.inCh < nch) && (chans.getD q.inCh default).recv)) &&
    (q.outCh == 0xFF || (decide (q.outCh < nch) && !(chans.getD q.outCh default).recv))) &&
  (List.range nmb).all fun m => (List.range v).all fun w =>
    let at_ (p : Nat) : List Nat := idx fun q => q.mb == m && q.vstage == w && q.pass == p
    match at_ 0, at_ 1 with
    | [f], b => decide (b.length ≤ 1) && b.all (fun i => decide (f < i)) &&
        (at_ 2).all (fun i => decide (f < i) && b.all fun j => decide (i < j))
    | _, _ => false

/-- R360. -/
def useqOk (w : W32) : Bool := decide (fld w 0 5 ≤ 15) && fld w 25 7 == 0 && (fld w 0 5 == 0 || !(decide (4 ≤ fld w 5 5 ∧ fld w 5 5 ≤ 15)))

def noOverlap : List Shard → Bool
  | [] => true
  | a :: t => t.all (fun b => decide (a.first + a.ntiles ≤ b.first ∨ b.first + b.ntiles ≤ a.first)) && noOverlap t

/-- R343. -/
def shardsOk (ports : Nat) (raw : List Nat) : Bool :=
  raw.all (fun v => nfld v 62 2 == 0 && nfld v 81 3 == 0 && nfld v 88 40 == 0 && decide (nfld v 56 4 < ports) &&
    decide (1 ≤ nfld v 32 24)) && noOverlap (raw.map shardRec)

/-- Where the verdict-set records of a reduction plan begin: the last NMB records of 8 bytes, with at most one record of
padding before them (assumption 19). -/
def State.planSplit (s : State) (c : Nat) (p : PartRec) (nmb : Nat) : Nat :=
  let total := 32 * p.len
  let n := (total - 8 * nmb) / 16
  if nfld (s.tensorNat c (p.addr + 16 * n) 8) 0 16 = 0 ∨ n = 0 then n else n - 1

/-- A variant from its record: the variant with its checks, and the crates that it reaches. -/
def State.readVariant (s : State) (c regions nmb : Nat) (v : Nat) : Variant × Bool × List Nat :=
  let dark := nfld v 0 64
  let crate := nfld v 64 32
  let ps := ((s.recs c (crate * 65536) 4096 16).map partRec).takeWhile fun p => decide (0x10 ≤ p.kind ∧ p.kind ≤ 0x14)
  let part (k : Nat) : PartRec := (ps.find? fun p => p.kind == k).getD default
  let has := (List.range 5).all fun i => ps.any fun p => p.kind == 0x10 + i
  let pt := part 0x10
  let (hops, ok) := s.readTables c (pt.addr + 32 * pt.len) 8000 pt.addr
  let tree := (s.tensorRead c (part 0x11).addr 64).map (·.toNat)
  let pr := part 0x12
  let n := s.planSplit c pr nmb
  let raw := s.recs c pr.addr n 16
  let vs := (s.recs c (pr.addr + 16 * n) nmb 8).map fun v => (nfld v 0 16, nfld v 32 17)
  let tt := part 0x13
  let tensors := ((s.recs c tt.addr (2 * tt.len) 16).map tensorRec).filter fun t => decide (0 < t.crates)
  let good := nfld v 96 32 == 0 && has && ok && ps.all (fun p => !p.rsvd) && rising (hops.map (·.router)) &&
    (part 0x11).holds 64 && pr.holds (8 * nmb) && hops.all (tableOk regions) && hops.all (darkOk dark)
    && treeOk regions dark tree && shardsOk s.ports raw
  ({ dark := dark, crate := crate, hops := hops, tree := tree, shards := raw.map shardRec, vsets := vs, tensors := tensors },
   good, crate :: ps.flatMap PartRec.crates)

/-- The checks on an image's header and part records (R456, R457). -/
def imageHdrOk (h : Nat) (ps : List PartRec) : Bool :=
  nfld h 0 16 == 0x5347 && nfld h 16 8 == 1 && nfld h 25 7 == 0 && nfld h 39 1 == 0 && nfld h 48 16 == 0 &&
  nfld h 156 4 == 0 && nfld h 188 4 == 0 && nfld h 248 8 == 0 && nfld h 304 176 == 0 && nfld h 480 32 == crc32 60 h &&
  decide (1 ≤ nfld h 32 7 ∧ nfld h 32 7 ≤ 65) && decide (1 ≤ nfld h 40 8) &&
  ps.all (fun p => !p.rsvd && decide (1 ≤ p.kind ∧ p.kind ≤ 4))

/-- An image whose header holds, from its parts: stream, table, variants, and micro-sequences where it has them; none when a part's
check fails. -/
def State.imageOf (s : State) (c icrate h : Nat) (ps : List PartRec) (p1 p2 p4 : PartRec) : Option Program :=
  let regions := nfld h 64 64
  let sv := s.tensorNat c p1.addr 16
  let sh := streamHdr sv
  let rawG := s.recs c (p1.addr + 16) sh.ngrp 16
  let rawE := s.recs c (p1.addr + 16 + 16 * sh.ngrp) sh.nent 16
  let mh := s.tensorNat c p2.addr 16
  let nmb := nfld mh 0 16
  let nslot := nfld mh 16 21
  let nch := nfld mh 68 8
  let rawM := s.recs c (p2.addr + 16) nmb 8
  let rawS := s.recs c (p2.addr + 16 + 8 * nmb) nslot 8
  let rawC := s.recs c (p2.addr + 16 + 8 * nmb + 8 * nslot) nch 16
  let useqs : List (List W32) := match ps.find? fun p => p.kind == 3 with
    | some p => (List.range 16).map fun i => (s.recs c (p.addr + 256 * i) 64 4).map w32
    | none => []
  let vr := (s.recs c p4.addr (nfld h 32 7) 16).map (s.readVariant c regions nmb)
  let darks := vr.map fun e => e.1.dark
  let hdrCrates := (List.range ((64 + 16 * nfld h 40 8 + 65535) / 65536)).map (icrate + ·)
  let crates := (hdrCrates ++ ps.flatMap PartRec.crates ++ vr.flatMap (·.2.2)).eraseDups
  let fits := p1.holds (16 * (1 + sh.ngrp + sh.nent)) && p2.holds (16 + 8 * nmb + 8 * nslot + 16 * nch) &&
    (ps.find? fun p => p.kind == 3).all (·.holds 4096) && p4.holds (16 * nfld h 32 7)
  let good := fits && streamOk sv && prefetchOk sh regions rawG rawE && tableOkMb sh mh rawM rawS rawC &&
    useqs.all (fun l => l.all useqOk) && vr.all (·.2.1) && darks.head? == some 0 && darks.eraseDups.length == darks.length &&
    crates.all (fun n => meTier (s.entry c n) != 0) && (nfld h 24 1 == 0 || (List.range 64).any fun r => regions == 2 ^ r)
  if good then some
    { icrate := icrate, reloc := nfld h 24 1 == 1, regions := regions, cellar := nfld h 128 28, stock := nfld h 160 28,
      scale := nfld h 192 32, jobMbs := nfld h 224 24, jobTokens := nfld h 256 48, stream := sh, groups := rawG.map dGroup,
      entries := rawE.map pfEntry, tokens := rawM.map fun v => nfld v 0 48, slots := rawS.map slotRec, vstages := nfld mh 40 4,
      parts := nfld mh 44 12, pidx := nfld mh 56 12, chans := rawC.map chanRec, useqs := useqs, variants := vr.map (·.1),
      crates := crates }
  else none

/-- The image at ICRATE with all its checks (R456): none when any of them fails. -/
def State.readImage (s : State) (c icrate : Nat) : Option Program :=
  let h := s.tensorNat c (icrate * 65536) 64
  let ps := (s.recs c (icrate * 65536 + 64) (nfld h 40 8) 16).map partRec
  if imageHdrOk h ps then
    match ps.find? fun p => p.kind == 1, ps.find? fun p => p.kind == 2, ps.find? fun p => p.kind == 4 with
    | some p1, some p2, some p4 => s.imageOf c icrate h ps p1 p2 p4
    | _, _, _ => none
  else none

/-- A relocatable image taken for another region (R455): its routers, its tree, its groups and its tensors' homes. -/
def Program.moveTo (p : Program) (dest : Nat) : Program :=
  let mv (q : Nat) : Nat := if q < 7680 then dest * 120 + q % 120 else 7680 + dest
  { p with
    regions := 2 ^ dest
    groups := p.groups.map fun g => { g with regions := if g.regions = 0 then 0 else 2 ^ dest }
    variants := p.variants.map fun v => { v with
      dark := if v.dark = 0 then 0 else 2 ^ dest
      hops := v.hops.map fun t => { t with router := mv t.router }
      tree := (List.range 64).map fun r => if r = dest then 0xFF else 0xFE
      tensors := v.tensors.map fun t => { t with hregion := dest } } }

end Sys2Proof.Machine
end

