-- ==== Sys2Proof/Machine/Descr.lean ====
section
/-! DEFINITION. The descriptors that act without a step: SCHED (R456), MOVE (R298, R320, R458), FENCE (R435), QUERY (R460),
and the CTX_ADMIN operations (R443, R445, R460, R461). -/

namespace Sys2Proof.Machine

/-! Copies of the foreman's tables (R179, R186, R289). -/

/-- The first region of a list that lies in another region row than `r`; else the first other one; else `r` (R179). -/
def otherRow (rs : List Nat) (r : Nat) : Nat :=
  ((rs.find? fun x => (gridOf x).1 != (gridOf r).1).orElse fun _ => rs.find? (· ≠ r)).getD r

/-- Where two copies lie, among the regions of a context that are not dark: where they do, when both are still there; a copy whose
region has left the context moves; none yet, in the first region and the one that R179 pairs with it (assumption 7). A copy
that is lost with a dark region stays lost until it is rebuilt (R186, R289). -/
def copyPlaces (rs at_ : List Nat) : List Nat :=
  match at_, at_.filter rs.contains with
  | [_, _], [a] => [a, otherRow rs a]
  | [_], [a] => [a]
  | _, [a, b] => [a, b]
  | _, _ => match rs with
    | [] => []
    | r :: _ => [r, otherRow rs r]

/-- CTX_SCALE_STATUS shows where the copies of the scale ledger lie (R199). -/
def State.showCopies (s : State) (c : Nat) : State :=
  match (s.ctx c).scaleAt with
  | [] => s.setRegFld (CTX_SCALE_STATUS c) 24 1 0
  | [a] => (s.setRegFld (CTX_SCALE_STATUS c) 8 6 a).setRegFld (CTX_SCALE_STATUS c) 24 1 1
  | a :: b :: _ => ((s.setRegFld (CTX_SCALE_STATUS c) 8 6 a).setRegFld (CTX_SCALE_STATUS c) 16 6 b).setRegFld (CTX_SCALE_STATUS c) 24 1 0

/-- The crates of one copy of the scale ledger (R179). -/
def scaleCrates (n : Nat) : Nat := (n + 2047) / 2048

/-- Place the copies of a context's crate map and scale ledger (R179, R289). A copy that moves takes its entries along. New copies
of the scale ledger are placed when the context's cellar quota has room for both (R295). -/
def State.placeCopies (s : State) (c : Nat) : State :=
  let rs := (s.ctxRegions c).filter fun r => !s.isDark r
  let n := s.regFld (CTX_SCALE_ENTRIES c) 0 32
  let x := s.ctx c
  let swap := decide (x.scaleAt.length = 2) && (x.scaleAt.head?).any (fun r => !rs.contains r)
  let fits := decide (s.useCellar c + 2 * scaleCrates n ≤
    s.regFld (CTX_QUOTA_CELLAR c) 0 28 + x.scaleAt.length * scaleCrates n)
  let at_ := if n = 0 ∨ (x.scaleAt = [] ∧ fits = false) then [] else copyPlaces rs x.scaleAt
  (s.modCtx c fun x => { x with
    mapAt := if x.noMap then [] else copyPlaces rs x.mapAt
    scaleA := if swap then x.scaleB else x.scaleA, scaleB := if swap then x.scaleA else x.scaleB
    scaleAt := at_ }).showCopies c

/-- The number of scale-ledger entries that the loaded program declares (R199). -/
def State.declareScale (s : State) (c n : Nat) : State :=
  (s.setReg (CTX_SCALE_ENTRIES c) (w32 n)).placeCopies c

/-! SCHED. -/

/-- One image takes its slot's place (R456). -/
def State.loadImage (s : State) (c : Nat) (q : SchedWait) : State :=
  let s := s.modCtx c fun x => { x with slots := spSet (fun _ => none) x.slots q.slot (some q.prog), missing := false }
  (s.declareScale c q.prog.scale).complete c q.desc 0 0 0 q.prog.variants.length

/-- The images that wait take their places, in the order in which their descriptors started, when no step is in progress. -/
def State.applySched (s : State) (c : Nat) : State :=
  if s.inStep c then s else
  let waits := (s.ctx c).sched
  waits.foldl (fun s q => s.loadImage c q) (s.modCtx c fun x => { x with sched := [] })

/-- The image that a SCHED may load (R456, R318): its checks pass, and unless it is relocatable its delivery groups name regions of
the context alone. -/
def State.imageFor (s : State) (c icrate : Nat) : Option Program :=
  (s.readImage c icrate).filter fun p => p.reloc || p.groups.all fun g => g.regions &&& (2 ^ 64 - 1 - maskOf (s.ctxRegions c)) == 0

/-- What the foreman reads for a SCHED: the image's crates, or no more than its header when that does not hold. -/
def State.schedReads (s : State) (c icrate : Nat) : State :=
  match s.readImage c icrate with
  | none => s.foremanReads c (icrate * 65536) 64
  | some p => p.crates.foldl (fun s n => s.foremanReads c (n * 65536) 1) s

/-- SCHED (R456). -/
def execSched (ring : Fin 16384) (index : Fin 65536) (s : State) : Out :=
  match s.ready? ring index 2 with
  | none => .next s
  | some (c, d) =>
    let s := s.start c d.no
    let image := s.imageFor c (d.f 96 32)
    let s := s.schedReads c (d.f 96 32)
    match image with
    | none => .next (s.complete c d.no 3 0x04)
    | some p => .next ((s.modCtx c fun x => { x with sched := x.sched ++ [⟨d.no, d.f 64 2, p⟩] }).applySched c)

/-! MOVE. -/

/-- The crates that `len` granules from a tensor address touch, each with its first byte and number of bytes. -/
def spans (addr len : Nat) : List (Nat × Nat × Nat) :=
  let total := 32 * len
  (List.range ((addr % 65536 + total + 65535) / 65536)).map fun i =>
    let off := if i = 0 then addr % 65536 else 0
    let before := if i = 0 then 0 else 65536 * i - addr % 65536
    (addr / 65536 + i, off, min (65536 - off) (total - before))

/-- A crate of an image that a slot holds is among these crates (R456). -/
def State.imageInUse (s : State) (c lo hi : Nat) : Bool :=
  (s.ctx c).slots.any fun e => match e.2 with
    | some p => p.crates.any fun n => decide (lo ≤ n ∧ n < hi)
    | none => false

/-- The prefetch schedule of the running step names one of these crates (R320). -/
def State.prefetched (s : State) (c lo hi : Nat) : Bool :=
  match (s.ctx c).step with
  | some st => st.prog.entries.any fun e => decide (lo ≤ e.crate ∧ e.crate < hi)
  | none => false

/-- Free assignable slots of a row-bay for a context: none where R296 gives it none. -/
def State.bayRoom (s : State) (c region bay : Nat) : Nat :=
  if (s.region region).owner == some c && !s.isDark region && decide (bay < 10) then 261888 - (s.baySlots region bay).length
  else 0

/-- R298: the crates that a MOVE would newly map in the cellar and in the stockroom, those that are lost with a dark region among
them (R404); the end code when either exceeds its quota's room. -/
def State.moveQuota (s : State) (c home hr hb : Nat) (crates : List Nat) : Nat :=
  let cellar := s.cellarRoom c
  let bay := s.bayRoom c hr hb
  let needs := crates.foldl (fun (t : Nat × Nat) n =>
    let e := s.entry c n
    if meTier e ≠ 0 ∧ (meTier e == 1 && s.isDark (nfld (meLoc e) 0 6)) = false then t
    else if home = 2 then (t.1, t.2 + 1)
    else if home = 1 then (t.1 + 1, t.2)
    else if t.1 < cellar ∧ t.1 < bay then (t.1 + 1, t.2) else (t.1, t.2 + 1)) (0, 0)
  if cellar < needs.1 then 1 else if s.stockRoom c < needs.2 then 2 else 0

/-! A tier that ends a request (R274, R277, R278, R280). -/

/-- The crate can be restored by its owner (R327, R368, R413): a peer holds a replica of the context, and the crate is of a
tiled tensor, of the prefetch schedule, or of the ledger. -/
def State.restorable (s : State) (c n : Nat) : Bool :=
  !(s.replicas c).isEmpty && (
    ((s.ctx c).slots.any fun e => e.2.any fun p => p.entries.any (fun f => f.crate == n) ||
      p.variants.any fun v => v.tensors.any fun t => t.tiled && decide (t.first ≤ n ∧ n < t.first + t.crates)) ||
    (List.range (s.regFld (STREAM_LEDGER_TILES c) 0 25)).any fun t =>
      nfld (s.tensorNat c ((s.reg (STREAM_LEDGER_DIR c)).toNat * 65536 + 32 * t) 32) 16 32 == n)

/-- A crate whose contents are no longer to be trusted awaits rebuild (R280); one that nobody can restore is lost (R415). -/
def State.awaitRebuild (s : State) (c n : Nat) : State :=
  if (s.ctx c).awaiting.contains n then s else
  let s := s.modCtx c fun x => { x with awaiting := x.awaiting ++ [n] }
  if s.restorable c n then s else s.crateLost c n

/-- An uncorrectable error ends a read of a crate: a stockroom crate awaits rebuild (R277, R280); a cellar granule is marked
poisoned, and its crate moves to another slot at the next step boundary (R274). -/
def State.tierUncorr (s : State) (c n granule : Nat) : State :=
  let e := s.entry c n
  if meTier e = 2 then s.lasting.awaitRebuild c n
  else (s.placePoison (meplace e) [granule]).lasting.modCtx c fun x => { x with cellarDue := insertNew n x.cellarDue }

/-- Whether a tier can end a request at a crate this way: the stockroom's time limit (R278), or an error of either tier. -/
def State.tierCanEnd (s : State) (c n : Nat) (how : TierEnd) : Bool :=
  !s.crateRetired c n && (match how with
    | .late => meTier (s.entry c n) == 2
    | .uncorr => meTier (s.entry c n) != 0)

/-- The granules of a request that ended before they were written carry poisoned marks (R302). -/
def State.poisonSpan (s : State) (c : Nat) (sp : Nat × Nat × Nat) : State :=
  if s.crateRetired c sp.1 then s else
  s.placePoison (meplace (s.entry c sp.1)) ((List.range (sp.2.2 / 32)).map fun i => sp.2.1 / 32 + i)

/-- Granules of a place before its first poisoned one, of `n` from granule `g`. -/
def State.cleanRun (s : State) (p : Place) (g n : Nat) : Nat :=
  ((List.range n).takeWhile fun i => !s.placeBad p (g + i) 1).length

/-- A MOVE's progress: the state, the granules moved, and the end code. -/
abbrev MoveRun := State × Nat × Nat

/-- Where a tier ends a MOVE's request: after so many of its granules, and how (R301). -/
abbrev MoveMet := Option (Nat × TierEnd)

/-- The granules of a crate that a MOVE gets through, and the end code of a tier that ends it there. -/
def State.moveMet (s : State) (c done : Nat) (met : MoveMet) (sp : Nat × Nat × Nat) : Nat × Nat :=
  match met with
  | some (g, how) =>
    if done ≤ g ∧ g < done + sp.2.2 / 32 ∧ s.tierCanEnd c sp.1 how = true then
      (g - done, match how with
        | .uncorr => 4
        | .late => 5)
    else (sp.2.2 / 32, 0)
  | none => (sp.2.2 / 32, 0)

/-- Host to tensor range, one crate. A write meets a time limit alone. -/
def moveInOne (c port haddr home hr hb : Nat) (pin : Bool) (met : MoveMet) (a : MoveRun) (sp : Nat × Nat × Nat) : MoveRun :=
  let (s, done, code) := a
  if code ≠ 0 then (s.poisonSpan c sp, done, code) else
  let bs := s.hostRead port ((haddr + 32 * done) % 2 ^ 64) sp.2.2
  let (s, k) := s.writeCrate c sp.1 sp.2.1 [] home hr hb pin false
  if k ≠ 0 then (s.poisonSpan c sp, done, k) else
  let (n, k) := s.moveMet c done (met.filter fun e => e.2 == .late) sp
  let s := s.placeWrite (meplace (s.entry c sp.1)) sp.2.1 (bs.take (32 * n))
  if k = 0 then (s, done + n, 0) else ((s.noteEnd c k).poisonSpan c (sp.1, sp.2.1 + 32 * n, sp.2.2 - 32 * n), done + n, k)

/-- Tensor range to host, one crate. -/
def moveOutOne (c port haddr : Nat) (met : MoveMet) (a : MoveRun) (sp : Nat × Nat × Nat) : MoveRun :=
  let (s, done, code) := a
  if code ≠ 0 then a else
  let good := s.cleanRun (meplace (s.entry c sp.1)) (sp.2.1 / 32) (sp.2.2 / 32)
  let (m, e) := s.moveMet c done met sp
  let (bs, k, s) := s.readCrate c sp.1 sp.2.1 sp.2.2
  let (n, k) := if k = 0 ∨ k = 8 ∧ m < good then (m, e) else if k = 8 then (good, 8) else (0, k)
  let s := if k = 4 then s.tierUncorr c sp.1 (sp.2.1 / 32 + n) else s
  let s := if k = 4 ∨ k = 5 ∨ k = 8 then s.noteEnd c k else s
  (s.hostWrite port ((haddr + 32 * done) % 2 ^ 64) (bs.take (32 * n)), done + n, k)

/-- A MOVE completes: OK, or ENDED with the tier's end code. -/
def moveDone (c no : Nat) (r : MoveRun) : State :=
  if r.2.2 = 0 then r.1.complete c no 0 0 0 r.2.1 else r.1.complete c no 2 0x21 r.2.2 r.2.1

/-- The first checks of a MOVE (R458) by direction: whether it is refused RESERVED. -/
def State.moveReserved (s : State) (c : Nat) (d : Desc) : Bool :=
  let dir := d.f 64 2
  (dir != 2 && d.f 128 64 % 32 != 0) || (if dir = 2 then d.f 192 48 % 65536 != 0 || d.f 256 32 % 2048 != 0 else d.f 192 48 % 32 != 0) ||
  (dir == 0 && (d.f 66 2 == 3 || decide (9 < d.f 74 4) || (d.f 66 2 == 1 && (s.region (d.f 68 6)).owner != some c)))

/-- A MOVE that would write or discard crates, when nothing refuses it or holds it back: the body runs. -/
def State.moveGuard (s : State) (c : Nat) (d : Desc) (body : State → State) : State :=
  let lo := d.f 192 48 / 65536
  let hi := (d.f 192 48 + 32 * d.f 256 32 + 65535) / 65536
  if s.moveReserved c d then (s.start c d.no).complete c d.no 3 0x01
  else if s.imageInUse c lo hi then (s.start c d.no).complete c d.no 3 0x0B
  else if s.prefetched c lo hi then s.orReg (STREAM_FLAGS c) 0x10
  -- a context that has lost its crate map ends every request RETIRED (R290)
  else if (s.ctx c).noMap then ((s.start c d.no).noteEnd c 6).complete c d.no 2 0x21 6
  else body (s.start c d.no)

/-- MOVE from host memory to the tensor range (R298, R301, R458). -/
def execMoveToTensor (ring : Fin 16384) (index : Fin 65536) (met : Option (Nat × TierEnd)) (s : State) : Out :=
  match s.ready? ring index 3 with
  | none => .next s
  | some (c, d) =>
    if d.f 64 2 ≠ 0 then .next s else
    .next (s.moveGuard c d fun s =>
      let sps := spans (d.f 192 48) (d.f 256 32)
      let home := d.f 66 2
      let code := s.moveQuota c home (d.f 68 6) (d.f 74 4) (sps.map (·.1))
      if code ≠ 0 then (s.noteEnd c code).complete c d.no 3 0x03 code
      else moveDone c d.no
        (sps.foldl (moveInOne c (s.ctxPort c) (d.f 128 64) home (d.f 68 6) (d.f 74 4) (bitAt d.words 78) met) (s, 0, 0)))

/-- MOVE from the tensor range to host memory (R279, R301, R458). -/
def execMoveToHost (ring : Fin 16384) (index : Fin 65536) (met : Option (Nat × TierEnd)) (s : State) : Out :=
  match s.ready? ring index 3 with
  | none => .next s
  | some (c, d) =>
    if d.f 64 2 ≠ 1 then .next s else
    let s := s.start c d.no
    if s.moveReserved c d then .next (s.complete c d.no 3 0x01) else
    .next (moveDone c d.no ((spans (d.f 192 48) (d.f 256 32)).foldl (moveOutOne c (s.ctxPort c) (d.f 128 64) met) (s, 0, 0)))

/-- MOVE discard (R287, R306, R458). -/
def execMoveDiscard (ring : Fin 16384) (index : Fin 65536) (s : State) : Out :=
  match s.ready? ring index 3 with
  | none => .next s
  | some (c, d) =>
    if d.f 64 2 ≠ 2 then .next s else
    .next (s.moveGuard c d fun s =>
      let s := (spans (d.f 192 48) (d.f 256 32)).foldl (fun s sp => s.unmap c sp.1) s
      s.refillSpares.complete c d.no 0 0 0 (d.f 256 32))

/-! FENCE and QUERY. -/

/-- FENCE (R435, R460). -/
def execFence (ring : Fin 16384) (index : Fin 65536) (s : State) : Out :=
  match s.ready? ring index 7 with
  | none => .next s
  | some (c, d) => .next ((s.start c d.no).complete c d.no 0 0)

/-- A QUERY of one kind: records of `size` bytes at HADDR on, and RESULT (R460). -/
def State.query (s : State) (ring index kind size : Nat) (record : State → Nat → Nat → Nat × State) : State :=
  match s.ready? ring index 8 with
  | none => s
  | some (c, d) =>
    if d.f 64 8 ≠ kind then s else
    let s := s.start c d.no
    let s := (List.range (d.f 224 32)).foldl (fun s i =>
      let (v, s) := record s c (d.f 192 32 + i)
      s.hostWrite (s.ctxPort c) ((d.f 128 64 + size * i) % 2 ^ 64) (leBytes size v)) s
    s.complete c d.no 0 0 0 (d.f 224 32)

/-- The word at a register address, as the owning port would read it without side effects. -/
def State.shownReg (s : State) (c a : Nat) : Nat × State :=
  match regRow a with
  | none => (0, s)
  | some row => if row.acc = .wo then (0, s) else let (v, s) := s.liveReg (s.ctxPort c) a; (v.toNat, s)

/-- A window of registers as one number. -/
def State.shownWindow (s : State) (c base words : Nat) : Nat × State :=
  (List.range words).foldl (fun (a : Nat × State) i =>
    let (v, s) := a.2.shownReg c (base + 4 * i)
    (a.1 + (v <<< (32 * i)), s)) (0, s)

/-- QUERY 0x01. -/
def execQueryCrateMap (ring : Fin 16384) (index : Fin 65536) (s : State) : Out :=
  .next (s.query ring index 1 8 fun s c n => ((s.mapEntry c n).toNat, s))

/-- QUERY 0x02. -/
def execQueryCtxWindow (ring : Fin 16384) (index : Fin 65536) (s : State) : Out :=
  .next (s.query ring index 2 1024 fun s c _ => s.shownWindow c (0x20000 + c * 0x400) 256)

def Ctx.sink (x : Ctx) (n : Nat) : Sink := spGet (fun _ => Sink.reset) x.sinks n

/-- QUERY 0x03. -/
def execQuerySinkTable (ring : Fin 16384) (index : Fin 65536) (s : State) : Out :=
  .next (s.query ring index 3 32 fun s c n =>
    let k := (s.ctx c).sink n
    (if n < 16 ∧ k.on = true then k.base + (k.size <<< 64) + 2 ^ 128 else 0, s))

/-- QUERY 0x04. -/
def execQueryRingWindows (ring : Fin 16384) (index : Fin 65536) (s : State) : Out :=
  .next (s.query ring index 4 64 fun s c n =>
    if n < 16384 ∧ s.regFld (RING_CONFIG n) 0 2 ≠ 0 ∧ s.ringCtx n = c then s.shownWindow c (0x100000 + n * 64) 16 else (0, s))

/-- QUERY 0x05. -/
def execQueryProgramSlots (ring : Fin 16384) (index : Fin 65536) (s : State) : Out :=
  .next (s.query ring index 5 32 fun s c n =>
    match spGet (fun _ => none) (s.ctx c).slots n with
    | some p =>
      let used := match (s.ctx c).step with
        | some st => if st.slot = n then st.variant.getD 0 else 0
        | none => 0
      (p.icrate + (used <<< 32) + 2 ^ 39, s)
    | none => (0, s))

/-- QUERY 0x06. -/
def execQueryScaleLedger (ring : Fin 16384) (index : Fin 65536) (s : State) : Out :=
  .next (s.query ring index 6 32 fun s c n => ((spGet (fun _ => 0#256) (s.ctx c).scaleA n).toNat, s))

/-- QUERY 0x07: the records of the ledger directory, from the first crate that STREAM_LEDGER_DIR names (R354). -/
def execQueryLedgerDirectory (ring : Fin 16384) (index : Fin 65536) (s : State) : Out :=
  .next (s.query ring index 7 32 fun s c n =>
    let a := (s.reg (STREAM_LEDGER_DIR c)).toNat * 65536 + 32 * n
    (s.tensorNat c a 32, s.foremanReads c a 32))

/-! CTX_ADMIN. -/

/-- The regions that a 64-bit argument marks. -/
def markedRegions (v : Nat) : List Nat := (List.range 64).filter fun r => nfld v r 1 == 1

/-- CTX_ADMIN of one operation, when it may start. -/
def State.admin (s : State) (ring index op : Nat) (f : State → Nat → Desc → State) : State :=
  match s.ready? ring index 9 with
  | none => s
  | some (c, d) => if d.f 64 8 = op then f (s.start c d.no) c d else s

/-- ASSIGN (R443, R565): each region enters DOZE, at its effective clock step, and its CORE registers return to reset values. -/
def State.assignRegion (s : State) (c r : Nat) : State :=
  if (s.region r).owner = some c then s else
  let s := (s.modRegion r fun x => { x with owner := some c }).resetRegs (coreWindows r)
  if s.powerOf r ≤ 1 then s.setRegFld (REGION_POWER r) 2 5 (s.stepOf r) else s.askRamp r true

def execAssign (ring : Fin 16384) (index : Fin 65536) (s : State) : Out :=
  .next (s.admin ring index 1 fun s c d =>
    let rs := markedRegions (d.f 128 64)
    if rs.any fun r => s.isDark r || ((s.region r).owner.isSome && (s.region r).owner != some c) then
      s.complete c d.no 3 0x0A
    else ((rs.foldl (fun s r => s.assignRegion c r) s).placeCopies c).complete c d.no 0 0)

/-- A crate of a context lies in a region's cellar, or is being copied there (R296). -/
def State.cellarHolds (s : State) (c r : Nat) : Bool :=
  (s.ctx c).map.any (fun e => meTier e.2 == 1 && nfld (meLoc e.2) 0 6 == r) ||
  (s.ctx c).migrations.any fun m => m.toCellar && nfld m.loc 0 6 == r

/-- REMOVE (R36, R296, R443). -/
def execRemove (ring : Fin 16384) (index : Fin 65536) (s : State) : Out :=
  .next (s.admin ring index 2 fun s c d =>
    let named := markedRegions (d.f 128 64)
    let rs := named.filter fun r => (s.region r).owner == some c
    let left := (s.ctxRegions c).length - rs.length
    if named.any (fun r => s.isDark r || ((s.region r).owner.isSome && (s.region r).owner != some c)) ||
        decide (2618880 * left < s.regFld (CTX_QUOTA_CELLAR c) 0 28) || rs.any (s.cellarHolds c) then
      s.complete c d.no 3 0x0A
    else ((rs.foldl (fun s r => s.releaseRegion r) s).placeCopies c).complete c d.no 0 0)

/-- SINK_SET (R386, R460). -/
def execSinkSet (ring : Fin 16384) (index : Fin 65536) (s : State) : Out :=
  .next (s.admin ring index 3 fun s c d =>
    if d.f 192 64 % 4096 ≠ 0 ∨ d.f 256 64 % 4096 ≠ 0 then s.complete c d.no 3 0x01 else
    (s.modCtx c fun x => { x with sinks := spSet (fun _ => Sink.reset) x.sinks (d.f 128 4) ⟨d.f 192 64, d.f 256 64, true⟩ }).complete
      c d.no 0 0)

/-- A swatch of the context uses a sink: its plan's destination is that sink (R385, R386). -/
def State.sinkUsed (s : State) (c n : Nat) : Bool :=
  match (s.ctx c).swatch with
  | some w => fld w.plan 2 2 == 2 && fld w.plan 192 4 == n
  | none => false

/-- SINK_CLEAR (R460): it waits while a swatch of the context uses the sink. -/
def execSinkClear (ring : Fin 16384) (index : Fin 65536) (s : State) : Out :=
  match s.ready? ring index 9 with
  | none => .next s
  | some (c, d) =>
    if d.f 64 8 ≠ 4 ∨ s.sinkUsed c (d.f 128 4) = true then .next s else
    let s := s.modCtx c fun x => { x with sinks := spSet (fun _ => Sink.reset) x.sinks (d.f 128 4) Sink.reset }
    .next ((s.start c d.no).complete c d.no 0 0)

/-- Take the descriptors that a CANCEL covers from one ring, each completing CANCELLED; `k` of them. -/
def State.cancelRing (s : State) (c n : Nat) : Nat → State
  | 0 => s
  | k + 1 =>
    (s.takeFrom c n fun d => { d with started := true, result := some ⟨4, 0, 0x40, 0⟩ }).cancelRing c n k

/-- How many descriptors of a ring a CANCEL still covers: those before the producer index of the moment it was taken (R461). -/
def State.cancelSpan (s : State) (c no n : Nat) : Nat :=
  let m := ringDist (s.ringDepth n) (s.cons n) (s.prod n)
  match (s.ctx c).cancels.find? fun e => e.1 == no && e.2.1 == n with
  | some e =>
    let k := ringDist (s.ringDepth n) (s.cons n) e.2.2
    if k ≤ m then k else 0
  | none => m

/-- CANCEL (R461). -/
def execCancel (ring : Fin 16384) (index : Fin 65536) (s : State) : Out :=
  .next (s.admin ring index 5 fun s c d =>
    let n := d.f 128 14
    let subs := (s.rings.map (·.1)).filter fun q => s.ringOn q && s.ringKind q == 1 && s.ringCtx q == c
    let all := d.f 142 1 = 1
    if ¬ all ∧ (n = ring.val ∨ s.regFld (RING_CONFIG n) 0 2 = 0 ∨ s.ringCtx n ≠ c) then s.complete c d.no 3 0x01 else
    let rs := if all then subs.filter (· ≠ ring.val) else subs.filter (· == n)
    let (s, k) := rs.foldl (fun (a : State × Nat) q =>
      let m := a.1.cancelSpan c d.no q
      (a.1.cancelRing c q m, a.2 + m)) (s, 0)
    (s.modCtx c fun x => { x with cancels := x.cancels.filter fun e => e.1 != d.no }).complete c d.no 0 0 0 k)

/-- TEARDOWN (R445): the descriptor completes when the wipe does. -/
def execTeardown (ring : Fin 16384) (index : Fin 65536) (s : State) : Out :=
  .next (s.admin ring index 6 fun s c d => s.teardown c false (some d.no))

end Sys2Proof.Machine
end

