-- ==== Sys2Proof/Machine/Flags.lean ====
section
/-! DEFINITION. Every flag that the lanes compute: the lanes' sticky status and the region's (R223, R241), illegal and
empty instructions (R207, R208), the residue checks (R237 to R239), and the issue counts of R235. -/

namespace Sys2Proof.Machine

/-- Set status bits in one lane (R223). -/
def Core.laneOr (c : Core) (lane bits : Nat) : Core :=
  { c with lanes := spSet (fun _ => 0#16) c.lanes lane (c.lstat lane ||| BitVec.ofNat 16 bits) }

/-- The bits that a list of status sets, element by element, gives altogether. -/
def orAll (fls : List Nat) : Nat := fls.foldl (· ||| ·) 0

/-- Status bits set by the elements of an instruction: element i's in lane i mod 64 (R202, R223). -/
def Core.lanesOr (c : Core) (fls : List Nat) : Core :=
  fls.zipIdx.foldl (fun c e => if e.1 = 0 then c else c.laneOr (e.2 % 64) e.1) c

/-- Status bits set in every lane. -/
def Core.lanesAll (c : Core) (bits : Nat) : Core := (List.range 64).foldl (fun c j => c.laneOr j bits) c

/-- Element status set in the lanes and in REGION_LANE_STATUS (R223). -/
def State.laneFlags (s : State) (k : Nat) (fls : List Nat) : State :=
  (s.modCore k fun c => c.lanesOr fls).orReg (REGION_LANE_STATUS (regionOfPhys k)) (orAll fls)

/-- Status bits set in every lane of the core and in REGION_LANE_STATUS. -/
def State.laneAll (s : State) (k bits : Nat) : State :=
  (s.modCore k fun c => c.lanesAll bits).orReg (REGION_LANE_STATUS (regionOfPhys k)) bits

/-- An illegal vector instruction (R207): it writes nothing, sets ILLEGAL in every lane, and the current micro-batch is
doubtful. -/
def State.illegalVec (s : State) (k : Nat) : State := ((s.laneAll k stILLEGAL).event k 0x09 1).doubtCore k

/-- An instruction with COUNT above 8,192 (R208): RANGE in every lane and nothing else. -/
def State.emptyVec (s : State) (k : Nat) : State := (s.laneAll k stRANGE).event k 0x09 1

/-- Whether the instruction acts in full whatever COUNT holds (R208). -/
def VInstr.countless (i : VInstr) : Bool := i.opc == 0x22 || i.opc == 0x61 || i.opc == 0x62

/-- Whether the residue code checks the elements of an instruction (R237): of a reduction or a scan, those that add or
multiply. -/
def residueChecked (i : VInstr) : Bool :=
  i.opc ∈ [0x01, 0x02, 0x03, 0x04, 0x05, 0x0A, 0x10, 0x11, 0x12, 0x13, 0x34, 0x50, 0x51, 0x52, 0x53, 0x60] ||
  ((i.opc == 0x40 || i.opc == 0x41) && decide (i.aux % 8 ≤ 1))

/-- The residue failures of the elements that an instruction processes (R208, R237). -/
def VInstr.met (i : VInstr) (flt : List LaneFault) : List LaneFault :=
  if residueChecked i then flt.filter fun f => decide (f.elem < i.count) else []

/-- The elements below COUNT of which a register word is lost (R239); an instruction that acts whatever COUNT holds has one. -/
def VInstr.lost (i : VInstr) (met : LaneMet) : List Nat :=
  if i.countless then met.lost.take 1 else met.lost.filter fun e => decide (e < i.count)

/-- The elements that an instruction leaves unwritten (R239): those whose recomputation fails, and those of which a register
word is lost. -/
def VInstr.failed (i : VInstr) (met : LaneMet) : List Nat :=
  (((i.met met.faults).filter fun f => !f.passes).map fun f => f.elem) ++ i.lost met

/-- A lasting lane fault (R239). -/
def State.laneLost (s : State) (k : Nat) : State :=
  let r := regionOfPhys k
  ((s.bump (REGION_LANE_FAIL r) 1).orReg (REGION_LANE_STATUS r) 0x800).lastingCore k

/-- Residue failures (R238, R239): each element is recomputed; a recomputation that passes is a transient fault, and one that
fails is a lasting fault of the core. -/
def State.residue (s : State) (k : Nat) (flt : List LaneFault) : State :=
  flt.foldl (fun s f =>
    let r := regionOfPhys k
    let s := (s.event k 0x0B 1).mismatch k (if f.passes then 1 else 2)
    if f.passes then ((s.bump (REGION_LANE_RETRY r) 1).orReg (REGION_LANE_STATUS r) 0x400).transient
    else s.laneLost k) s

/-- ⌈n / d⌉. -/
def ceilDiv (n d : Nat) : Nat := (n + d - 1) / d

/-- The issue cycles of a vector instruction but LPROG, which counts its own (R235). A conversion counts as an FP32 one,
whatever its formats (assumption 10). -/
def vIssueCycles (i : VInstr) : Nat :=
  let n := i.count
  let c64 := ceilDiv n 64
  let cyc :=
    match i.opc with
    | 0x05 => 4 * c64
    | 0x10 | 0x11 | 0x12 | 0x13 => c64
    | 0x20 | 0x21 => ceilDiv n 128
    | 0x30 | 0x31 => ceilDiv (ceilDiv (n * fmtBits i.fmt) 8) 512
    | 0x37 | 0x3C => ceilDiv (ceilDiv n 8) 512
    | 0x63 => ceilDiv (4 * n) 512
    | 0x32 | 0x33 | 0x34 | 0x35 | 0x36 | 0x38 | 0x39 | 0x3A | 0x3B | 0x1A | 0x40 | 0x41 | 0x53 => c64
    | 0x50 => (if i.aux % 2 = 1 then 3 else 2) * c64
    | 0x51 => 2 * c64 + (if i.aux % 2 = 1 then 0 else ceilDiv n 128)
    | 0x52 => (if i.aux % 2 = 1 then 3 else 2) * c64
    | 0x00 | 0x22 | 0x61 | 0x62 => 1
    | _ => if i.fmt = 7 ∨ i.fmt = 8 ∨ i.fmt = 0xA then ceilDiv n 256 else ceilDiv n 128
  if i.opc = 0x60 then 0 else max 1 cyc

/-- Whether an instruction uses the bench port, for which it may wait (R212, R235). -/
def VInstr.usesBench (i : VInstr) : Bool := (0x30 ≤ i.opc && i.opc ≤ 0x37) || i.opc == 0x3C || i.opc == 0x60 || i.opc == 0x63

/-- The AUX bits that an opcode names (R207). -/
def auxBits (opc : Nat) : Nat :=
  match opc with
  | 0x18 => 0x07
  | 0x1A => 0x03
  | 0x20 | 0x21 => 0x0F
  | 0x22 => 0x7F
  | 0x40 => 0x37
  | 0x41 => 0x0F
  | 0x50 | 0x51 | 0x52 => 0x71
  | 0x62 => 0x01
  | _ => 0

/-- The opcodes of R205 that are not reserved. -/
def vOpcodes : List Nat :=
  [0x00, 0x01, 0x02, 0x03, 0x04, 0x05, 0x06, 0x07, 0x08, 0x09, 0x0A, 0x0B, 0x0C, 0x0D, 0x10, 0x11, 0x12, 0x13,
   0x18, 0x19, 0x1A, 0x20, 0x21, 0x22, 0x30, 0x31, 0x32, 0x33, 0x34, 0x35, 0x36, 0x37, 0x38, 0x39, 0x3A, 0x3B, 0x3C,
   0x40, 0x41, 0x50, 0x51, 0x52, 0x53, 0x60, 0x61, 0x62, 0x63]

/-- The formats that an opcode accepts (R206), with the value rules of the AUX fields that R205, R218 and R222 give. A SCALEB
whose target R175 gives no emax is taken as illegal (assumption 10). -/
def vFormatOk (i : VInstr) : Bool :=
  let arith := i.fmt == 0x9 || i.fmt == 0x7 || i.fmt == 0x8 || i.fmt == 0xB || i.fmt == 0xA
  let conv (f : Nat) := f != 0xC && f != 0xD && f != 0xF
  match i.opc with
  | 0x01 | 0x02 | 0x03 | 0x04 | 0x06 | 0x07 | 0x08 | 0x09 | 0x19 => arith
  | 0x18 => arith && i.aux % 8 ≤ 4
  | 0x05 => i.fmt == 0x9 || i.fmt == 0xB
  | 0x0A | 0x0B | 0x0C | 0x0D | 0x63 => i.fmt == 0xB
  | 0x10 | 0x11 | 0x12 | 0x13 | 0x50 | 0x51 | 0x52 => i.fmt == 0x9
  | 0x20 | 0x21 => conv i.fmt && conv (i.aux % 16)
  | 0x22 => (emaxOf (i.aux % 16)).isSome
  | 0x30 | 0x31 | 0x32 | 0x33 | 0x35 | 0x36 => i.fmt != 0xC
  | 0x34 => i.fmt == 0x9 || i.fmt == 0xB
  | 0x40 => arith && i.aux % 8 ≤ 5 && i.aux / 16 % 4 != 3
  | 0x41 => arith && i.aux % 8 ≤ 3
  | 0x53 => i.fmt == 0x9 || i.fmt == 0x7 || i.fmt == 0x8
  | _ => true

/-- Whether a vector instruction is legal (R207). -/
def VInstr.legal (i : VInstr) : Bool :=
  i.resv == 0 && vOpcodes.contains i.opc && i.vd ≤ 7 && i.va ≤ 7 && i.vb ≤ 7 && i.vc ≤ 7 &&
  (i.aux &&& (255 - auxBits i.opc)) == 0 && vFormatOk i

/-- The bench granules that an instruction loads, as first granule and number (R204, R212 to R215, R232). -/
def VInstr.loads (i : VInstr) (c : Core) : List (Nat × Nat) :=
  if !i.legal || decide (8192 < i.count) then [] else
  let b := fmtBits i.fmt
  let g := (c.sreg i.va).toNat
  match i.opc with
  | 0x30 | 0x35 => [(g, ceilDiv (i.count * b) 256)]
  | 0x32 | 0x34 => [(g, ceilDiv ((c.sreg i.vc).toNat * b) 256)]
  | 0x37 => [(g, ceilDiv i.count 256)]
  | 0x63 => [(g, ceilDiv (i.count * 32) 256)]
  | 0x60 => [(0, benchGrans)]
  | _ => []

/-- Scalar registers as the sequencer writes them (R201). -/
def Core.seqWrites (c : Core) (ws : List (Fin 8 × W32)) : Core := ws.foldl (fun c w => c.setSreg w.1 w.2) c

/-- The lane generators of a physical core seeded for a pass of the core's micro-batch through a layer (R173). -/
def Core.reseed (x : Core) (seed : W64) (mb layer pass l : Nat) : Core :=
  { x with gens := (List.range 64).foldl (fun g j => spSet (fun _ => genReset) g j (genSeed seed mb layer pass l j)) x.gens }

/-- The sequencer reseeds the lane generators, as the core program has it do at each pass through a layer (R173). -/
def State.seedLanes (s : State) (k layer : Nat) : State :=
  match (s.region (regionOfPhys k)).owner.bind fun c => (s.ctx c).step, s.logical k with
  | some st, some l => s.modCore k fun x => x.reseed st.seed x.mb layer x.pass l
  | _, _ => s

/-- A word is of another instruction than `opc`'s; every reserved opcode goes with VNOP. -/
def VInstr.notOpc (i : VInstr) (opc : Nat) : Bool := i.opc != opc && (opc != 0 || vOpcodes.contains i.opc)

/-- The common course of a vector instruction (R201, R205, R207, R208, R235 to R239): a word of another opcode is not this
command's; an illegal one and one with COUNT above 8,192 have only their marks; else `body` is its effect. -/
def State.vector (s : State) (k : Nat) (w : W64) (opc : Nat) (met : LaneMet)
    (body : State → Nat → VInstr → List Nat → State) : State :=
  let i := VInstr.ofWord w
  if i.notOpc opc then s
  else
    let s := s.modCore k fun c => { c.seqWrites met.scalars with
      obs := c.obs ++ met.notes.map fun e => (e.1, c.mb, e.2.toNat) }
    let s := match met.layer with
      | some n => s.seedLanes k n
      | none => s
    let s := (s.issued k).event k 0x08 1
    let s := if met.corr = 0 then s else (s.bump (REGION_LANE_CORR (regionOfPhys k)) met.corr).event k 0x17 met.corr
    let s := if (s.core k).lasting then s.doubtCore k else s
    if !i.legal then s.illegalVec k
    else if i.count > 8192 ∧ !i.countless then s.emptyVec k
    else
      let flt := i.met met.faults
      let wait := if i.usesBench then met.wait else 0
      let s := (s.event k 0x09 (vIssueCycles i + wait + 4 * flt.length)).event k 0x0A wait
      let s := s.delay k (wait + 4 * flt.length)
      let s := body s k i (i.failed met)
      (i.lost met).foldl (fun s _ => s.laneLost k) (s.residue k flt)

end Sys2Proof.Machine
end

