-- ==== Sys2Proof/Machine/Lanes.lean ====
section
/-! DEFINITION. The element-wise vector instructions: arithmetic, comparison, selection, masks, conversions (R205, R206,
R224 to R227). -/

namespace Sys2Proof.Machine

/-- The elements of a destination after an element-wise result: an active element that did not fail takes the result, an
inactive one keeps its value or under ZERO becomes 0 (R210), a failed one is not written (R239). -/
def mergeElems (zero : Bool) (failed : List Nat) (act : List Bool) (old new : List W32) : List W32 :=
  (List.zip act (List.zip old new)).zipIdx.map fun (e, i) =>
    if e.1 then (if failed.contains i then e.2.1 else e.2.2) else if zero then 0#32 else e.2.1

/-- The status of the active elements that did not fail; an inactive element sets none (R210). -/
def activeFlags (failed : List Nat) (act : List Bool) (fls : List Nat) : List Nat :=
  (List.zip act fls).zipIdx.map fun (e, i) => if e.1 && !failed.contains i then e.2 else 0

/-- Write an element-wise result to VD and its status to the lanes. -/
def State.putElems (s : State) (k : Nat) (i : VInstr) (failed : List Nat) (res : List (W32 × Nat)) : State :=
  let c := s.core k
  let act := i.active c
  let new := mergeElems i.zero failed act (c.vlist i.vd i.count) (res.map fun e => e.1)
  (s.setCore k (c.putV i.vd new)).laneFlags k (activeFlags failed act (res.map fun e => e.2))

/-- Write element-wise bits to MD; a failed element's is not written (R239). -/
def State.putBits (s : State) (k : Nat) (i : VInstr) (failed : List Nat) (res : List Bool) : State :=
  let c := s.core k
  let act := i.active c
  let new := (List.zip act (List.zip (c.mlist i.vd i.count) res)).zipIdx.map fun (e, n) =>
    if e.1 then (if failed.contains n then e.2.1 else e.2.2) else if i.zero then false else e.2.1
  s.setCore k (c.putM i.vd new)

/-- A binary or ternary operation of R224 and R225 on raw elements of a format. -/
structure LaneOp where
  flt : FVal → FVal → FVal → FVal × Bool × Nat
  int : Nat → Int → Int → Int → Int × Nat

/-- An operation applied to raw elements: floating-point results round once to the format (R206), integer results
saturate (R225). -/
def LaneOp.apply (op : LaneOp) (fmt : Nat) (a b c : W32) : W32 × Nat :=
  match floatOf fmt with
  | some f =>
    let (v, sticky, fl) := op.flt (f.decode a.toNat) (f.decode b.toNat) (f.decode c.toNat)
    let (r, fl') := f.arith v sticky
    (BitVec.ofNat 32 r, fl ||| fl')
  | none =>
    let w := (intWidth fmt).getD 32
    let (v, fl) := op.int w (sext w a.toNat) (sext w b.toNat) (sext w c.toNat)
    let (v, sat) := clampInt w v
    (BitVec.ofNat 32 (toTwos w v), fl ||| (if sat then stSAT else 0))

/-- A rounded-exactly result with its status. -/
def exactly (x : FVal × Nat) : FVal × Bool × Nat := (x.1, false, x.2)

def opAdd : LaneOp := ⟨fun a b _ => exactly (a.add b), fun _ a b _ => (a + b, 0)⟩
def opSub : LaneOp := ⟨fun a b _ => exactly (a.add b.neg), fun _ a b _ => (a - b, 0)⟩
def opMul : LaneOp := ⟨fun a b _ => exactly (a.mul b), fun _ a b _ => (a * b, 0)⟩
/-- VA × VB + VC with one rounding (R205). -/
def opFma : LaneOp := ⟨fun a b c =>
    let (p, fl) := a.mul b
    if c.isNan then (.nan, false, stNAN) else if p.isNan then (.nan, false, fl) else exactly (p.add c),
  fun _ a b c => (a * b + c, 0)⟩
/-- Division (R224, R225): an integer quotient rounds toward zero. -/
def opDiv : LaneOp := ⟨fun a b _ => a.div b,
  fun w a b _ =>
    if b = 0 then
      if a = 0 then (0, stDIV0)
      else if 0 < a then ((2 ^ (w - 1) : Nat) - 1, stDIV0 + stSAT) else (-((2 ^ (w - 1) : Nat) : Int), stDIV0 + stSAT)
    else (a.tdiv b, 0)⟩
/-- The larger value, NaN when either is; +0 over −0 (R221, R224). -/
def opMax : LaneOp := ⟨fun a b _ =>
    if a.isNan || b.isNan then (.nan, false, stNAN)
    else (if a.lt b then b else if b.lt a then a else if a.isNeg then b else a, false, 0),
  fun _ a b _ => (max a b, 0)⟩
def opMin : LaneOp := ⟨fun a b _ =>
    if a.isNan || b.isNan then (.nan, false, stNAN)
    else (if a.lt b then a else if b.lt a then b else if a.isNeg then a else b, false, 0),
  fun _ a b _ => (min a b, 0)⟩
def opAbs : LaneOp := ⟨fun a _ _ => (a.abs, false, if a.isNan then stNAN else 0), fun _ a _ _ => ((a.natAbs : Int), 0)⟩
def opNeg : LaneOp := ⟨fun a _ _ => (a.neg, false, if a.isNan then stNAN else 0), fun _ a _ _ => (-a, 0)⟩
def opExp2 : LaneOp := ⟨fun a _ _ => a.exp2, fun _ a _ _ => (a, 0)⟩
def opLog2 : LaneOp := ⟨fun a _ _ => a.log2, fun _ a _ _ => (a, 0)⟩
def opRcp : LaneOp := ⟨fun a _ _ => (FVal.fin false 1 0).div a, fun _ a _ _ => (a, 0)⟩
def opRsqrt : LaneOp := ⟨fun a _ _ => a.rsqrt, fun _ a _ _ => (a, 0)⟩

/-- An element-wise operation on VA, VB and VC (R205). -/
def laneArith (op : LaneOp) (s : State) (k : Nat) (i : VInstr) (failed : List Nat) : State :=
  let c := s.core k
  let as := c.vlist i.va i.count
  let bs := i.bElems c
  let cs := c.vlist i.vc i.count
  s.putElems k i failed (List.zipWith (fun a bc => op.apply i.fmt a bc.1 bc.2) as (List.zip bs cs))

/-- An operation on the 32-bit patterns of VA and VB. -/
def laneBits (f : W32 → W32 → W32) (s : State) (k : Nat) (i : VInstr) (failed : List Nat) : State :=
  let c := s.core k
  s.putElems k i failed (List.zipWith (fun a b => (f a b, 0)) (c.vlist i.va i.count) (i.bElems c))

/-- A comparison of raw elements of a format (R205, R224). -/
def compareElems (fmt cmp : Nat) (a b : W32) : Bool :=
  match floatOf fmt with
  | some f =>
    let x := f.decode a.toNat
    let y := f.decode b.toNat
    let un := x.isNan || y.isNan
    match cmp with
    | 0 => x.eqv y
    | 1 => !x.eqv y
    | 2 => x.lt y
    | 3 => x.lt y || x.eqv y
    | _ => un
  | none =>
    let w := (intWidth fmt).getD 32
    let x := sext w a.toNat
    let y := sext w b.toNat
    match cmp with
    | 0 => x = y
    | 1 => x ≠ y
    | 2 => x < y
    | 3 => x ≤ y
    | _ => false

/-- VCMP: MD ← VA cmp VB. -/
def laneCompare (s : State) (k : Nat) (i : VInstr) (failed : List Nat) : State :=
  let c := s.core k
  s.putBits k i failed (List.zipWith (compareElems i.fmt (i.aux % 8)) (c.vlist i.va i.count) (i.bElems c))

/-- An element of a format as an instruction passes it on: of a NaN the payload and the sign are not kept (R154), and NAN is
set (R223). -/
def passElem (fmt : Nat) (a : W32) : W32 × Nat :=
  match floatOf fmt with
  | some f => if (f.decode a.toNat).isNan then (BitVec.ofNat 32 (f.arith .nan false).1, stNAN) else (a, 0)
  | none => (a, 0)

/-- VSEL: VD ← MC ? VA : VB. -/
def laneSelect (s : State) (k : Nat) (i : VInstr) (failed : List Nat) : State :=
  let c := s.core k
  s.putElems k i failed (List.zipWith (fun m ab => passElem i.fmt (if m then ab.1 else ab.2)) (c.mlist i.vc i.count)
    (List.zip (c.vlist i.va i.count) (i.bElems c)))

/-- VMOP: MD ← MA op MB. -/
def laneMaskOp (s : State) (k : Nat) (i : VInstr) (failed : List Nat) : State :=
  let c := s.core k
  s.putBits k i failed (List.zipWith (fun a b => match i.aux % 4 with
    | 0 => a && b
    | 1 => a || b
    | 2 => a != b
    | _ => a && !b) (c.mlist i.va i.count) (c.mlist i.vb i.count))

/-- Whether a conversion to the format rounds stochastically when SR is 1 (R168, R205). -/
def srTarget (code : Nat) : Bool := code ∈ [0x0, 0x1, 0x2, 0x3, 0x4, 0x7]

/-- The value of a conversion's source element (R159, R227): an S16 mantissa takes the exponent byte of SC. -/
def cvtSource (fmt sc : Nat) (e : W32) : FVal := if fmt = 0xE then ofS16 e.toNat sc else decodeElem fmt e.toNat

/-- A value converted to a format, into S16 with the exponent byte of SC as it stands, 0xFF included (assumption 10): the
element, its status, and with S16 the tile word's SAT and NONFINITE and the observed magnitude (R169 to R171). -/
def cvtTarget (fmt sc : Nat) (v : FVal) (draw : Option Nat) : W32 × Nat × W32 :=
  if fmt = 0xE then
    let (m, sat, nf) := toS16 v sc
    let obs := obsCode v
    (BitVec.ofNat 32 m, if v.isNan then stNAN_CONV else if sat then stSAT else 0, BitVec.ofNat 32 ((obs <<< 8) + bitN sat 16 + bitN nf 17))
  else match floatOf fmt with
    | some f => let (r, fl) := f.convert v draw; (BitVec.ofNat 32 r, fl, 0xFF00#32)
    | none => let (r, fl) := convertInt ((intWidth fmt).getD 32) v; (BitVec.ofNat 32 r, fl, 0xFF00#32)

/-- The draws of an instruction's active elements, in element order within each lane, and the generators after them
(R173). -/
def takeDraws (c : Core) : List Bool → Nat → Core × List Nat
  | [], _ => (c, [])
  | a :: as, i =>
    if a then
      let (g, r) := genDraw (c.gen (i % 64))
      let (c, rs) := takeDraws (c.setGen (i % 64) g) as (i + 1)
      (c, r :: rs)
    else
      let (c, rs) := takeDraws c as (i + 1)
      (c, 0 :: rs)

/-- VCVT, and with `scaled` VCVTS (R227): each element, divided by the scale of SC where one applies, converted; a
conversion to S16 builds the tile word in SC. -/
def laneConvert (scaled : Bool) (s : State) (k : Nat) (i : VInstr) (failed : List Nat) : State :=
  let c := s.core k
  let dst := i.aux % 16
  let act := i.active c
  let sc := c.sreg i.vc
  let e := fld sc 0 8
  let s16 := i.fmt = 0xE || dst = 0xE
  let stoch := i.sr && srTarget dst
  let (c, draws) := if stoch then takeDraws c act 0 else (c, List.replicate i.count 0)
  let res := List.zipWith (fun x r =>
    let v := cvtSource i.fmt e x
    let v := if scaled && !s16 then (match e8m0 e with | some q => v.scale (-q) | none => .nan) else v
    cvtTarget dst e v (if stoch then some r else none)) (c.vlist i.va i.count) draws
  let words := (List.zip act res).filterMap fun x => if x.1 then some x.2.2.2 else none
  let c := if dst = 0xE then c.setSreg i.vc (words.foldl tileWordCombine sc) else c
  (s.setCore k c).putElems k i failed (res.map fun x => (x.1, x.2.1))

/-- SCALEB (R175, R227): the scale byte for A = |SA|; 0xFF for an infinite or NaN A. -/
def scaleB (a : W32) (target h : Nat) : Nat :=
  let v := (f32 a).abs
  if v.isNan || v.isInf then 0xFF else scaleByte v.ilog ((emaxOf target).getD 0) h

def laneScaleB (s : State) (k : Nat) (i : VInstr) (failed : List Nat) : State :=
  if !failed.isEmpty then s else s.modCore k fun c => c.setSreg i.vd (BitVec.ofNat 32 (scaleB (c.sreg i.va) (i.aux % 16) (i.aux / 16 % 8)))

/-- VBCAST: every active element of VD ← SA, at the width of FMT. -/
def laneBroadcast (s : State) (k : Nat) (i : VInstr) (failed : List Nat) : State :=
  let v := BitVec.ofNat 32 (((s.core k).sreg i.va).toNat % 2 ^ min 32 (fmtBits i.fmt))
  s.putElems k i failed (List.replicate i.count (v, 0))

/-- VSETFILL (R217). -/
def laneSetFill (s : State) (k : Nat) (i : VInstr) (failed : List Nat) : State :=
  if !failed.isEmpty then s else s.modCore k fun c => { c with fill := c.sreg i.va }

/-- VSTAT (R205, R223): SD ← the OR of every lane's status; AUX[0] then clears every lane's. -/
def laneStat (s : State) (k : Nat) (i : VInstr) (failed : List Nat) : State :=
  if !failed.isEmpty then s else s.modCore k fun c =>
    let all := orAll ((List.range 64).map fun j => (c.lstat j).toNat)
    let c := c.setSreg i.vd (BitVec.ofNat 32 all)
    if i.aux % 2 = 1 then { c with lanes := [] } else c

end Sys2Proof.Machine
end

