-- ==== Sys2Proof/Machine/LaneMem.lean ====
section
/-! DEFINITION. The lanes' memory accesses, permutations and lane programs (R212 to R217, R232 to R234). -/

namespace Sys2Proof.Machine

/-- The bytes that one element of `b` bits at bit offset `o` from a granule touches lie within the bench. -/
def elemFits (g b o : Nat) : Bool := g * 256 + o + b ≤ benchGrans * 256

/-- The granules that an element touches. -/
def elemGran (g b o : Nat) : List Nat :=
  let lo := g + o / 256
  let hi := g + (o + b - 1) / 256
  if lo = hi then [lo] else [lo, hi]

/-- FILL at the width of a format (R217). -/
def Core.fillElem (c : Core) (b : Nat) : W32 := BitVec.ofNat 32 (c.fill.toNat % 2 ^ min 32 b)

/-- The raw element of `b` bits at bit `8 × 32 g + o` of the bench. -/
def Core.benchElem (c : Core) (g b o : Nat) : W32 :=
  let a := g * 32 + o / 8
  BitVec.ofNat 32 (nfld (c.bench.readNat a ((o % 8 + b + 7) / 8)) (o % 8) b)

/-- Write a raw element; the granules it touches lose their poisoned mark. -/
def Core.setBenchElem (c : Core) (g b o : Nat) (v : W32) : Core :=
  let a := g * 32 + o / 8
  let n := (o % 8 + b + 7) / 8
  let old := c.bench.readNat a n
  let new := old - (nfld old (o % 8) b <<< (o % 8)) + ((v.toNat % 2 ^ b) <<< (o % 8))
  let c := c.unhome (a / 32) ((a % 32 + n + 31) / 32)
  { c with bench := c.bench.writeNat a n new
           poison := c.poison.filter fun p => !(elemGran g b o).contains p }

/-- Whether a range of the bench holds a poisoned granule that the elements read touch. -/
def Core.readsPoison (c : Core) (g b : Nat) (offs : List Nat) : Bool :=
  !c.poison.isEmpty && offs.any fun o => (elemGran g b o).any c.poison.contains

/-- A read of bench elements that meets a poisoned granule makes the micro-batch doubtful (R268, R302). -/
def State.laneReads (s : State) (k g b : Nat) (offs : List Nat) : State :=
  if (s.core k).readsPoison g b offs then s.doubtCore k else s

/-- An element of a contiguous load, and its status (R212). -/
def Core.loadElem (c : Core) (g b o : Nat) : W32 × Nat :=
  if elemFits g b o then (c.benchElem g b o, 0) else (c.fillElem b, stRANGE)

/-- The bit offsets of the elements that an instruction accesses, for its active elements only. -/
def activeOffsets (act : List Bool) (offs : List Nat) : List Nat :=
  (List.zip act offs).filterMap fun e => if e.1 then some e.2 else none

/-- VLD (R212). -/
def laneLoad (s : State) (k : Nat) (i : VInstr) (failed : List Nat) : State :=
  let c := s.core k
  let g := (c.sreg i.va).toNat
  let b := fmtBits i.fmt
  let offs := (List.range i.count).map fun e => e * b
  let s := s.putElems k i failed (offs.map fun o => c.loadElem g b o)
  s.laneReads k g b (activeOffsets (i.active c) offs)

/-- Active elements that did not fail stored at their bit offsets, in ascending element order; those beyond the bench are not
stored and set RANGE (R212 to R214, R239). -/
def State.storeElems (s : State) (k g b : Nat) (failed : List Nat) (act : List Bool) (offs : List (Option Nat)) (vals : List W32) : State :=
  let act := act.zipIdx.map fun e => e.1 && !failed.contains e.2
  let items := (List.zip act (List.zip offs vals)).zipIdx
  let c := items.foldl (fun (c : Core) e =>
    if e.1.1 then
      match e.1.2.1 with
      | some o => if elemFits g b o then c.setBenchElem g b o e.1.2.2 else c
      | none => c
    else c) (s.core k)
  let fls := items.map fun e =>
    if e.1.1 then
      match e.1.2.1 with
      | some o => if elemFits g b o then 0 else stRANGE
      | none => stRANGE
    else 0
  (s.setCore k c).laneFlags k fls

/-- VST (R212). -/
def laneStore (s : State) (k : Nat) (i : VInstr) (failed : List Nat) : State :=
  let c := s.core k
  let b := fmtBits i.fmt
  s.storeElems k (c.sreg i.va).toNat b failed (i.active c) ((List.range i.count).map fun e => some (e * b)) (c.vlist i.va i.count)

/-- The bit offsets that an index vector names: none at or above the bound (R213). -/
def indexOffsets (b bound : Nat) (idx : List W32) : List (Option Nat) :=
  idx.map fun x => if x.toNat < bound then some (x.toNat * b) else none

/-- VGATHER (R213). -/
def laneGather (s : State) (k : Nat) (i : VInstr) (failed : List Nat) : State :=
  let c := s.core k
  let g := (c.sreg i.va).toNat
  let b := fmtBits i.fmt
  let offs := indexOffsets b (c.sreg i.vc).toNat (i.bElems c)
  let s := s.putElems k i failed (offs.map fun o => match o with
    | some o => c.loadElem g b o
    | none => (c.fillElem b, stRANGE))
  s.laneReads k g b ((List.zip (i.active c) offs).filterMap fun e => if e.1 then e.2 else none)

/-- VSCATTER (R213, R214). -/
def laneScatter (s : State) (k : Nat) (i : VInstr) (failed : List Nat) : State :=
  let c := s.core k
  let b := fmtBits i.fmt
  s.storeElems k (c.sreg i.va).toNat b failed (i.active c) (indexOffsets b (c.sreg i.vc).toNat (i.bElems c)) (c.vlist i.va i.count)

/-- One element added into its target (R214). -/
def addInto (fmt : Nat) (old v : W32) : W32 × Nat :=
  if fmt = 0x9 then addF32 old v
  else let (r, sat) := addI32 old v; (r, if sat then stSAT else 0)

/-- VSCATADD (R213, R214): every active element added into its target in ascending element order. -/
def laneScatAdd (s : State) (k : Nat) (i : VInstr) (failed : List Nat) : State :=
  let c := s.core k
  let g := (c.sreg i.va).toNat
  let offs := indexOffsets 32 (c.sreg i.vc).toNat (i.bElems c)
  let items := (List.zip (i.active c) (List.zip offs (c.vlist i.va i.count))).zipIdx
  let (c', fls) := items.foldl (fun (acc : Core × List Nat) e =>
    let (c, fls) := acc
    if e.1.1 && !failed.contains e.2 then
      match e.1.2.1 with
      | some o =>
        if elemFits g 32 o then
          let (r, fl) := addInto i.fmt (c.benchElem g 32 o) e.1.2.2
          (c.setBenchElem g 32 o r, fl :: fls)
        else (c, stRANGE :: fls)
      | none => (c, stRANGE :: fls)
    else (c, 0 :: fls)) (c, [])
  let s := s.laneReads k g 32 ((List.zip (i.active c) offs).filterMap fun e => if e.1 then e.2 else none)
  (s.setCore k { (s.core k) with bench := c'.bench, poison := c'.poison, homes := c'.homes }).laneFlags k fls.reverse

/-- For each element, how many active elements come before it. -/
def activeRanks : List Bool → Nat → List Nat
  | [], _ => []
  | a :: as, n => n :: activeRanks as (if a then n + 1 else n)

/-- VLDX (R215): the k-th active element takes packed element k. -/
def laneLoadExpand (s : State) (k : Nat) (i : VInstr) (failed : List Nat) : State :=
  let c := s.core k
  let g := (c.sreg i.va).toNat
  let b := fmtBits i.fmt
  let offs := (activeRanks (i.active c) 0).map fun r => r * b
  let s := s.putElems k i failed (offs.map fun o => c.loadElem g b o)
  s.laneReads k g b (activeOffsets (i.active c) offs)

/-- VSTC (R215): the active elements stored as consecutive packed elements. -/
def laneStoreCompress (s : State) (k : Nat) (i : VInstr) (failed : List Nat) : State :=
  let c := s.core k
  let b := fmtBits i.fmt
  s.storeElems k (c.sreg i.va).toNat b failed (i.active c) ((activeRanks (i.active c) 0).map fun r => some (r * b))
    (c.vlist i.va i.count)

/-- VLDM: MD loaded from COUNT bits (R205); bits beyond the bench take FILL's low bit and set RANGE (assumption 10). -/
def laneLoadMask (s : State) (k : Nat) (i : VInstr) (failed : List Nat) : State :=
  let c := s.core k
  let g := (c.sreg i.va).toNat
  let offs := List.range i.count
  let act := i.active c
  let res := offs.map fun o => c.loadElem g 1 o
  let s := s.putBits k i failed (res.map fun e => bitAt e.1 0)
  let s := s.laneReads k g 1 (activeOffsets act offs)
  s.laneFlags k (activeFlags failed act (res.map fun e => e.2))

/-- VSTM: MA stored to COUNT bits (R205). -/
def laneStoreMask (s : State) (k : Nat) (i : VInstr) (failed : List Nat) : State :=
  let c := s.core k
  s.storeElems k (c.sreg i.va).toNat 1 failed (i.active c) ((List.range i.count).map some)
    ((c.mlist i.va i.count).map fun b => if b then 1#32 else 0#32)

/-- VPERM (R216): VD[i] ← VA[VB[i]]; an index at or above COUNT gives FILL and sets RANGE. -/
def lanePermute (s : State) (k : Nat) (i : VInstr) (failed : List Nat) : State :=
  let c := s.core k
  s.putElems k i failed ((i.bElems c).map fun x =>
    if x.toNat < i.count then (c.velem i.va x.toNat, 0) else (c.fillElem (fmtBits i.fmt), stRANGE))

/-- The elements of a list at the active places, in order. -/
def activeOnly {α : Type} (act : List Bool) (es : List α) : List α :=
  (List.zip act es).filterMap fun e => if e.1 then some e.2 else none

/-- VCOMPRESS (R216): the active elements of VA at positions 0, 1, 2 and so on, every other position below COUNT +0. -/
def laneCompress (s : State) (k : Nat) (i : VInstr) (failed : List Nat) : State :=
  let c := s.core k
  let es := activeOnly (i.active c) ((c.vlist i.va i.count).zipIdx)
  let new := (List.zip (c.vlist i.vd es.length) es).map fun e => if failed.contains e.2.2 then e.1 else e.2.1
  s.setCore k (c.putV i.vd (new ++ List.replicate (i.count - es.length) 0#32))

/-- VEXPAND (R216): the inverse: the k-th active element of VD takes element k of VA. -/
def laneExpand (s : State) (k : Nat) (i : VInstr) (failed : List Nat) : State :=
  let c := s.core k
  s.putElems k i failed ((activeRanks (i.active c) 0).map fun r => (c.velem i.va r, 0))

/-- LPLOAD (R205, R232): COUNT instruction words into the lane program store from entry SB on; an entry at or above 4,096
is not written and sets RANGE. -/
def laneProgLoad (s : State) (k : Nat) (i : VInstr) (failed : List Nat) : State :=
  let c := s.core k
  let g := (c.sreg i.va).toNat
  let first := (c.sreg i.vb).toNat
  let act := (i.active c).zipIdx.map fun e => e.1 && !failed.contains e.2
  let items := (List.range i.count).map fun e => (first + e, c.loadElem g 32 (e * 32))
  let store := (List.zip act items).foldl (fun m e =>
    if e.1 && decide (e.2.1 < 4096) then spSet zeroW m e.2.1 e.2.2.1 else m) c.lstore
  let s := s.setCore k { c with lstore := store }
  let s := s.laneReads k g 32 (activeOffsets act ((List.range i.count).map fun e => e * 32))
  s.laneFlags k ((List.zip act items).map fun e =>
    if e.1 then e.2.2.2 ||| (if e.2.1 < 4096 then 0 else stRANGE) else 0)

/-! Lane programs (R232 to R234). -/

/-- The scalar form of an arithmetic or transcendental instruction on words of a format (R224 to R226). -/
def laneArithOp (op : Config.LaneArith) (fmt : Nat) (a b c : W32) : W32 × Nat :=
  match op with
  | .add => opAdd.apply fmt a b c
  | .sub => opSub.apply fmt a b c
  | .mul => opMul.apply fmt a b c
  | .fma => opFma.apply fmt a b c
  | .div => opDiv.apply fmt a b c
  | .max => opMax.apply fmt a b c
  | .min => opMin.apply fmt a b c
  | .abs => opAbs.apply fmt a b c
  | .neg => opNeg.apply fmt a b c
  | .addw => (a + b, 0)
  | .and => (a &&& b, 0)
  | .or => (a ||| b, 0)
  | .xor => (a ^^^ b, 0)
  | .exp2 => opExp2.apply fmt a b c
  | .log2 => opLog2.apply fmt a b c
  | .rcp => opRcp.apply fmt a b c
  | .rsqrt => opRsqrt.apply fmt a b c

/-- An element's run of a lane program (R232): the core as it stands, the bench as LPROG found it, the stores that are held
back (element, address, value; oldest first), how many of them are the element's own, the core cycles that it has run, the
status that it has set, whether it has read a poisoned granule, and the next instruction; none once it has ended. -/
structure LaneThread where
  core   : Core
  bench  : Mem
  held   : List (Nat × Nat × W64)
  own    : Nat
  cycles : Nat
  fl     : Nat
  poison : Bool
  pc     : Option Nat
deriving Repr

/-- L`n` of element `e`'s lane; L0 reads the element's index (R201). -/
def LaneThread.lreg (t : LaneThread) (e : Nat) (n : Fin 32) : W32 :=
  if n = 0 then BitVec.ofNat 32 e else spGet zeroW t.core.lregs (32 * (e % 64) + n)
/-- A write to L`n`; one to L0 changes nothing (R201). -/
def LaneThread.setLreg (t : LaneThread) (e : Nat) (n : Fin 32) (v : W32) : LaneThread :=
  if n = 0 then t else { t with core := { t.core with lregs := spSet zeroW t.core.lregs (32 * (e % 64) + n) v } }
/-- Status bits that the element sets. -/
def LaneThread.flag (t : LaneThread) (fl : Nat) : LaneThread := { t with fl := t.fl ||| fl }

/-- The bench as element `e`'s lane sees it (R233): as LPROG found it, with the lane's own earlier stores. -/
def LaneThread.seen (t : LaneThread) (e : Nat) : Mem :=
  (t.held.filter fun h => h.1 % 64 == e % 64).foldl (fun m h => m.writeNat h.2.1 8 h.2.2.toNat) t.bench

/-- Eight bytes at a bench address lie within the bench. -/
def laneFits (a : Nat) : Bool := decide (a + 8 ≤ benchGrans * 32)

/-- One instruction of a lane program for element `e`. A load beyond the bench gives FILL twice, a store beyond it or after
the 256th of the element is dropped, and each sets RANGE (R212, R233, assumption 9). -/
def LaneThread.exec (t : LaneThread) (e : Nat) (i : Config.LaneInstr) : LaneThread :=
  let x := t.lreg e
  let next (t : LaneThread) : LaneThread := { t with pc := t.pc.map (· + 1) }
  match i with
  | .arith op fmt d a b c =>
    let (v, fl) := laneArithOp op fmt (x a) (x b) (x c)
    next ((t.setLreg e d v).flag fl)
  | .convert scaled src dst sr d a sc =>
    let byte := fld (x sc) 0 8
    let s16 := src.val = 0xE || dst.val = 0xE
    let stoch := sr && srTarget dst
    let (g, draw) := genDraw (t.core.gen (e % 64))
    let t := if stoch then { t with core := t.core.setGen (e % 64) g } else t
    let v := cvtSource src byte (x a)
    let v := if scaled && !s16 then (match e8m0 byte with | some q => v.scale (-q) | none => .nan) else v
    let (w, fl, word) := cvtTarget dst byte v (if stoch then some draw else none)
    let t := (t.setLreg e d w).flag fl
    next (if dst.val = 0xE then t.setLreg e sc (tileWordCombine (x sc) word) else t)
  | .scaleByte dst h d a => next (t.setLreg e d (BitVec.ofNat 32 (scaleB (x a) dst h)))
  | .const d v => next (t.setLreg e d v)
  | .readV d v => next (t.setLreg e d (t.core.velem v e))
  | .writeV v a => next { t with core := { t.core with vregs := spSet zeroW t.core.vregs (v.val * 8192 + e) (x a) } }
  | .load d a =>
    let n := (x a).toNat
    if laneFits n then
      let w := (t.seen e).readNat n 8
      let t := { t with poison := t.poison || t.core.poison.any fun p => decide (n / 32 ≤ p ∧ p ≤ (n + 7) / 32) }
      next ((t.setLreg e d (BitVec.ofNat 32 w)).setLreg e (d + 1) (BitVec.ofNat 32 (w >>> 32)))
    else next (((t.setLreg e d t.core.fill).setLreg e (d + 1) t.core.fill).flag stRANGE)
  | .store a v =>
    let n := (x a).toNat
    if laneFits n && decide (t.own < 256) then
      next { t with held := t.held ++ [(e, n, BitVec.ofNat 64 ((x v).toNat + ((x (v + 1)).toNat <<< 32)))], own := t.own + 1 }
    else next (t.flag stRANGE)
  | .branch cmp fmt a b target => if compareElems fmt cmp (x a) (x b) then { t with pc := some target.val } else next t
  | .stop => { t with pc := none }

/-- An element's run: it ends at its program's end, at the end of the store, or when it has run 65,536 core cycles (R234); each
instruction takes at least one. -/
def LaneThread.run (e : Nat) : Nat → LaneThread → LaneThread
  | 0, t => t
  | fuel + 1, t =>
    match t.pc with
    | some p =>
      if 4096 ≤ p then { t with pc := none }
      else if 65536 ≤ t.cycles then t
      else
        let w := spGet zeroW t.core.lstore p
        LaneThread.run e fuel ({ t with cycles := t.cycles + max 1 (Config.laneCycles w) }.exec e (Config.laneDecode w))
    | none => t

/-- One element of a lane program: it starts at `start`; the words of the vector registers and the stores of one that has failed
are not written (R239), and one that has run to the limit waits for its TIMEOUT. -/
def laneElem (start : Nat) (failed : List Nat) (acc : LaneThread × List (Nat × Nat)) (e : Nat) : LaneThread × List (Nat × Nat) :=
  let (t0, used) := acc
  let t := LaneThread.run e 65537 { t0 with own := 0, cycles := 0, pc := some start, fl := 0 }
  let bad := failed.contains e
  let c := t.core.laneOr (e % 64) t.fl
  let c := if bad then { c with vregs := t0.core.vregs } else c
  let c := if t.pc.isSome then { c with overdue := c.overdue ++ [e] } else c
  ({ t with core := c, held := if bad then t0.held else t.held, fl := t0.fl ||| t.fl }, used ++ [(e % 64, t.cycles)])

/-- A held-back store applied (R233). -/
def Core.laneStore8 (c : Core) (a : Nat) (v : W64) : Core :=
  let c := c.unhome (a / 32) ((a % 32 + 39) / 32)
  { c with bench := c.bench.writeNat a 8 v.toNat, poison := c.poison.filter fun p => decide (p < a / 32 ∨ (a + 7) / 32 < p) }

/-- The issue cycles of a lane program: until the last lane finishes (R235). -/
def laneProgCycles (used : List (Nat × Nat)) : Nat :=
  ((List.range 64).map fun j => ((used.filter fun u => u.1 == j).map (·.2)).foldl (· + ·) 0).foldl max 1

/-- LPROG (R232 to R235): the program at store index SA runs for each active element, and the held-back stores are applied in
ascending element order when it completes. -/
def laneProgram (s : State) (k : Nat) (i : VInstr) (failed : List Nat) : State :=
  let c := s.core k
  let elems := activeOnly (i.active c) (List.range i.count)
  let t0 : LaneThread := { core := c, bench := c.bench, held := [], own := 0, cycles := 0, fl := 0, poison := false, pc := none }
  let (t, used) := elems.foldl (laneElem (c.sreg i.va).toNat failed) (t0, [])
  let s := s.setCore k (t.held.foldl (fun c h => c.laneStore8 h.2.1 h.2.2) t.core)
  let s := if t.poison then s.doubtCore k else s
  (s.orReg (REGION_LANE_STATUS (regionOfPhys k)) t.fl).event k 0x09 (laneProgCycles used)

/-- LANE_PROGRAM_TIMEOUT (R234): an element that has run 65,536 cycles is ended: TIMEOUT, and its event. -/
def execLaneProgramTimeout (core : Fin 7680) (elem : Nat) (s : State) : Out :=
  let k := s.phys core
  if (s.core k).overdue.contains elem then
    let s := s.modCore k fun c => { (c.laneOr (elem % 64) stTIMEOUT) with overdue := c.overdue.erase elem }
    .next ((s.orReg (REGION_LANE_STATUS (regionOfPhys k)) stTIMEOUT).event k 0x0C 1)
  else .next s

end Sys2Proof.Machine
end

