-- ==== Sys2Proof/Machine/LaneRows.lean ====
section
/-! DEFINITION. Reductions, scans and the FP32 row operations of the lanes (R218 to R222, R228 to R231). -/

namespace Sys2Proof.Machine

/-- A value under reduction: its word in the working format and the index of the element that it comes from. -/
abbrev RedVal := W32 × Nat

/-- A reduction's working format: INT32 for the integer formats, FP32 for the others (R206). -/
def redIsInt (fmt : Nat) : Bool := fmt == 0xB || fmt == 0xA

/-- An element widened exactly to FP32 or INT32 (R206); a NaN becomes canonical (R154). -/
def widen (fmt : Nat) (e : W32) : W32 :=
  match floatOf fmt with
  | some f => toF32 (f.decode e.toNat)
  | none => BitVec.ofInt 32 (sext ((intWidth fmt).getD 32) e.toNat)

/-- Whether `a` ranks above `b` for an argmax (R221): a NaN above every other value, the lower index between equals or
between two NaNs. -/
def argAbove (isInt wantMax : Bool) (a b : RedVal) : Bool :=
  if isInt then
    if a.1 = b.1 then decide (a.2 < b.2)
    else if wantMax then decide (b.1.toInt < a.1.toInt) else decide (a.1.toInt < b.1.toInt)
  else
    let x := f32 a.1
    let y := f32 b.1
    if x.isNan && y.isNan then decide (a.2 < b.2)
    else if x.isNan then true
    else if y.isNan then false
    else if x.eqv y then decide (a.2 < b.2)
    else if wantMax then y.lt x else x.lt y

/-- One combination of two values (R218, R219): rounds once, or saturates; its status. -/
def redCombine (isInt : Bool) (op : Nat) (a b : RedVal) : RedVal × Nat :=
  let keep (r : W32 × Nat) : RedVal × Nat := ((r.1, a.2), r.2)
  let isat (v : Int) : RedVal × Nat :=
    let (v, sat) := clampInt 32 v
    ((BitVec.ofInt 32 v, a.2), if sat then stSAT else 0)
  let nanFl (w : W32) : Nat := if (f32 w).isNan then stNAN else 0
  match op with
  | 0 => if isInt then isat (a.1.toInt + b.1.toInt) else keep (addF32 a.1 b.1)
  | 1 => if isInt then isat (a.1.toInt * b.1.toInt) else keep (mulF32 a.1 b.1)
  | 2 => if isInt then isat (max a.1.toInt b.1.toInt) else let m := maxF32 a.1 b.1; ((m, a.2), nanFl m)
  | 3 => if isInt then isat (min a.1.toInt b.1.toInt) else let m := minF32 a.1 b.1; ((m, a.2), nanFl m)
  | 4 => (if argAbove isInt true a b then a else b, 0)
  | _ => (if argAbove isInt false a b then a else b, 0)

/-- An empty operand passes the other through unchanged (R219). -/
def redOpt (isInt : Bool) (op : Nat) : Option RedVal → Option RedVal → Option RedVal × Nat
  | none, b => (b, 0)
  | a, none => (a, 0)
  | some a, some b => let (r, fl) := redCombine isInt op a b; (some r, fl)

/-- A list of nodes combined pairwise: nodes 2n and 2n + 1 (R219). -/
def pairUp (isInt : Bool) (op : Nat) : List (Option RedVal) → List (Option RedVal) × Nat
  | a :: b :: rest =>
    let (r, fl) := redOpt isInt op a b
    let (rs, fl') := pairUp isInt op rest
    (r :: rs, fl ||| fl')
  | [a] => ([a], 0)
  | [] => ([], 0)

/-- The levels of the tree over 64 values: the values, then each level above them (R219). -/
def treeLevels (isInt : Bool) (op : Nat) (xs : List (Option RedVal)) : Nat → List (List (Option RedVal)) × Nat
  | 0 => ([xs], 0)
  | n + 1 =>
    let (ys, fl) := pairUp isInt op xs
    let (rest, fl') := treeLevels isInt op ys n
    (xs :: rest, fl ||| fl')

/-- The root of the six-level tree. -/
def treeTotal (isInt : Bool) (op : Nat) (xs : List (Option RedVal)) : Option RedVal × Nat :=
  let (ls, fl) := treeLevels isInt op xs 6
  ((ls.getD 6 []).headD none, fl)

/-- A list of up to 64 values, filled with empties. -/
def pad64 (xs : List (Option RedVal)) : List (Option RedVal) := xs ++ List.replicate (64 - xs.length) none

/-- Each lane's active elements combined in ascending element order, with the status that each lane sets (R219, R223); `rows` are
the groups of 64. -/
def laneStep (isInt : Bool) (op : Nat) (rows : List (List (Option RedVal))) : List (Option RedVal) × List Nat :=
  rows.foldl (fun acc row =>
    let prs := List.zipWith (redOpt isInt op) acc.1 (pad64 row)
    (prs.map fun p => p.1, List.zipWith (· ||| ·) acc.2 (prs.map fun p => p.2))) (List.replicate 64 none, List.replicate 64 0)

/-- A FULL reduction (R219), with each lane's status; the tree's goes to lane 0 (assumption 10). -/
def redFull (isInt : Bool) (op : Nat) (xs : List (Option RedVal)) : Option RedVal × List Nat :=
  let (lanes, fls) := laneStep isInt op (chunks 64 (xs.length / 64 + 1) xs)
  let (r, fl) := treeTotal isInt op lanes
  (r, match fls with | a :: as => (a ||| fl) :: as | [] => [fl])

/-- The identity of an operation (R220). -/
def redIdentity (isInt : Bool) (op : Nat) : RedVal :=
  match op with
  | 0 => (0#32, 0)
  | 1 => (if isInt then 1#32 else 0x3F800000#32, 0)
  | 2 => (if isInt then 0x80000000#32 else 0xFF800000#32, 0)
  | 3 => (if isInt then 0x7FFFFFFF#32 else 0x7F800000#32, 0)
  | _ => (0#32, 0xFFFFFFFF)

/-- The word that a result is: its value, or the winning index of an argmax or argmin. -/
def redWord (op : Nat) (v : RedVal) : W32 := if op = 4 ∨ op = 5 then BitVec.ofNat 32 v.2 else v.1

/-- A result written to VD in FMT (R218). -/
def redNarrow (fmt op : Nat) (v : RedVal) : W32 × Nat :=
  if op = 4 ∨ op = 5 then (redWord op v, 0)
  else match floatOf fmt with
    | some f => let (r, fl) := f.arith (f32 v.1); (BitVec.ofNat 32 r, fl)
    | none =>
      let w := (intWidth fmt).getD 32
      let (x, sat) := clampInt w v.1.toInt
      (BitVec.ofNat 32 (toTwos w x), if sat then stSAT else 0)

/-- The active elements of VA below COUNT, widened, with their indices; empties where inactive. -/
def redInputs (c : Core) (i : VInstr) : List (Option RedVal) :=
  (List.zip (i.active c) (c.vlist i.va i.count)).zipIdx.map fun e =>
    if e.1.1 then some (widen i.fmt e.1.2, e.2) else none

/-- Status bits in lane 0, the root of the tree (assumption 10), and in the region's register. -/
def State.rootFlags (s : State) (k fl : Nat) : State := if fl = 0 then s else s.laneFlags k [fl]

/-- NAN of a result that is a NaN (R223); an index is none. -/
def redNan (isInt : Bool) (op : Nat) (v : RedVal) : Nat := if !isInt && decide (op < 4) && (f32 v.1).isNan then stNAN else 0

/-- Results written from element 0 of VD on, each in its lane; a missing one is the identity and sets EMPTY (R220). -/
def State.putResults (s : State) (k : Nat) (i : VInstr) (op : Nat) (failed : List Nat) (rs : List (Option RedVal)) : State :=
  let isInt := redIsInt i.fmt
  let c := s.core k
  let olds := c.vlist i.vd rs.length
  let out := (List.zip olds rs).zipIdx.map fun e =>
    if failed.contains e.2 then (e.1.1, 0)
    else match e.1.2 with
      | some v => let (w, fl) := redNarrow i.fmt op v; (w, fl ||| redNan isInt op v)
      | none => let (w, fl) := redNarrow i.fmt op (redIdentity isInt op); (w, fl ||| stEMPTY)
  (s.setCore k (c.putV i.vd (out.map fun e => e.1))).laneFlags k (out.map fun e => e.2)

/-- VRED (R218 to R221). When an element of a FULL reduction fails its recomputation, the S registers stay as they are
(assumption 10). -/
def laneReduce (s : State) (k : Nat) (i : VInstr) (failed : List Nat) : State :=
  let c := s.core k
  let isInt := redIsInt i.fmt
  let op := i.aux % 8
  let xs := redInputs c i
  let groups := chunks 64 (i.count / 64 + 1) xs
  match i.aux / 16 % 4 with
  | 0 =>
    let (r, fls) := redFull isInt op xs
    let nan := match r with
      | some v => redNan isInt op v
      | none => stEMPTY
    let v := r.getD (redIdentity isInt op)
    let s := if failed.isEmpty then s.modCore k fun c => c.setSreg i.vd (redWord op v) else s
    (s.laneFlags k fls).rootFlags k nan
  | 1 =>
    if i.count = 0 then s.rootFlags k stEMPTY
    else
      let rs := groups.map fun g => treeTotal isInt op (pad64 g)
      (s.putResults k i op (failed.map (· / 64)) (rs.map fun r => r.1)).rootFlags k (orAll (rs.map fun r => r.2))
  | _ =>
    if i.count = 0 then s.rootFlags k stEMPTY
    else
      let (rs, fls) := laneStep isInt op groups
      (s.putResults k i op (failed.map (· % 64)) rs).laneFlags k fls

/-- The combination of the first `len` values of a group, by the tree nodes that cover them, largest first (R222);
`levels` are the tree's levels, `bit` counts the node sizes still to try, `from_` is where the next node starts. -/
def prefixNodes (isInt : Bool) (op : Nat) (levels : List (List (Option RedVal))) (len : Nat) :
    Nat → Nat → Option RedVal → Nat → Option RedVal × Nat
  | 0, _, acc, fl => (acc, fl)
  | b + 1, from_, acc, fl =>
    if nfld len b 1 = 1 then
      let node := (levels.getD b []).getD (from_ / 2 ^ b) none
      let (acc, fl') := redOpt isInt op acc node
      prefixNodes isInt op levels len b (from_ + 2 ^ b) acc (fl ||| fl')
    else prefixNodes isInt op levels len b from_ acc fl

/-- The prefixes of one group of 64 after a carry, and the carry after the group (R222). -/
def scanGroup (isInt excl : Bool) (op : Nat) (carry : Option RedVal) (g : List (Option RedVal)) :
    List (Option RedVal × Nat) × Option RedVal × Nat :=
  let (levels, fl) := treeLevels isInt op (pad64 g) 6
  let ys := (List.range g.length).map fun j =>
    let (p, fl1) := prefixNodes isInt op levels (if excl then j else j + 1) 7 0 none 0
    let (y, fl2) := redOpt isInt op carry p
    (y, fl1 ||| fl2)
  let (carry', fl') := redOpt isInt op carry ((levels.getD 6 []).headD none)
  (ys, carry', fl ||| fl')

/-- All groups of a scan (R222): each element's prefix with the status of its own combinations, and the status of the tree
nodes and carries. -/
def scanAll (isInt excl : Bool) (op : Nat) : Option RedVal → List (List (Option RedVal)) → List (Option RedVal × Nat) × Nat
  | _, [] => ([], 0)
  | carry, g :: gs =>
    let (ys, carry', fl) := scanGroup isInt excl op carry g
    let (rest, fl') := scanAll isInt excl op carry' gs
    (ys ++ rest, fl ||| fl')

/-- VSCAN (R222). -/
def laneScan (s : State) (k : Nat) (i : VInstr) (failed : List Nat) : State :=
  let c := s.core k
  let isInt := redIsInt i.fmt
  let op := i.aux % 8
  let xs := redInputs c i
  if xs.all Option.isNone then s.rootFlags k stEMPTY
  else
    let (ys, fl) := scanAll isInt (i.aux / 8 % 2 = 1) op none (chunks 64 (i.count / 64 + 1) xs)
    let s := s.putElems k i failed (ys.map fun y =>
      let (w, fl) := redNarrow i.fmt op (y.1.getD (redIdentity isInt op))
      (w, fl ||| y.2 ||| (match y.1 with | some v => redNan isInt op v | none => 0)))
    s.rootFlags k fl

/-! The row operations. Each works on a row as a list in which an inactive element is empty. -/

/-- A row: each element's word where active. -/
abbrev LaneRow := List (Option W32)

/-- The FP32 row that an instruction reads from a list of words; a NaN becomes canonical (R154). -/
def rowOf (act : List Bool) (es : List W32) : LaneRow := (List.zip act es).map fun e => if e.1 then some (widen 0x9 e.2) else none

/-- One FP32 step on each active element, with the status each sets. -/
def rowMap (f : Nat → W32 → W32 × Nat) (r : LaneRow) (fls : List Nat) : LaneRow × List Nat :=
  let out := (List.zip r fls).zipIdx.map fun e => match e.1.1 with
    | some x => let (y, fl) := f e.2 x; (some y, e.1.2 ||| fl)
    | none => (none, e.1.2)
  (out.map fun e => e.1, out.map fun e => e.2)

/-- A FULL FP32 reduction of a row (R219). -/
def rowRed (op : Nat) (r : LaneRow) : W32 × List Nat :=
  let (v, fl) := redFull false op (r.zipIdx.map fun e => e.1.map fun w => (w, e.2))
  ((v.getD (redIdentity false op)).1, fl)

/-- The words of a row, zeros where empty. -/
def rowWords (r : LaneRow) : List W32 := r.map fun e => e.getD 0#32

/-- The number of active elements. -/
def rowCount (r : LaneRow) : Nat := (r.filter Option.isSome).length

/-- A row written to VD with its status. -/
def State.putRow (s : State) (k : Nat) (i : VInstr) (failed : List Nat) (r : LaneRow) (fls : List Nat) : State :=
  s.putElems k i failed (List.zip (rowWords r) fls)

/-- VNORM (R228). The status of its scalar steps and EMPTY go to lane 0 (assumption 10). -/
def laneNorm (s : State) (k : Nat) (i : VInstr) (failed : List Nat) : State :=
  let c := s.core k
  let x := rowOf (i.active c) (c.vlist i.va i.count)
  let g := i.bElems c
  let b := c.vlist i.vc i.count
  let eps := c.sreg (i.aux / 16 % 8)
  let n := rowCount x
  if n = 0 then s.rootFlags k stEMPTY
  else
    let (rn, f0) := rcpF32 (toF32 (FVal.ofInt n))
    let fl0 := x.map fun _ => 0
    let layer := i.aux % 2 = 1
    -- layer mode takes the mean first; rms mode works on the row itself
    let (mu, lf1, f1) := if layer then
        let (t, fa) := rowRed 0 x
        let (m, fb) := mulF32 t rn
        (m, fa, fb)
      else (0#32, [], 0)
    let (d, fl1) := if layer then rowMap (fun _ v => addF32 v (negF32 mu)) x fl0 else (x, fl0)
    let (sq, fl2) := rowMap (fun _ v => mulF32 v v) d fl1
    let (t, lf2) := rowRed 0 sq
    let (t, f3) := mulF32 t rn
    let (t, f4) := addF32 t eps
    let (r, f5) := rsqrtF32 t
    let (y, fl3) := rowMap (fun _ v => mulF32 v r) d fl2
    let (y, fl4) := rowMap (fun e v => if layer then fmaF32 v (g.getD e 0#32) (b.getD e 0#32) else mulF32 v (g.getD e 0#32)) y fl3
    let s := s.putRow k i failed y fl4
    let s := if failed.isEmpty then
        s.modCore k fun c => let c := c.setSreg 0 r; if layer then c.setSreg 1 mu else c
      else s
    ((s.laneFlags k lf1).laneFlags k lf2).rootFlags k (f0 ||| f1 ||| f3 ||| f4 ||| f5)

/-- log2 e (R229). -/
def log2e : W32 := 0x3FB8AA3B#32
/-- ln 2 (R230). -/
def ln2 : W32 := 0x3F317218#32

/-- exp2((z − m) × L) of each element of a row (R229, R230). -/
def rowExp (z : LaneRow) (m : W32) (fls : List Nat) : LaneRow × List Nat :=
  rowMap (fun _ v =>
    let (a, f1) := addF32 v (negF32 m)
    let (b, f2) := mulF32 a log2e
    let (e, f3) := exp2F32 b
    (e, f1 ||| f2 ||| f3)) z fls

/-- −infinity as an FP32 word. -/
def negInf : W32 := 0xFF800000#32

/-- VSOFTMAX (R229). The status of its scalar steps and EMPTY go to lane 0 (assumption 10). -/
def laneSoftmax (s : State) (k : Nat) (i : VInstr) (failed : List Nat) : State :=
  let c := s.core k
  let x := rowOf (i.active c) (c.vlist i.va i.count)
  let cc := c.sreg (i.aux / 16 % 8)
  let (z, fl1) := rowMap (fun _ v => mulF32 v cc) x (x.map fun _ => 0)
  let (m, lf1) := rowRed 2 z
  let scalars (m t : W32) (s : State) : State :=
    if failed.isEmpty then s.modCore k fun c => (c.setSreg 0 m).setSreg 1 t else s
  if rowCount x = 0 then (scalars negInf 0#32 s).rootFlags k stEMPTY
  else if m = negInf then
    let s := s.putRow k i failed (x.map fun e => e.map fun _ => 0#32) fl1
    ((scalars m 0#32 s).laneFlags k lf1).rootFlags k stEMPTY
  else
    let (t, fl2) := rowExp z m fl1
    let (sum, lf2) := rowRed 0 t
    let (rs, f3) := rcpF32 sum
    let full := i.aux % 2 = 0
    let (y, fl3) := if full then rowMap (fun _ v => mulF32 v rs) t fl2 else (t, fl2)
    let s := s.putRow k i failed y fl3
    (((scalars m sum s).laneFlags k lf1).laneFlags k lf2).rootFlags k (if full then f3 else 0)

/-- VLOSS (R230). The status of its scalar steps and EMPTY go to lane 0 (assumption 10). -/
def laneLoss (s : State) (k : Nat) (i : VInstr) (failed : List Nat) : State :=
  let c := s.core k
  let x := rowOf (i.active c) (c.vlist i.va i.count)
  let t := (c.sreg (i.aux / 16 % 8)).toNat
  let grad := i.aux % 2 = 1
  let scalars (a b : W32) (s : State) : State :=
    if failed.isEmpty then s.modCore k fun c => (c.setSreg 0 a).setSreg 1 b else s
  let ignored (fl : Nat) : State :=
    let s := if grad then s.putRow k i failed (x.map fun e => e.map fun _ => 0#32) (x.map fun _ => 0) else s
    (scalars 0#32 0#32 s).rootFlags k fl
  let none_ := t = 0xFFFFFFFF
  if rowCount x = 0 then ignored (stEMPTY ||| (if none_ then 0 else stRANGE))
  else if none_ then ignored 0
  else if i.count ≤ t ∨ (x.getD t none).isNone then ignored stRANGE
  else
    let (m, lf1) := rowRed 2 x
    let (e, fl1) := rowExp x m (x.map fun _ => 0)
    let (sum, lf2) := rowRed 0 e
    let (l, f3) := log2F32 sum
    let (l, f4) := fmaF32 l ln2 m
    let (loss, f5) := addF32 l (negF32 ((x.getD t none).getD 0#32))
    let (rs, f6) := rcpF32 sum
    let (g, fl2) := rowMap (fun j v =>
      let (a, fa) := mulF32 v rs
      let (b, fb) := addF32 a (if j = t then 0xBF800000#32 else 0x80000000#32)
      (b, fa ||| fb)) e fl1
    let s := if grad then s.putRow k i failed g fl2 else s.laneFlags k fl1
    (((scalars loss 1#32 s).laneFlags k lf1).laneFlags k lf2).rootFlags k (f3 ||| f4 ||| f5 ||| (if grad then f6 else 0))

/-- The largest finite magnitude of a row, as ⌊log2 A⌋; none where no element is both finite and not zero (R175). -/
def rowIlog (r : LaneRow) : Option Int :=
  r.foldl (fun acc e => match e with
    | some w => match (f32 w).ilog with
      | some l => some (match acc with | some a => max a l | none => l)
      | none => acc
    | none => acc) none

/-- VRESADD (R231). The status of its scalar steps and EMPTY go to lane 0 (assumption 10). -/
def laneResAdd (s : State) (k : Nat) (i : VInstr) (failed : List Nat) : State :=
  let c := s.core k
  let act := i.active c
  let a := rowOf act (c.vlist i.va i.count)
  let b := i.bElems c
  if rowCount a = 0 then (if failed.isEmpty then s.modCore k fun c => c.setSreg 0 0#32 else s).rootFlags k stEMPTY
  else
    let (sum, fl1) := rowMap (fun e v => addF32 v (widen i.fmt (b.getD e 0#32))) a (a.map fun _ => 0)
    let byte := scaleByte (rowIlog sum) 8 0
    let (c, draws) := if i.sr then takeDraws c act 0 else (c, List.replicate i.count 0)
    let q := (List.zip sum draws).map fun e => match e.1 with
      | some w =>
        let (r, fl) := e4m3.convert ((f32 w).scale (127 - (byte : Int))) (if i.sr then some e.2 else none)
        (BitVec.ofNat 32 r, fl)
      | none => (0#32, 0)
    let s := (s.setCore k c).putRow k i failed sum fl1
    let s := s.putElems k { i with vd := i.vc } failed q
    if failed.isEmpty then s.modCore k fun c => c.setSreg 0 (BitVec.ofNat 32 byte) else s

end Sys2Proof.Machine
end

