-- ==== Sys2Proof/Machine/Sparse.lean ====
section
/-! DEFINITION. The tile encoder (R252 to R256). -/

namespace Sys2Proof.Machine

/-- The fields of an encoder command (R253). -/
structure EncCommand where
  src   : Nat
  dst   : Nat
  dense : Bool
  sreg  : Nat
  resv  : Nat
deriving DecidableEq, Repr

def EncCommand.ofWord (w : W64) : EncCommand where
  src := fld w 0 16
  dst := fld w 16 16
  dense := bitAt w 32
  sreg := fld w 33 3
  resv := fld w 36 28

/-- Whether a raw element of a format is zero: +0 or −0 of the format, or integer 0 (R243). -/
def rawZero (fmt e : Nat) : Bool :=
  match floatOf fmt with
  | some f => e % 2 ^ (f.ebits + f.mbits) = 0
  | none => e = 0

/-- The elements of a dense-stored tile as stored, unmarked blocks included (R254). -/
def denseElems (m : Mem) (a : Nat) (h : TileHdr) : List (List Nat) :=
  chunks 64 64 (unpackElems m ((a + h.headGrans) * 32) (fmtBits h.fmt) 4096)

/-- The 64 elements of block `b`, row by row. -/
def blockElems (rows : List (List Nat)) (b : Nat) : List Nat :=
  (((rows.drop (8 * (b / 8))).take 8).map fun row => (row.drop (8 * (b % 8))).take 8).flatten

/-- The element bitmap of a block (R247). -/
def blockMap (fmt : Nat) (es : List Nat) : Nat :=
  es.zipIdx.foldl (fun x e => x + bitN (!rawZero fmt e.1) e.2) 0

/-- The header of a tile with the counts that its elements give, and with it the element bitmaps of its marked blocks and
its present values (R243, R247, R254). -/
def encodeTile (h : TileHdr) (rows : List (List Nat)) (ff forceDense : Bool) : TileHdr × List Nat × List Nat :=
  let bls := (List.range 64).map fun b => blockElems rows b
  let maps := bls.map (blockMap h.fmt)
  let blocks := maps.zipIdx.foldl (fun x e => x + bitN (e.1 != 0) e.2) 0
  let live := maps.filter fun m => m != 0
  let nnz := (live.map fun m => popCount m 64).foldl (· + ·) 0
  let h : TileHdr := { h with blocks := blocks, nblk := live.length, nnz := nnz }
  let sparse := h.fmt ≤ 8 && !ff && !forceDense && decide (h.sparseGrans < h.denseGrans)
  let h : TileHdr := { h with dense := !sparse, total := if sparse then h.sparseGrans else h.denseGrans }
  (h, live, (bls.flatten).filter fun e => !rawZero h.fmt e)

/-- The stored tile as a number of `TOTAL` granules: header, MX scales, element bitmaps and values (R246). In dense storage the
elements of a marked block keep the source's bits, a −0 its sign (assumption 57). -/
def storedTile (h : TileHdr) (mx : Nat) (maps vals : List Nat) (rows : List (List Nat)) : Nat :=
  let b := fmtBits h.fmt
  let head := h.toNat + (if h.scale = 2 then mx <<< 256 else 0)
  if h.dense then head + (packElems b rows.flatten <<< (256 * h.headGrans))
  else head + (packElems 64 maps <<< (256 * h.headGrans)) +
    (packElems b vals <<< (256 * (h.headGrans + (h.nblk + 3) / 4)))

/-- The result word of an encoder command (R254). -/
def encResult (h : TileHdr) : W32 := BitVec.ofNat 32 (h.total + (h.nblk <<< 16) + bitN h.dense 24)

/-- An illegal encoder command (R254). -/
def State.illegalEnc (s : State) (k : Nat) : State :=
  (s.orReg (REGION_SPARSE_STATUS (regionOfPhys k)) 0x4).doubtCore k

/-- The bench granules that an encoder command reads: its dense tile (R254). -/
def Core.encodeReads (c : Core) (w : W64) : List (Nat × Nat) :=
  let e := EncCommand.ofWord w
  [(e.src, max 1 (TileHdr.ofNat (c.bench.readNat (e.src * 32) 32)).denseGrans)]

/-- An encoder command on physical core `k` (R252 to R254). -/
def State.encode (s : State) (k : Nat) (e : EncCommand) : State :=
  let c := s.core k
  let h := TileHdr.ofNat (c.bench.readNat (e.src * 32) 32)
  if e.resv ≠ 0 || !h.fieldsOk || !h.dense || e.src + h.denseGrans > benchGrans then s.illegalEnc k
  else
    let rows := denseElems c.bench e.src h
    let (h', maps, vals) := encodeTile h rows (tileHasFF c.bench e.src h) e.dense
    if e.dst + h'.total > benchGrans then s.illegalEnc k
    else
      let mx := c.bench.readNat ((e.src + 1) * 32) 128
      let s := if c.lasting || c.poisoned e.src h.denseGrans then s.doubtCore k else s
      s.modCore k fun c =>
        (c.writeBench e.dst (leBytes (32 * h'.total) (storedTile h' mx maps vals rows))).setSreg e.sreg (encResult h')

/-- An encoder command once it is issued. -/
def State.runEncoder (s : State) (k : Nat) (w : W64) : State := ((s.issued k).event k 0x0D 1).encode k (EncCommand.ofWord w)

/-- ENCODER_COMMAND (R204, R254, R255). -/
def execEncoderCommand (core : Fin 7680) (w : W64) (s : State) : Out :=
  let k := s.phys core
  .next (s.issue k (.encoder w) ((s.core k).encodeReads w) fun s => s.runEncoder k w)

end Sys2Proof.Machine
end

