-- ==== Sys2Proof/Machine/Ledger.lean ====
section
/-! DEFINITION. The ledger (R353 to R363): directory records, ledger tiles, the optimiser parameter block, the ledger update
unit's arithmetic, the narrow copies (R177, R256), the norm (R359), and the scale ledger's entries (R180 to R187). -/

namespace Sys2Proof.Machine

/-- A record of 256 bits with its CRC-32 in [255:224] over the bits below. -/
def sealRec (v : Nat) : Nat := v % 2 ^ 224 + (crc32 28 v <<< 224)
def recGood (v : Nat) : Bool := nfld v 224 32 == crc32 28 v

/-! The directory (R354). -/

/-- A directory record. -/
structure DirRec where
  wide    : Bool
  fp4     : Bool
  orient  : Bool
  frozen  : Bool
  pgroup  : Nat
  lcrate  : Nat
  ntensor : Nat
  ntile   : Nat
  good    : Bool
deriving DecidableEq, Repr

def dirRec (v : Nat) : DirRec :=
  ⟨nfld v 0 1 == 1, nfld v 1 1 == 1, nfld v 2 1 == 1, nfld v 3 1 == 1, nfld v 8 8, nfld v 16 32, nfld v 96 32, nfld v 128 32,
   recGood v && nfld v 4 4 == 0 && nfld v 48 48 == 0 && nfld v 160 64 == 0⟩

/-- The tensor address of a tile's directory record. -/
def State.dirAddr (s : State) (c t : Nat) : Nat := (s.reg (STREAM_LEDGER_DIR c)).toNat * 65536 + 32 * t
def State.dir (s : State) (c t : Nat) : DirRec := dirRec (s.tensorNat c (s.dirAddr c t) 32)
/-- The ledger tiles of a context. -/
def State.tiles (s : State) (c : Nat) : Nat := s.regFld (STREAM_LEDGER_TILES c) 0 25
/-- The gradient mode: FP32 compatibility (R336). -/
def State.gmode (s : State) (c : Nat) : Bool := s.regBit (STREAM_LEDGER_CONTROL c) 0

/-! Ledger tiles (R353). -/

/-- A ledger entry: its master and moments as FP32 words, and its step tag. -/
structure LEntry where
  master : W32
  m1     : W32
  m2     : W32
  tag    : Nat
deriving DecidableEq, Repr

/-- The bytes of a ledger tile. -/
def tileSize (wide : Bool) : Nat := if wide then 53248 else 32768
/-- Where a ledger tile lies: two standard tiles to a crate, one wide tile (R353). -/
def DirRec.addr (d : DirRec) (t : Nat) : Nat := d.lcrate * 65536 + (if d.wide then 0 else 32768 * (t % 2))

def decodeEntry (wide : Bool) (v : Nat) : LEntry :=
  if wide then ⟨w32 (nfld v 0 32), w32 (nfld v 32 32), w32 (nfld v 64 32), nfld v 96 8⟩
  else ⟨w32 ((nfld v 0 16 <<< 16) + (nfld v 16 8 <<< 8)), w32 (nfld v 24 16 <<< 16), w32 (nfld v 40 16 <<< 16), nfld v 56 8⟩

/-- The 24 bits of a BF16 and CB8 pair (R163, R164). -/
def pairBits (w : W32) : Nat :=
  match f32 w with
  | .nan => 0x7FC000
  | v => let raw := (bf16cb8.arith v).1
    if v.isInf then raw
    else if raw % 2 ^ 23 > bf16cb8.maxRaw then bf16cb8.signed v.isNeg bf16cb8.maxRaw
    else raw

/-- An FP32 word rounded to BF16. -/
def bf16Bits (w : W32) : Nat := (bf16.arith (f32 w)).1

def encodeEntry (wide : Bool) (e : LEntry) : Nat :=
  if wide then e.master.toNat + (e.m1.toNat <<< 32) + (e.m2.toNat <<< 64) + (e.tag <<< 96)
  else
    let p := pairBits e.master
    (p >>> 8) + ((p % 256) <<< 16) + (bf16Bits e.m1 <<< 24) + (bf16Bits e.m2 <<< 40) + (e.tag <<< 56)

/-- The bytes of an entry. -/
def entrySize (wide : Bool) : Nat := if wide then 13 else 8

def decodeTile (wide : Bool) (bs : List Byte) : List LEntry :=
  (chunks (entrySize wide) 4096 bs).map fun b => decodeEntry wide (leNat b)
def encodeLedger (wide : Bool) (es : List LEntry) : List Byte :=
  es.flatMap fun e => leBytes (entrySize wide) (encodeEntry wide e)

/-- The entries of a ledger tile. -/
def State.ledgerTile (s : State) (c t : Nat) : List LEntry :=
  let d := s.dir c t
  decodeTile d.wide (s.tensorRead c (d.addr t) (tileSize d.wide))

/-- Every entry of a ledger tile carries a tag. -/
def State.tileTagged (s : State) (c t tag : Nat) : Bool := (s.ledgerTile c t).all fun e => e.tag == tag % 256
/-- Every entry of the ledger carries a tag. -/
def State.allTagged (s : State) (c tag : Nat) : Bool := (List.range (s.tiles c)).all fun t => s.tileTagged c t tag

/-- The read of a ledger tile ends: its crate is retired, lost, or holds a poisoned granule (R302, R303). -/
def State.tileLost (s : State) (c t : Nat) : Bool :=
  let d := s.dir c t
  s.crateRetired c d.lcrate || s.placeBad (meplace (s.entry c d.lcrate)) (d.addr t % 65536 / 32) (tileSize d.wide / 32)

/-! The optimiser parameter block (R357). -/

/-- A group record. -/
structure OptGroup where
  opt  : Nat
  useq : Nat
  resv : Bool
  vals : List W32
deriving DecidableEq, Repr

/-- Number `i` of the record's FP32 values: 0 LR, 1 B1, 2 B2, 3 EPS, 4 WD, 5 CLIP, 6 BC1, 7 BC2, 8 to 14 P0 to P6. -/
def OptGroup.v (g : OptGroup) (i : Nat) : W32 := g.vals.getD i 0#32

def optGroup (v : Nat) : OptGroup :=
  ⟨nfld v 0 4, nfld v 4 4, nfld v 8 24 == 0, (List.range 15).map fun i => w32 (nfld v (32 * (i + 1)) 32)⟩

structure OptBlock where
  divisor : Nat
  normMax : W32
  groups  : List OptGroup
  good    : Bool
deriving DecidableEq, Repr

/-- The number of groups that a block's header names. -/
def optGroups (h : Nat) : Nat := nfld h 0 9

def optBlock (bs : List Byte) : OptBlock :=
  let h := leNat (bs.take 32)
  let n := optGroups h
  let gs := (chunks 64 n (bs.drop 32)).map fun b => optGroup (leNat b)
  ⟨nfld h 9 2, w32 (nfld h 32 32), gs,
   decide (1 ≤ n ∧ n ≤ 256) && nfld h 9 2 != 3 && nfld h 11 21 == 0 && nfld h 64 192 == 0 &&
     gs.all fun g => decide (g.opt ≤ 4) && g.resv && (g.opt == 4 || g.useq == 0)⟩

/-- The bytes of the block at a tensor address. -/
def State.optBytes (s : State) (c a : Nat) : List Byte :=
  s.tensorRead c a (32 + 64 * min 256 (optGroups (s.tensorNat c a 32)))

/-! Arithmetic of the update (R358, R360): every operation is FP32 and rounds to nearest even. -/

def fAdd (a b : W32) : W32 := (addF32 a b).1
def fSub (a b : W32) : W32 := (addF32 a (negF32 b)).1
def fMul (a b : W32) : W32 := (mulF32 a b).1
def fDiv (a b : W32) : W32 := (divF32 a b).1
def fOne : W32 := 0x3F800000#32
/-- The sign of a number: ±1, and a zero as it is. -/
def fSign (a : W32) : W32 :=
  match f32 a with
  | .nan => f32Nan
  | v => if v.isZero then a else if v.isNeg then 0xBF800000#32 else fOne

/-- SGD with momentum, or with Nesterov momentum. -/
def sgd (nesterov : Bool) (p : OptGroup) (g : W32) (e : LEntry) : LEntry :=
  let g1 := fAdd g (fMul (p.v 4) e.master)
  let m1 := fAdd (fMul (p.v 1) e.m1) g1
  let step := if nesterov then fAdd g1 (fMul (p.v 1) m1) else m1
  { e with master := fSub e.master (fMul (p.v 0) step), m1 := m1, m2 := 0#32 }

def adamw (p : OptGroup) (g : W32) (e : LEntry) : LEntry :=
  let m1 := fAdd (fMul (p.v 1) e.m1) (fMul (fSub fOne (p.v 1)) g)
  let m2 := fAdd (fMul (p.v 2) e.m2) (fMul (fMul (fSub fOne (p.v 2)) g) g)
  let den := fAdd (sqrtF32 (fMul m2 (p.v 7))).1 (p.v 3)
  let upd := fAdd (fDiv (fMul m1 (p.v 6)) den) (fMul (p.v 4) e.master)
  { e with master := fSub e.master (fMul (p.v 0) upd), m1 := m1, m2 := m2 }

def lion (p : OptGroup) (g : W32) (e : LEntry) : LEntry :=
  let u := fSign (fAdd (fMul (p.v 1) e.m1) (fMul (fSub fOne (p.v 1)) g))
  { e with master := fSub e.master (fMul (p.v 0) (fAdd u (fMul (p.v 4) e.master)))
           m1 := fAdd (fMul (p.v 2) e.m1) (fMul (fSub fOne (p.v 2)) g), m2 := 0#32 }

/-- One operation of a micro-sequence. -/
def useqOp (op : Nat) (a b c : W32) : W32 :=
  match op with
  | 0x01 => fAdd a b
  | 0x02 => fSub a b
  | 0x03 => fMul a b
  | 0x04 => (fmaF32 a b c).1
  | 0x05 => fDiv a b
  | 0x06 => maxF32 a b
  | 0x07 => minF32 a b
  | 0x08 => if (f32 a).isNan then f32Nan else a &&& 0x7FFFFFFF#32
  | 0x09 => negF32 a
  | 0x0A => fSign a
  | 0x0B => (sqrtF32 a).1
  | 0x0C => (rsqrtF32 a).1
  | 0x0D => (exp2F32 a).1
  | 0x0E => (log2F32 a).1
  | _ => let v := f32 c; if !v.isNan && (v.isZero || !v.isNeg) then a else b

/-- Run a micro-sequence over its registers. -/
def runUseq : List W32 → List W32 → List W32
  | [], rs => rs
  | w :: ws, rs =>
    if fld w 0 5 = 0 then rs else
    let r (i : Nat) : W32 := rs.getD i 0#32
    runUseq ws (modAt rs (fld w 5 5) fun _ => useqOp (fld w 0 5) (r (fld w 10 5)) (r (fld w 15 5)) (r (fld w 20 5)))

/-- Micro-sequence USEQ on one entry. -/
def microSeq (code : List W32) (p : OptGroup) (g : W32) (e : LEntry) : LEntry :=
  let rs := [g, e.master, e.m1, e.m2, p.v 0, p.v 1, p.v 2, p.v 3, p.v 4] ++ (List.range 7).map (fun i => p.v (8 + i)) ++
    List.replicate 16 0#32
  let rs := runUseq (code.take 64) rs
  { e with master := rs.getD 1 0#32, m1 := rs.getD 2 0#32, m2 := rs.getD 3 0#32 }

/-- The element bound on g. -/
def clipG (p : OptGroup) (g : W32) : W32 :=
  if (f32 (p.v 5)).isZero then g else minF32 (maxF32 g (negF32 (p.v 5))) (p.v 5)

/-- One entry under a group's optimiser, before rounding (R358, R360); `gscale` is the global scale. -/
def updateEntry (useqs : List (List W32)) (p : OptGroup) (gscale g : W32) (e : LEntry) : LEntry :=
  let g := clipG p (fMul g gscale)
  match p.opt with
  | 0 => sgd false p g e
  | 1 => sgd true p g e
  | 2 => adamw p g e
  | 3 => lion p g e
  | _ => microSeq (useqs.getD p.useq []) p g e

/-- An entry as it is written and read back: rounded to its form. -/
def asWritten (wide : Bool) (e : LEntry) : LEntry := decodeEntry wide (encodeEntry wide e)

/-! Sealed tiles (R348, R349). -/

def swSHIFT (w : W256) : Nat := fld w 32 6
def swTAG (w : W256) : Nat := fld w 40 8
def swMBS (w : W256) : Nat := fld w 48 24
def swTOKENS (w : W256) : Nat := fld w 72 48
def swTERMS (w : W256) : Nat := fld w 120 32
def swEMPTY (w : W256) : Bool := bitAt w 152
def swWord (w : W256) : W32 := w32 (fld w 0 32)

/-- A sealed word (R349). -/
def sealedWord (word : W32) (shift tag mbs tokens terms : Nat) (empty : Bool) : W256 :=
  BitVec.ofNat 256 (sealRec (word.toNat + (shift <<< 32) + ((tag % 256) <<< 40) + ((mbs % 2 ^ 24) <<< 48) + ((tokens % 2 ^ 48) <<< 72)
    + ((terms % 2 ^ 32) <<< 120) + bitN empty 152))

/-- D (R357). -/
def divisorOf (b : OptBlock) (w : W256) : Nat := if b.divisor = 0 then swTOKENS w else if b.divisor = 1 then swMBS w else 1

/-- The gradient element g of a sealed tile (R348), with one rounding; in FP32 mode the sealed value over D. An S16 tile whose
exponent byte is 0xFF holds no numbers (R159). -/
def gradOf (fp : Bool) (d : Nat) (w : W256) (m : Int) : W32 :=
  let v : FVal := if fp then f32 (BitVec.ofInt 32 m)
    else if fld (swWord w) 0 8 = 0xFF then .nan
    else (FVal.ofInt m).scale ((swSHIFT w : Int) + fld (swWord w) 0 8 - 142)
  (stickyF32 (v.div (FVal.ofInt d))).1

/-- An FP32-mode sealed tile holds a non-finite element (R352). -/
def sealedNonfinite (q : Sealed) : Bool := q.elems.any fun m => let v := f32 (BitVec.ofInt 32 m); v.isNan || v.isInf

def Ctx.sealedTile (x : Ctx) (t : Nat) : Option Sealed := spGet (fun _ => none) x.sealed t

/-- The 4,096 elements of a sealed tile; a NULL tile's are zero. -/
def sealedElems (q : Sealed) : List Int := q.elems ++ List.replicate (4096 - q.elems.length) 0

/-! Narrow copies (R175, R177, R247, R256). -/

/-- The narrow tile of 4,096 masters: its MX scale bytes, its elements row by row, in E4M3 or E2M1. -/
def narrowTile (fp4 orient : Bool) (ms : List FVal) : List Nat × List Nat :=
  let fmt := if fp4 then e2m1 else e4m3
  let code := if fp4 then 4 else 0
  let at_ (line pos : Nat) : Nat := if orient then pos * 64 + line else line * 64 + pos
  let arr := ms.toArray
  let v (i : Nat) : FVal := arr.getD i FVal.zero
  let scaleOf (b : Nat) : Nat :=
    let es := (List.range 32).map fun j => v (at_ (b / 2) (b % 2 * 32 + j))
    if fp4 && es.any FVal.isNan then 0xFF else
    let lg := es.foldl (fun (m : Option Int) e => match m, e.ilog with
      | some a, some b => some (max a b)
      | none, b => b
      | a, none => a) none
    scaleByte lg ((emaxOf code).getD 0) 0
  let scales := (List.range 128).map scaleOf
  let sa := scales.toArray
  let elems := (List.range 4096).map fun i =>
    let line := if orient then i % 64 else i / 64
    let pos := if orient then i / 64 else i % 64
    let b := sa.getD (2 * line + pos / 32) 0
    if b = 0xFF then 0 else (fmt.convert ((v i).scale (127 - (b : Int))) none).1
  (scales, elems)

/-- The stored narrow tile, dense (R256), as bytes. -/
def narrowBytes (fp4 orient : Bool) (ms : List FVal) : List Byte :=
  let (scales, elems) := narrowTile fp4 orient ms
  let fmt := if fp4 then 4 else 0
  let rows := chunks 64 64 elems
  let h : TileHdr := { TileHdr.ofNat 0 with fmt := fmt, dense := true, orient := orient, scale := 2 }
  let (h, _, _) := encodeTile h rows false true
  leBytes (32 * h.total) (storedTile h (packElems 8 scales) [] [] rows)

/-- A tensor header (R284). -/
structure TensorHdr where
  fmt   : Nat
  fixed : Bool
  all   : Bool
  scale : Nat
  tiles : Nat
  npres : Nat
  tileG : Nat
  data  : Nat
  good  : Bool
deriving DecidableEq, Repr

def tensorHdr (v : Nat) : TensorHdr :=
  ⟨nfld v 0 4, nfld v 4 1 == 1, nfld v 5 1 == 1, nfld v 6 2, nfld v 16 16 * nfld v 32 16, nfld v 48 32, nfld v 80 10, nfld v 96 40,
   recGood v && nfld v 8 8 == 0 && nfld v 90 6 == 0 && nfld v 136 88 == 0 && !(nfld v 0 4 == 12 || nfld v 0 4 == 13 || nfld v 0 4 == 15)
     && nfld v 6 2 != 3 && decide (1 ≤ nfld v 16 16 ∧ 1 ≤ nfld v 32 16) &&
     (if nfld v 4 1 = 1 then decide (1 ≤ nfld v 80 10 ∧ nfld v 80 10 ≤ 513) else nfld v 80 10 == 0)⟩

/-- Present tiles of a tiled tensor below tile `n` (R285). -/
def State.presentBelow (s : State) (c base : Nat) (h : TensorHdr) (n : Nat) : Nat :=
  if h.all then n else popCount (s.tensorNat c (base + 32) ((n + 7) / 8)) n
def State.tilePresent (s : State) (c base : Nat) (h : TensorHdr) (n : Nat) : Bool :=
  decide (n < h.tiles) && (h.all || nfld (s.tensorNat c (base + 32 + n / 8) 1) (n % 8) 1 == 1)

/-- R286 for one tiled tensor. -/
def State.tensorGood (s : State) (c crate : Nat) : Bool :=
  let h := tensorHdr (s.tensorNat c (crate * 65536) 32)
  h.good && s.presentBelow c (crate * 65536) h h.tiles == h.npres

/-- The tensor address of tile `n` of a tensor (R285); none when the tile is absent. -/
def State.tileAddr (s : State) (c crate n : Nat) : Option Nat :=
  let base := crate * 65536
  let h := tensorHdr (s.tensorNat c base 32)
  if !s.tilePresent c base h n then none else
  let k := s.presentBelow c base h n
  if h.fixed then some (base + 32 * (h.data + k * h.tileG)) else
  let map := if h.all then 0 else (h.tiles + 255) / 256
  some (base + 32 * nfld (s.tensorNat c (base + 32 * (1 + map) + 8 * k) 8) 0 40)

/-- Regenerate the narrow copy of a ledger tile from its masters (R177, R256); a crate whose repair has failed is written into a
spare (R330). -/
def State.writeNarrow (s : State) (c : Nat) (d : DirRec) (es : List LEntry) : State :=
  match s.tileAddr c d.ntensor d.ntile with
  | some a => (s.tensorWrite c a (narrowBytes d.fp4 d.orient (es.map fun e => f32 e.master)) true).1
  | none => s

/-- Write a ledger tile. -/
def State.writeLedger (s : State) (c t : Nat) (d : DirRec) (es : List LEntry) : State :=
  (s.tensorWrite c (d.addr t) (encodeLedger d.wide es)).1

/-! The scale ledger (R180 to R187). -/

/-- An entry is intact: its CRC holds and its KIND is named (R185). -/
def scaleGood (e : W256) : Bool := recGood e.toNat && (fld e 144 4 == 1 || fld e 144 4 == 2)

/-- The scale-ledger entry that a read finds (R185): from the first copy, else from the second; and whether the second was
used. -/
def Ctx.scaleEntry (x : Ctx) (i : Nat) : Option (W256 × Bool) :=
  let a := spGet (fun _ => 0#256) x.scaleA i
  let b := spGet (fun _ => 0#256) x.scaleB i
  if scaleGood a then some (a, false) else if scaleGood b then some (b, true) else none

/-- A fresh entry of a kind (R180, R187). -/
def scaleFresh (kind : Nat) : W256 := BitVec.ofNat 256 (sealRec (2 ^ 128 - 1 + (kind <<< 144)))

def scaleSeal (e : W256) : W256 := BitVec.ofNat 256 (sealRec e.toNat)

/-- An entry put in both copies (R182). -/
def State.putScale (s : State) (c i : Nat) (e : W256) : State :=
  s.modCtx c fun x => { x with
    scaleKind := spSet (fun _ => 2) x.scaleKind i (fld e 144 4)
    scaleA := spSet (fun _ => 0#256) x.scaleA i (scaleSeal e), scaleB := spSet (fun _ => 0#256) x.scaleB i (scaleSeal e) }

/-- The scale-ledger entries of a context. -/
def State.scaleCount (s : State) (c : Nat) : Nat := (s.reg (CTX_SCALE_ENTRIES c)).toNat

/-- An entry with a step's observation recorded (R182, R195); 0xFF records none. -/
def scaleRecord (e : W256) (obs lastE tag : Nat) (skipped nonfinite : Bool) : W256 :=
  let head := fld e 128 4
  let e := if obs = 0xFF then e else
    setFld (setFld (setFld e (8 * head) 8 obs) 128 4 ((head + 1) % 16)) 132 5 (min 16 (fld e 132 5 + 1))
  setBit (setBit (setFld (setFld e 152 8 lastE) 160 8 tag) 168 skipped) 169 nonfinite

/-- The kind of an entry, lost ones included (R185). -/
def Ctx.kindOf (x : Ctx) (i : Nat) : Nat := spGet (fun _ => 2) x.scaleKind i

/-- The weight-gradient entry of a ledger tile: weight-gradient entries are taken in ascending index, one to each tile, since
the image states no binding (assumption 20). -/
def State.weightEntry (s : State) (c t : Nat) : Option Nat :=
  ((List.range (s.scaleCount c)).filter fun i => (s.ctx c).kindOf i == 2)[t]?

/-! The scaling recipes (R175, R176, R187 to R189, R194). -/

/-- emax and the headroom of an entry's kind: FP8 E5M2 with 1, S16 with 2. -/
def recipeOf (kind : Nat) : Int × Int := if kind = 1 then (15, 1) else (-1, 2)

/-- The scale byte that an observation gives under an entry's recipe. -/
def recipeByte (kind obs : Nat) : Nat := scaleOfObs obs (recipeOf kind).1 (recipeOf kind).2

/-- The largest finite observation among an entry's recorded steps. -/
def histMax (e : W256) : Nat :=
  (List.range (min 16 (fld e 132 5))).foldl (fun m i => obsMax m (fld e (8 * ((fld e 128 4 + 15 - i) % 16)) 8)) 0xFF

/-- The exponent byte that an entry gives its tile for the next step: the delayed recipe's, and after a sum that saturated at
least LAST_E + 2, within the range of E8M0; none while the entry is in rebuild, where the two-pass recipe decides. -/
def entryByte (e : W256) : Option Nat :=
  if fld e 132 5 < 16 then none else
  let b := recipeByte (fld e 144 4) (histMax e)
  some (if bitAt e 168 then max b (min 254 (fld e 152 8 + 2)) else b)

/-- The exponent bytes of a context's entries at a step's start. -/
def State.stepScales (s : State) (c : Nat) : List (Option Nat) :=
  (List.range (s.scaleCount c)).map fun i => ((s.ctx c).scaleEntry i).bind fun e => entryByte e.1

/-- The exponent byte of an entry in the step in progress. -/
def State.scaleByteOf (s : State) (c i : Nat) : Option Nat := ((s.ctx c).step.bind fun st => st.scales[i]?).bind id

/-- REBUILD_STEPS (R199). -/
def State.showRebuild (s : State) (c : Nat) : State :=
  let fills := (List.range (s.scaleCount c)).map fun i => match (s.ctx c).scaleEntry i with
    | some (e, _) => min 16 (fld e 132 5)
    | none => 0
  s.setRegFld (CTX_SCALE_STATUS c) 0 5 (16 - fills.foldl min 16)

/-- Record a tile's observation in its weight-gradient entry (R181, R182, R195). LAST_E is the sealed word's exponent; a tile of
which nothing was summed has the one that the step would have used. A lost entry records nothing (assumption 62). -/
def State.recordTile (s : State) (c t : Nat) (q : Sealed) : State :=
  if s.gmode c then s else
  match s.weightEntry c t with
  | none => s
  | some i => match (s.ctx c).scaleEntry i with
    | none => s
    | some (e, _) =>
      let w := swWord q.word
      let empty := swEMPTY q.word || swMBS q.word == 0
      s.putScale c i (scaleRecord e (if bitAt w 17 || empty then 0xFF else fld w 8 8)
        (if empty then (s.scaleByteOf c i).getD 0 else fld w 0 8) (s.tag c) (bitAt w 16) (bitAt w 17))

/-! The apply of one tile (R361 to R363). -/

/-- The divisor block of the step in progress. -/
def State.stepOpt (s : State) (c : Nat) : OptBlock :=
  match (s.ctx c).step with
  | some st => optBlock st.opt
  | none => optBlock []

/-- The new entries of a tile, with the ones that carry another tag left alone (R363). -/
def applyEntries (b : OptBlock) (useqs : List (List W32)) (fp : Bool) (gscale : W32) (d : DirRec) (q : Sealed) (tag : Nat)
    (es : List LEntry) : List LEntry :=
  let p := b.groups.getD d.pgroup ⟨0, 0, true, []⟩
  List.zipWith (fun e m => if e.tag ≠ tag then e else
    asWritten d.wide { updateEntry useqs p gscale (gradOf fp (divisorOf b q.word) q.word m) e with tag := (tag + 1) % 256 })
    es (sealedElems q)

/-- A new master or moment is NaN or infinite. -/
def badEntry (e : LEntry) : Bool := [e.master, e.m1, e.m2].any fun w => (f32 w).isNan || (f32 w).isInf

/-- A tile's tags advanced from `tag`, all else unchanged (R362). -/
def advanceTags (tag : Nat) (es : List LEntry) : List LEntry :=
  es.map fun e => if e.tag = tag then { e with tag := (tag + 1) % 256 } else e

/-- Apply one ledger tile from its sealed tile (R361 to R363). -/
def State.applyTile (s : State) (c t : Nat) (q : Sealed) (useqs : List (List W32)) (gscale : W32) : State :=
  let d := s.dir c t
  let es := s.ledgerTile c t
  let w := swWord q.word
  let fp := s.gmode c
  let tag := s.tag c
  let keep (s : State) : State := s.writeLedger c t d (advanceTags tag es)
  let s := s.recordTile c t q
  if bitAt w 16 then ((keep s).bump (CTX_SCALE_SKIP c) 1).orReg (CTX_SCALE_FLAGS c) 1
  else if bitAt w 17 || (fp && sealedNonfinite q) then ((keep s).bump (CTX_SCALE_NONFINITE c) 1).orReg (CTX_SCALE_FLAGS c) 2
  else if swEMPTY q.word || swMBS q.word == 0 || d.frozen then keep s
  else
    let new := applyEntries (s.stepOpt c) useqs fp gscale d q tag es
    if new.any badEntry then ((keep s).bump (STREAM_SKIPPED_TILES c) 1).orReg (STREAM_LEDGER_FLAGS c) 0x40
    else (s.writeLedger c t d new).writeNarrow c d new

/-! The norm (R359). -/

/-- A tile's sum of g², by the tree of R219. -/
def tileNorm (fp : Bool) (d : Nat) (q : Sealed) : W32 :=
  let sq := (sealedElems q).zipIdx.map fun e => let g := gradOf fp d q.word e.1; (some (fMul g g, e.2) : Option RedVal)
  match (redFull false 0 sq).1 with
  | some v => v.1
  | none => 0#32

/-- The sum over the context's ledger tiles, in ascending tile index. -/
def State.ownNorm (s : State) (c : Nat) : W32 :=
  let b := s.stepOpt c
  let sums := (List.range (s.tiles c)).filterMap fun t => ((s.ctx c).sealedTile t).map fun q =>
    tileNorm (s.gmode c) (divisorOf b q.word) q
  match sums with
  | [] => 0#32
  | a :: t => t.foldl fAdd a

/-- A list put in order by insertion. -/
def insertBy {α : Type} (le : α → α → Bool) (a : α) : List α → List α
  | [] => [a]
  | b :: t => if le a b then a :: b :: t else b :: insertBy le a t
def sortBy {α : Type} (le : α → α → Bool) (l : List α) : List α := l.foldr (insertBy le) []

/-- gscale from the modules' sums, which are added in ascending FIRST, and of equal ones in ascending module ID. -/
def gscaleOf (normMax : W32) (norms : List (Nat × Nat × W32)) : W32 :=
  let sorted := sortBy (fun a b => decide (a.2.1 < b.2.1 ∨ a.2.1 = b.2.1 ∧ a.1 ≤ b.1)) norms
  let total := match sorted.map (·.2.2) with
    | [] => 0#32
    | a :: t => t.foldl fAdd a
  minF32 fOne (fMul normMax (rsqrtF32 total).1)

end Sys2Proof.Machine
end

