-- ==== Sys2Proof/Machine/Sample.lean ====
section
/-! DEFINITION. Instruction sampling (R568 to R574) and the core programs' view of the counters (R575). -/

namespace Sys2Proof.Machine

/-! The sampling controls of a context (R577). -/

def State.sampleOn (s : State) (c : Nat) : Bool := s.effFld (PERF_CTX_SAMPLE c) 0 1 == 1
def State.sampleK (s : State) (c : Nat) : Nat := clampNat 8 20 (s.effFld (PERF_CTX_SAMPLE c) 8 5)
/-- Crates per core. -/
def State.sampleC (s : State) (c : Nat) : Nat := clampNat 1 16 (s.effFld (PERF_CTX_SAMPLE c) 16 4)

/-- The place of a logical core in the partition of its context (R573). -/
def State.coreIndex (s : State) (c l : Nat) : Nat := ((s.ctxRegions c).idxOf (l / 120)) * 120 + l % 120
/-- The first sample crate of a logical core. -/
def State.sampleCrate (s : State) (c l : Nat) : Nat := ((s.reg (PERF_CTX_SAMPLE_BASE c)).toNat + s.coreIndex c l * s.sampleC c) % 2 ^ 32

/-- Map the sample crates of every core of the step; the flag says that all of them fit (R573). -/
def State.mapSamples (s : State) (c : Nat) : State × Bool :=
  ((s.ctxRegions c).filter fun r => !s.isDark r).foldl (fun acc r => (List.range 120).foldl (fun acc i =>
    (List.range (s.sampleC c)).foldl (fun (acc : State × Bool) j =>
      let n := (s.sampleCrate c (r * 120 + i) + j) % 2 ^ 32
      if !acc.2 || meTier (acc.1.entry c n) != 0 then acc else
      let (t, code) := acc.1.mapCrate c n 1 r (i / 12) true true
      (t, code == 0)) acc) acc) (s, true)

/-- The start of a step with sampling enabled (R569, R573): the crates are mapped, and every core's generator is reseeded. When
the crates do not fit, none is mapped and the step runs without sampling. -/
def State.startSampling (s : State) (c : Nat) : State :=
  if !s.sampleOn c then s else
  let (t, fit) := s.mapSamples c
  if !fit then s.orReg (PERF_CTX_FLAGS c) 4 else
  let seed := s.eff (PERF_CTX_SEED c)
  let t := ((t.ctxRegions c).filter fun r => !t.isDark r).foldl (fun t r => (List.range 120).foldl (fun t i =>
    t.modCore (t.phys (r * 120 + i)) fun k => { k with sgen := Config.sampleSeed seed (r * 120 + i) }) t) t
  t.modStep c fun st => { st with sample := true }

/-- The context whose program a logical core runs. -/
def State.coreCtx (s : State) (l : Nat) : Option Nat :=
  match (s.region (l / 120)).owner with
  | some c => if (s.ctx c).step.isSome && !s.isDark (l / 120) then some c else none
  | none => none

/-- SAMPLE_TAG (R568): the countdown has reached 0, and the next issued instruction is tagged. -/
def execSampleTag (core : Fin 7680) (kind : Fin 5) (pc word : W32) (s : State) : Out :=
  let k := s.phys core
  match s.coreCtx core with
  | none => .next s
  | some c =>
    let x := s.core k
    if !((s.ctx c).step.any (·.sample)) || s.regBit PERF_STATUS 0 || x.countdown != 0 then .next s else
    let (at_, s) := s.coreCycle k
    let kk := s.sampleK c
    let r := Config.sampleNext x.sgen
    let t : SampleTagged := ⟨at_, kind.val, word, pc, x.mb, x.pos, x.pass, s.reg (CORE_PMC k 0), s.reg (CORE_PMC k 1)⟩
    .next ((s.modCore k fun x => { x with
      sgen := r, countdown := 2 ^ (kk - 1) + r.toNat % 2 ^ kk, tagged := x.tagged ++ [t] }).event k 0x19 1)

/-- A sample record (R571). -/
def State.sampleRecord (s : State) (c core k : Nat) (t : SampleTagged) (ready exec end_ : Nat)
    (handoff retried held gated : Bool) : W512 :=
  let cut (d : Nat) : Nat := min d 0xFFFF
  let sat := ready ≥ 0xFFFF || exec ≥ 0xFFFF || end_ ≥ 0xFFFF
  let n := t.issue + (cut ready <<< 64) + (cut exec <<< 80) + (cut end_ <<< 96) + (t.kind <<< 112)
    + bitN handoff 115 + bitN retried 116 + bitN held 117 + bitN gated 118 + bitN sat 119
    + (t.pc.toNat <<< 128) + (t.word.toNat <<< 160) + ((t.mb % 65536) <<< 192) + ((t.pos % 4096) <<< 208) + ((t.pass % 4) <<< 220)
    + (core <<< 224) + (k <<< 240) + (c <<< 256) + (s.tag c <<< 264) + ((s.reg (CORE_SAMPLE_SEQ k)).toNat <<< 288)
    + (t.pmc0.toNat <<< 320) + (t.pmc1.toNat <<< 352)
  BitVec.ofNat 512 (n + (crc32 60 n <<< 480))

/-- SAMPLE_RECORD_COMPLETE (R570 to R572): a cellar transfer ends at its hand-off. -/
def execSampleRecordComplete (core : Fin 7680) (which ready exec end_ : Nat) (handoff retried held gated : Bool) (s : State) : Out :=
  let k := s.phys core
  match s.coreCtx core, (s.core k).tagged[which]? with
  | some c, some t =>
    let rec_ := s.sampleRecord c core k t ready exec end_ (handoff || t.kind == 4) retried held gated
    let full := decide (4 ≤ (s.core k).records.length)
    let s := s.modCore k fun x => { x with
      tagged := x.tagged.eraseIdx which, records := if full then x.records else x.records ++ [rec_] }
    let s := s.bump (CORE_SAMPLE_SEQ k) 1
    .next (if full then
      (((s.bump (PERF_CTX_DROPS c) 1).orReg (PERF_CTX_FLAGS c) 2).orReg (CORE_PERF_STATUS k) 0x400).event k 0x1A 1 else s)
  | _, _ => .next s

/-- SAMPLE_RECORD_WRITE (R572, R574): the oldest record of the core's buffer goes to its sample crate. -/
def execSampleRecordWrite (core : Fin 7680) (s : State) : Out :=
  let k := s.phys core
  match s.coreCtx core, (s.core k).records with
  | some c, r :: rs =>
    let seq := fld r 288 32 % (1024 * s.sampleC c)
    let n := (s.sampleCrate c core + seq / 1024) % 2 ^ 32
    let s := s.modCore k fun x => { x with records := rs }
    .next (s.writeCrate c n (seq % 1024 * 64) (leBytes 64 r.toNat) 1 (core.val / 120) (core.val % 120 / 12) true true).1
  | _, _ => .next s

/-- RDPMC once it is issued (R575). -/
def State.runRdpmc (s : State) (core : Fin 7680) (index : Nat) (sreg : Fin 8) : State :=
  let k := s.phys core
  match s.coreCtx core with
  | none => s
  | some c =>
    let s := s.issued k
    let allowed := s.regBit (CTX_CONTROL c) 1
    let s := if allowed then s else (s.orReg (CORE_PERF_STATUS k) 0x200).orReg (PERF_CTX_FLAGS c) 1
    let s := if index ≤ 9 then s else s.orReg (CORE_PERF_STATUS k) 0x100
    let (v, s) :=
      if !allowed || decide (9 < index) then (0#32, s)
      else if index < 8 then (s.reg (CORE_PMC k index), s)
      else
        let (n, s) := s.coreCycle k
        (w32 (if index = 8 then n % 2 ^ 32 else n >>> 32), s)
    s.modCore k fun x => x.setSreg sreg v

/-- RDPMC (R575). -/
def execRdpmc (core : Fin 7680) (index : Nat) (sreg : Fin 8) (s : State) : Out :=
  .next (s.issue (s.phys core) (.rdpmc index sreg) [] fun s => s.runRdpmc core index sreg)

end Sys2Proof.Machine
end

