-- ==== Sys2Proof/Machine/Steps.lean ====
section
/-! DEFINITION. A training step (R18 to R31): its start (R455), the streaming of its weights (R310 to R334), the repair of
damaged weight crates (R327 to R331), and the ends of positions and slots. -/

namespace Sys2Proof.Machine

/-! The step's cores. -/

/-- Change every logical core's physical core in the context's regions that are not dark. -/
def State.eachCore (s : State) (c : Nat) (f : Nat → Core → Core) : State :=
  ((s.ctxRegions c).filter fun r => !s.isDark r).foldl (fun s r =>
    (List.range 120).foldl (fun s i => s.modCore (s.phys (r * 120 + i)) (f (r * 120 + i))) s) s

/-- Reseed the lane generators of the context's cores for a pass through a layer (R173). -/
def State.reseed (s : State) (c mb layer pass : Nat) : State :=
  match (s.ctx c).step with
  | none => s
  | some st => s.eachCore c fun l k => k.reseed st.seed mb layer pass l

/-! Positions and slots. In streaming mode the image states no map from positions to slots: the positions are dealt out in
order, the same number to each slot that is not a recompute slot (assumption 21). -/

/-- The slots that positions belong to in streaming mode. -/
def Program.passes (p : Program) : List (Nat × SlotRec) := (p.slots.zipIdx.filter fun e => e.1.pass != 2).map fun e => (e.2, e.1)
/-- Positions to a slot. -/
def Program.perSlot (p : Program) : Nat := max 1 (p.stream.npos / max 1 p.passes.length)
/-- The slot number of a position. -/
def Program.slotOf (p : Program) (q : Nat) : Nat :=
  match p.passes[min (q / p.perSlot) (p.passes.length - 1)]? with
  | some e => e.1
  | none => 0
/-- The layer index of a position within its pass, for R173: descending in a backward pass (R22). -/
def Program.layerOf (p : Program) (q : Nat) : Nat :=
  let i := q % p.perSlot
  if (p.slots.getD (p.slotOf q) default).pass = 1 then p.perSlot - 1 - i else i
/-- The last position of its slot. -/
def Program.lastOfSlot (p : Program) (q : Nat) : Bool := q + 1 == p.stream.npos || p.slotOf (q + 1) != p.slotOf q
/-- The first position of its slot. -/
def Program.firstOfSlot (p : Program) (q : Nat) : Bool := q == 0 || p.slotOf (q - 1) != p.slotOf q

/-- The phase of R31 for a pass: FORWARD, or BACKWARD (recompute belongs to the backward pass). -/
def passPhase (pass : Nat) : Nat := if pass = 0 then 2 else 3

/-! Start of a step (R455). -/

/-- The variant whose DARK is a set of dark regions (R406). -/
def Program.variantFor (p : Program) (dark : Nat) : Option Nat := (p.variants.zipIdx.find? fun e => e.1.dark == dark).map (·.2)

/-- The image as the context takes it: a relocatable image is taken for the context's one region (R455). -/
def State.placed (s : State) (c : Nat) (p : Program) : Option Program :=
  let rs := s.ctxRegions c
  if p.reloc then (match rs with | [r] => some (p.moveTo r) | _ => none)
  else if p.regions = maskOf rs then some p else none

/-- The job list is readable and names this module (R503). -/
def State.jobOk (s : State) (c : Nat) : Bool :=
  let n := s.regFld (CARAVAN_CTX_COUNT c) 0 18
  let base := (s.reg (CARAVAN_CTX_LIST c)).toNat
  (List.range ((4 * n + 65535) / 65536)).all (fun i => meTier (s.entry c (base + i)) != 0) && (s.jobList c).contains s.moduleId

/-- The directory of the context's ledger passes its check (R354): every record is intact and its ledger tile is mapped. -/
def State.directoryOk (s : State) (c : Nat) : Bool :=
  (List.range (s.tiles c)).all fun t => (s.dir c t).good && meTier (s.entry c (s.dir c t).lcrate) != 0

/-- The tiled tensors whose headers a STEP checks: those of the tensor table of the variant that it will use (R286, R406). -/
def State.tiledTensors (s : State) (c : Nat) (p : Program) : List TensorRec :=
  (p.variants.getD ((p.variantFor (maskOf (s.darkOf c))).getD 0) default).tensors.filter (·.tiled)

/-- The headers of the step's tiled tensors pass their check (R286). -/
def State.headersGood (s : State) (c : Nat) (d : Desc) : Bool :=
  match (spGet (fun _ => none) (s.ctx c).slots (d.f 64 2)).bind (s.placed c) with
  | some p => (s.tiledTensors c p).all fun t => s.tensorGood c t.first
  | none => true

/-- What the foreman reads for a STEP that has a program: tensor headers, directory, job list and parameter block. -/
def State.stepReads (s : State) (c : Nat) (d : Desc) : State :=
  match (spGet (fun _ => none) (s.ctx c).slots (d.f 64 2)).bind (s.placed c) with
  | some p =>
    let s := (s.tiledTensors c p).foldl (fun s t => s.foremanReads c (t.first * 65536) 32) s
    let s := s.foremanReads c (s.dirAddr c 0) (32 * s.tiles c)
    let s := s.foremanReads c ((s.reg (CARAVAN_CTX_LIST c)).toNat * 65536) (4 * s.regFld (CARAVAN_CTX_COUNT c) 0 18)
    s.foremanReads c (d.f 128 48) 32
  | none => s

/-- Whether a STEP is refused, and why (R21, R286, R319, R354, R357, R455, R503). -/
def State.stepRefusal (s : State) (c : Nat) (d : Desc) : Option Nat :=
  match spGet (fun _ => none) (s.ctx c).slots (d.f 64 2) with
  | none => some 0x05
  | some p0 =>
    if s.ctxRegions c = [] then some 0x0D else
    match s.placed c p0 with
    | none => some 0x02
    | some p =>
      if s.regFld (CTX_QUOTA_CELLAR c) 0 28 < p.cellar + 2 * ((p.scale + 2047) / 2048) ∨ s.regFld (CTX_QUOTA_STOCK c) 0 28 < p.stock
      then some 0x02 else
      if !(s.tiledTensors c p).all (fun t => s.tensorGood c t.first) then some 0x06
      else if !p.entries.all (fun e => meTier (s.entry c e.crate) != 0) || !s.directoryOk c || !s.jobOk c then some 0x06
      else
        let a := d.f 128 48
        let b := optBlock (s.optBytes c a)
        if a % 32 ≠ 0 ∨ b.good = false ∨ (List.range (s.tiles c)).any (fun t => decide (b.groups.length ≤ (s.dir c t).pgroup)) then
          some 0x07
        else none

/-- The bank that a segment loads into (R83). -/
def bankOf (n : Nat) (g : HopSeg) : Bank := ⟨n, g.period, g.entries, true⟩

def State.router (s : State) (n : Nat) : Router := spGet (fun _ => Router.reset) s.fabric.routers n
def State.setRouter (s : State) (n : Nat) (r : Router) : State :=
  s.modFabric fun b => { b with routers := spSet (fun _ => Router.reset) b.routers n r }

/-- Load a variant's first segments into the router banks (R31, R83, R406). -/
def State.loadHops (s : State) (c : Nat) (v : Variant) : State :=
  v.hops.foldl (fun s t => s.setRouter t.router { s.router t.router with
    live := false, load := bankOf 0 (t.segs.getD 0 ⟨1, []⟩), ctx := c }) s

/-- BOUND of the crates that the tensor table binds (R291). -/
def State.setBound (s : State) (c : Nat) (v : Variant) : State :=
  (v.tensors.filter (·.bound)).foldl (fun s t =>
    s.modCtx c fun x => { x with map := x.map.map fun e =>
      if t.first ≤ e.1 ∧ e.1 < t.first + t.crates then (e.1, setBit e.2 6 true) else e }) s

/-- The scale-ledger entries that are lost (R185); in FP32 mode there are no weight-gradient entries (R336). -/
def State.lostScales (s : State) (c : Nat) : List Nat :=
  (List.range (s.scaleCount c)).filter fun i =>
    ((s.ctx c).scaleEntry i).isNone && !(s.gmode c && (s.ctx c).kindOf i == 2)

/-- An entry was read from its second copy. -/
def State.secondScale (s : State) (c : Nat) : Bool :=
  (List.range (s.scaleCount c)).any fun i => match (s.ctx c).scaleEntry i with
    | some (_, b) => b
    | none => false

/-- Every micro-batch of the step becomes doubtful on this module. -/
def State.withholdAll (s : State) (c : Nat) : State :=
  match (s.ctx c).step with
  | none => s
  | some st => (List.range st.prog.tokens.length).foldl (fun s mb => s.withhold c mb 0x3F) s

/-- A FETCH frame to a module (R328, R368, R393, R413): what is asked for in [7:0], its number in [63:32], a piece in
[67:64] (assumption 16). -/
def State.sendFetch (s : State) (c m cls kind n piece : Nat) (for_ : FetchFor) : State :=
  let (xid, s) := s.newXid
  let s := s.modCaravan fun v => { v with fetches := v.fetches ++ [(⟨xid, c, for_⟩ : FetchOut)] }
  s.sendParts c m cls 0x22 none (BitVec.ofNat 256 (kind + (n <<< 32) + (piece <<< 64))) [[]] (some xid)

/-- What becomes of lost entries between steps (R185): an activation-gradient entry starts afresh at FILL 0, a weight-gradient
entry is asked for from the first peer of the replica list. -/
def State.mendScales (s : State) (c : Nat) : State :=
  let lost := s.lostScales c
  let s := if lost = [] then s else s.orReg (CTX_SCALE_FLAGS c) 8
  lost.foldl (fun s i =>
    if (s.ctx c).kindOf i = 1 then s.putScale c i (scaleFresh 1)
    else match s.replicas c with
      | [] => s
      | m :: _ =>
        if s.caravan.fetches.any fun f => f.ctx == c && f.for_ == .scale i then s else s.sendFetch c m 1 6 i 0 (.scale i)) s

/-- A peer's answer for a weight-gradient entry (R185). -/
def State.takeScale (s : State) (c i : Nat) (e : W256) : State :=
  if scaleGood e && fld e 144 4 == 2 && (s.lostScales c).contains i && decide (i < s.scaleCount c) then
    (s.putScale c i e).orReg (CTX_SCALE_FLAGS c) 0x10
  else s

/-- What the scale ledger's losses mean for a step that begins (R185, R191): when a weight-gradient entry is still lost, every
micro-batch is withheld, and the job is asked to rebuild. -/
def State.checkScales (s : State) (c : Nat) : State :=
  let s := if s.secondScale c then s.orReg (CTX_SCALE_FLAGS c) 4 else s
  let s := s.mendScales c
  if s.lostScales c = [] then s else
  ((s.withholdAll c).orReg (CTX_SCALE_FLAGS c) 0x28).modCtx c fun x => { x with askHist := true }

/-- Select the variant (R406): report a change, or suspend the context (R407). -/
def State.selectVariant (s : State) (c slot : Nat) (v : Option Nat) : State :=
  match v with
  | some n =>
    let s := if s.regFld (HEALTH_CTX_SCHED c) 0 7 = n then s else s.postEvent c 0x104 (w32 (n + (slot <<< 8))) 0#32 0#32
    ((s.setRegFld (HEALTH_CTX_SCHED c) 0 7 n).setRegFld (HEALTH_CTX_SCHED c) 8 1 0).modCtx c fun x => { x with missing := false }
  | none =>
    let s := if (s.ctx c).missing then s else
      let dark := maskOf (s.darkOf c)
      s.postEvent c 0x105 (w32 (slot <<< 8)) (w32 (dark % 2 ^ 32)) (w32 (dark >>> 32))
    (s.setRegFld (HEALTH_CTX_SCHED c) 8 1 1).modCtx c fun x => { x with missing := true }

/-- The passes are over, or take no part: the context enters SEALING (R31). -/
def State.enterSealing (s : State) (c : Nat) : State :=
  ((s.setPhase c 4).setRegFld (STREAM_LEDGER_STATUS c) 0 3 1).setRegFld (STREAM_LEDGER_STATUS c) 8 8 (s.tag c)

/-! Prefetch (R310 to R323, R333). -/

/-- The order in which the micro-batch table first uses the virtual stages (R333). -/
def Program.stageOrder (p : Program) : List Nat := (p.slots.map (·.vstage)).eraseDups

/-- The prefetch entries in fetch order, as places in the entry table (R321, R333). -/
def Program.fetchOrder (p : Program) : List Nat :=
  let of (q : Nat) : List Nat :=
    let mine := p.entries.zipIdx.filter fun e => e.1.pos == q
    ((mine.filter fun e => e.1.wave1) ++ mine.filter fun e => !e.1.wave1).map (·.2)
  (if p.stream.resident then p.stageOrder else List.range p.stream.npos).flatMap of

/-- Whether position `q` may be fetched now (R322); in resident-stage mode every stage may (R333). -/
def StepRun.mayFetch (st : StepRun) (q : Nat) : Bool :=
  st.prog.stream.resident ||
  (decide (q < (match st.pos with | some p => p + 1 | none => 0) + st.k) &&
   (decide (q ≤ st.prog.stream.kmax) || decide (q ≤ st.ended + st.prog.stream.kmax)))

/-- The entries whose fetch is due and not issued, in order. -/
def StepRun.dueFetches (st : StepRun) : List Nat :=
  st.prog.fetchOrder.filter fun i => !st.issued.contains i && st.mayFetch (st.prog.entries.getD i default).pos

/-- PREFETCH_FETCH (R321, R322): the foreman issues every fetch that is due. -/
def execPrefetchFetch (ctx : Fin 64) (s : State) : Out :=
  let c := ctx.val
  match (s.ctx c).step with
  | none => .next s
  | some st =>
    if st.variant.isNone ∨ 4 ≤ s.phase c ∨ ¬ s.foremanOn = true then .next s else
    let due := st.dueFetches
    let s := due.foldl (fun s i => s.countAccess c (st.prog.entries.getD i default).crate) s
    .next (s.modStep c fun st => { st with issued := st.issued ++ due })

/-- The bench granule at which an entry lands (R322, R333). -/
def Program.landAt (p : Program) (e : PfEntry) : Nat :=
  if p.stream.resident then p.stream.pbase + e.offset
  else p.stream.lbase + e.pos % (p.stream.kmax + 1) * p.stream.lsize + e.offset

/-- The entry cores of a delivery group in a region: one in each named row (R311, R316). -/
def DGroup.cores (g : DGroup) (r : Nat) : List Nat :=
  ((List.range 10).filter fun row => nfld g.rows row 1 == 1).map fun row => r * 120 + row * 12 + g.ecol

/-- Deliver a crate into a region's entry cores, with the granules of `bad` poisoned. -/
def State.deliver (s : State) (g : DGroup) (crate r at_ : Nat) (bs : List Byte) (bad : List Nat) : State :=
  (g.cores r).foldl (fun s l => s.modCore (s.phys l) fun k =>
    let k := (k.writeBench at_ bs).home at_ 2048 crate 0
    { k with poison := k.poison ++ bad.map (at_ + ·) }) s

/-- An entry lands in every serviceable region of its group; `failed` are the regions whose delivery failed (R313), `all`
poisons every granule (R330). -/
def State.land (s : State) (c i : Nat) (failed : List Nat) (all : Bool) : State :=
  match (s.ctx c).step with
  | none => s
  | some st =>
    let e := st.prog.entries.getD i default
    let g := st.prog.groups.getD e.group default
    let p := meplace (s.entry c e.crate)
    let whole := List.range 2048
    let bad := if all then whole else whole.filter fun n => s.placeBad p n 1
    let bs := if all then List.replicate 65536 0#8 else s.placeRead p 0 65536
    let rs := (markedRegions g.regions).filter fun r => !s.isDark r && (s.region r).owner == some c
    let s := rs.foldl (fun s r => s.deliver g e.crate r (st.prog.landAt e) bs (if failed.contains r then whole else bad)) s
    let s := if rs.any failed.contains then (s.orReg (STREAM_FLAGS c) 8).noteEnd c 5 else s
    s.modStep c fun st => { st with landed := insertNew i st.landed }

/-! Repairs (R327 to R331). -/

/-- The repairs in progress on the module. -/
def State.repairsOn (s : State) : Nat :=
  (List.range 64).foldl (fun t c => match (s.ctx c).step with
    | some st => t + (st.repairs.filter fun r => r.peer.isSome).length
    | none => t) 0

/-- REPAIRS of STREAM_STATUS. -/
def State.showRepairs (s : State) (c : Nat) : State :=
  match (s.ctx c).step with
  | some st => s.setRegFld (STREAM_STATUS c) 16 5 (st.repairs.filter fun r => r.peer.isSome).length
  | none => s.setRegFld (STREAM_STATUS c) 16 5 0

/-- The peer at a place of the replica list is asked for a crate; none is left when the list is at its end. -/
def State.askPeer (s : State) (c crate i : Nat) : Option State :=
  match (s.replicas c)[i]? with
  | none => none
  | some m =>
    let s := s.modStep c fun st => { st with repairs := st.repairs.map fun r => if r.crate = crate then { r with peer := some i } else r }
    some ((s.sendFetch c m 2 0 crate 0 (.repair crate)).showRepairs c)

/-- The repair that has waited longest starts when fewer than sixteen are in progress (R331). -/
def State.nextRepair (s : State) : State :=
  if 16 ≤ s.repairsOn then s else
  let waiting : List (Nat × Repair) := (List.range 64).flatMap fun c => match (s.ctx c).step with
    | some st => (st.repairs.filter fun r => r.peer.isNone).map fun r => (c, r)
    | none => []
  match waiting with
  | [] => s
  | w :: ws =>
    let f := ws.foldl (fun (a b : Nat × Repair) => if b.2.seq < a.2.seq then b else a) w
    (s.askPeer f.1 f.2.crate 0).getD s

/-- A repair ends; the crate is no longer under repair. -/
def State.dropRepair (s : State) (c crate : Nat) : State :=
  let s := s.modStep c fun st => { st with repairs := st.repairs.filter fun r => r.crate != crate }
  let s := s.modCaravan fun v => { v with fetches := v.fetches.filter fun f => !(f.ctx == c && f.for_ == .repair crate) }
  (s.showRepairs c).nextRepair

/-- The entries of a step that were issued for a crate and have not landed. -/
def StepRun.pendingOf (st : StepRun) (crate : Nat) : List Nat :=
  st.issued.filter fun i => (st.prog.entries.getD i default).crate == crate && !st.landed.contains i

/-- A repair fails (R330): the old physical crate is retired, the crate is delivered poisoned, every micro-batch of the
module in the step is withheld. -/
def State.failRepair (s : State) (c crate : Nat) : State :=
  let e := s.entry c crate
  let s := if meTier e = 2 then s.retire (.crate (meLoc e)) else s
  let s := if (s.ctx c).awaiting.contains crate then s else s.modCtx c fun x => { x with awaiting := x.awaiting ++ [crate] }
  let pend := match (s.ctx c).step with | some st => st.pendingOf crate | none => []
  let first := match (s.ctx c).step with | some st => !st.dropped | none => false
  let s := pend.foldl (fun s i => s.land c i [] true) s
  let s := s.withholdAll c
  let s := (if first then s.bump (STREAM_DROPPED c) 1 else s).orReg (STREAM_FLAGS c) 4
  let s := s.modStep c fun st => { st with failed := insertNew crate st.failed, dropped := true }
  s.dropRepair c crate

/-- A fetch of a weight crate ends (R327): a repair starts, waits, or fails at once. -/
def State.fetchEnds (s : State) (c entry code : Nat) : State :=
  match (s.ctx c).step with
  | none => s
  | some st =>
    let crate := (st.prog.entries.getD entry default).crate
    let s := (s.noteEnd c code).setReg (STREAM_LAST_CRATE c) (w32 crate)
    if st.repairs.any fun r => r.crate == crate then s
    else if s.effFld (STREAM_CONTROL c) 1 1 = 0 ∨ s.replicas c = [] then s.failRepair c crate
    else
      let seq := 1 + (List.range 64).foldl (fun m i => match (s.ctx i).step with
        | some st => st.repairs.foldl (fun m r => max m r.seq) m
        | none => m) 0
      (s.modStep c fun st => { st with repairs := st.repairs ++ [(⟨entry, crate, none, seq⟩ : Repair)] }).nextRepair

/-- A bench refetch of R53 reads the crate of a prefetch entry. -/
def State.refetching (s : State) (c crate : Nat) : Bool :=
  (s.ctxRegions c).any fun r => (s.region r).refetch && (s.region r).restores.any fun e => e.2.crate == crate

/-- WEIGHT_FETCH_END (R327, R279, R331, R334): an issued fetch that has not landed, or a refetch of R53, ends UNCORR or LATE. -/
def execWeightFetchEnd (ctx : Fin 64) (entry : Nat) (how : TierEnd) (s : State) : Out :=
  match (s.ctx ctx).step with
  | none => .next s
  | some st =>
    if st.issued.contains entry && (!st.landed.contains entry || s.refetching ctx (st.prog.entries.getD entry default).crate) then
      .next (s.fetchEnds ctx entry (match how with | .uncorr => 4 | .late => 5))
    else .next s

/-- CRATE_LANDING (R310, R311, R313, R330): the fetched crate is delivered. A crate whose repair has failed in the step lands
poisoned; one that is under repair waits; one that can no longer be read ends its fetch. -/
def execCrateLanding (ctx : Fin 64) (entry : Nat) (failed : List (Fin 64)) (s : State) : Out :=
  let c := ctx.val
  match (s.ctx c).step with
  | none => .next s
  | some st =>
    if !st.issued.contains entry || st.landed.contains entry then .next s else
    let crate := (st.prog.entries.getD entry default).crate
    if st.failed.contains crate then .next (s.land c entry [] true)
    else if st.repairs.any fun r => r.crate == crate then .next s
    else if s.crateRetired c crate then .next (s.fetchEnds c entry 6)
    else
      -- a transfer has failed all its repeats in each of these regions (R277, R397)
      let lost := (failed.map (·.val)).eraseDups
      let s := if lost = [] then s else (s.bump QUOTA_LINK_RETRY (4 * lost.length)).bump HEALTH_FAULTS_LASTING lost.length
      .next (s.land c entry lost false)

/-- A crate under repair arrives from a peer: it goes to a spare physical crate and is delivered (R327, R332). -/
def State.repaired (s : State) (c crate : Nat) (bs : List Byte) : State :=
  match (if (s.ctx c).awaiting.contains crate then s else s.modCtx c fun x => { x with awaiting := x.awaiting ++ [crate] }).rehome c crate with
  | (s, false) => s.failRepair c crate
  | (s, true) =>
    let s := s.placeWrite (meplace (s.entry c crate)) 0 (bs.take 65536)
    let pend := match (s.ctx c).step with | some st => st.pendingOf crate | none => []
    let s := pend.foldl (fun s i => s.land c i [] false) s
    ((s.bump (STREAM_REPAIRED c) 1).orReg (STREAM_FLAGS c) 2).dropRepair c crate

/-- The peer that is asked gives no crate: the next one is asked, or the repair fails (R327). -/
def State.peerFails (s : State) (c crate : Nat) : State :=
  match (s.ctx c).step with
  | none => s
  | some st => match st.repairs.find? fun r => r.crate == crate with
    | some ⟨_, _, some i, _⟩ =>
      let s := s.modCaravan fun v => { v with fetches := v.fetches.filter fun f => !(f.ctx == c && f.for_ == .repair crate) }
      (s.askPeer c crate (i + 1)).getD (s.failRepair c crate)
    | _ => s

/-- What a peer's answer does to a repair. -/
def State.peerAnswers (s : State) (c crate : Nat) (a : PeerAnswer) : State :=
  match (s.ctx c).step with
  | none => s
  | some st =>
    if !st.repairs.any (fun r => r.crate == crate && r.peer.isSome) then s else
    match a with
    | .data tag bs => if tag.toNat = s.tag c ∧ bs.length = 65536 then s.repaired c crate bs else s.peerFails c crate
    | .refuses => s.peerFails c crate
    | .silent => s.peerFails c crate

/-- REPAIR_PEER_ANSWER (R327). -/
def execRepairPeerAnswer (ctx : Fin 64) (crate : W32) (answer : PeerAnswer) (s : State) : Out :=
  .next (s.peerAnswers ctx crate.toNat answer)

/-- REPAIR_PEER_SILENT (R327). -/
def execRepairPeerSilent (ctx : Fin 64) (crate : W32) (s : State) : Out := .next (s.peerAnswers ctx crate.toNat .silent)

/-- REPAIR_DEADLINE (R327, R329). -/
def execRepairDeadline (ctx : Fin 64) (crate : W32) (s : State) : Out :=
  match (s.ctx ctx).step with
  | none => .next s
  | some st =>
    if st.repairs.any fun r => r.crate == crate.toNat then .next (s.failRepair ctx crate.toNat) else .next s

/-! Ready gates (R323, R324, R334). -/

/-- Every first-wave crate of a position, or virtual stage, has landed. -/
def StepRun.waveLanded (st : StepRun) (q : Nat) : Bool :=
  st.prog.entries.zipIdx.all fun e => !(e.1.pos == q && e.1.wave1) || st.landed.contains e.2

/-- Whether the gate of `q` may open. -/
def State.gateReady (s : State) (c q : Nat) (st : StepRun) : Bool :=
  st.variant.isSome && decide (1 ≤ s.phase c ∧ s.phase c ≤ 3) && decide (q < st.prog.stream.npos) && st.waveLanded q &&
  (s.ctxRegions c).all (fun r => !(s.region r).refetch) &&
  (if st.prog.stream.resident then !st.opened.contains q
   else q == st.opened.length && q == st.ended && s.phase c == 1 &&
     (st.prog.firstOfSlot q || (st.running && st.prog.slotOf q == st.slotNo)))

/-- A position's cores take up its pass (R571). Where the position is one layer, their generators are seeded for it; where a
pass goes through several, the core program seeds them at each (R173, assumption 21). -/
def State.enterPosition (s : State) (c pos : Nat) (layer : Option Nat) (r : SlotRec) : State :=
  let s := s.eachCore c fun _ k => { k with pos := pos, mb := r.mb, pass := r.pass }
  match layer with
  | some n => s.reseed c r.mb n r.pass
  | none => s

/-- A layer starts: its gate is open and its slot runs, in an epoch that no hold holds (R22, R34). -/
def State.startLayer (s : State) (c : Nat) : State :=
  match (s.ctx c).step with
  | none => s
  | some st =>
    if st.prog.stream.resident || !st.running || s.phase c != 1 || s.fabric.held || !st.opened.contains st.ended then s else
    let r := st.prog.slots.getD st.slotNo default
    (s.enterPosition c st.ended (some (st.prog.layerOf st.ended)) r).setPhase c (passPhase r.pass)

/-- The ready gate of `pos` opens (R323, R324, R325, R334). -/
def State.openGate (s : State) (c pos : Nat) (waited : Bool) : State :=
  match (s.ctx c).step with
  | none => s
  | some st =>
    let stream := !st.prog.stream.resident
    let late := stream && decide (1 ≤ pos) && waited && s.effFld (STREAM_CONTROL c) 0 1 == 1
    let k := if late then min (st.k + 1) st.prog.stream.kmax else st.k
    let s := if waited && s.phase c == 1 then s.modCtx c fun x => { x with waited := true } else s
    let s := s.modStep c fun st => { st with opened := st.opened ++ [pos], pos := some pos, k := k }
    let s := if late then (s.bump (STREAM_LATE_GATES c) 1).orReg (STREAM_FLAGS c) 1 else s
    let s := (s.setRegFld (STREAM_STATUS c) 0 12 pos).setRegFld (STREAM_STATUS c) 12 4 (if stream then k else 0)
    s.startLayer c

/-- READY_GATE_OPEN (R22, R323, R324, R334). In streaming mode a gate within a running slot lets its layer start, in a held
epoch once the hold has run its course (R34); the gate of a slot's first position, and every gate of resident-stage mode, leaves
the start to SLOT_START. -/
def execReadyGateOpen (ctx : Fin 64) (pos : Nat) (waited : Bool) (s : State) : Out :=
  match (s.ctx ctx).step with
  | none => .next s
  | some st => .next (if s.gateReady ctx pos st then s.openGate ctx pos waited else s)

/-- The gates of positions and virtual stages without a first wave open at once when their turn comes (R324). -/
def State.openEmpty (s : State) (c : Nat) : State :=
  match (s.ctx c).step with
  | none => s
  | some st =>
    let turn := if st.prog.stream.resident then List.range st.prog.stream.npos else [st.ended]
    turn.foldl (fun s q => match (s.ctx c).step with
      | none => s
      | some st =>
        if st.prog.entries.any (fun e => e.pos == q && e.wave1) || !s.gateReady c q st then s else s.openGate c q false) s

/-! The start itself. -/

/-- A step starts (R31, R406, R514). A suspended context goes to SEALING at once with NULL sums and doubtful verdicts. -/
def State.beginStep (s : State) (c : Nat) (d : Desc) (p : Program) : State :=
  let v := p.variantFor (maskOf (s.darkOf c))
  -- a listener takes part with NULL sums (R425), as a suspended context does (R407)
  let run := match (s.ctx c).listen with
    | .member => v
    | .listener _ _ => none
  let st : StepRun := {
    desc := d.no, prog := p, slot := d.f 64 2, variant := run, opt := s.optBytes c (d.f 128 48),
    seed := BitVec.ofNat 64 (d.f 192 64), deadline := clampNat 10 60000 (s.effFld (STREAM_REPAIR_DEADLINE c) 0 32),
    pos := none, k := p.stream.kmin, issued := [], landed := [], opened := [], ended := 0, mark := false, repairs := [], failed := [],
    slotNo := 0, running := false, chans := [], handoffs := [], verdicts := [], judged := [], recalled := [], sums := [], scales := [], firsts := [], norms := [],
    gscale := fOne, applied := 0, beacons := [], dropped := false, rebuild := false, sample := false }
  let s := s.modCtx c fun x => { x with step := some { st with verdicts := x.early }, doubt := [], told := [], early := [] }
  let s := (s.ctxRegions c).foldl (fun s r => if s.powerOf r = 1 ∧ ¬ s.isDark r then s.setPower r 0 else s) s
  let s := (s.setRegFld (STREAM_LEDGER_STATUS c) 0 3 0).setRegFld (STREAM_LEDGER_STATUS c) 8 8 (s.tag c)
  let s := (s.declareScale c p.scale).showRebuild c
  let s := s.setReg (STREAM_STATUS c) (w32 ((p.stream.kmin <<< 12) + bitN p.stream.resident 24))
  let s := s.selectVariant c st.slot v
  match run.bind fun n => p.variants[n]? with
  | some q =>
    let s := ((s.loadHops c q).setBound c q).setPhase c 1
    let s := s.checkScales c
    let s := s.modStep c fun st => { st with scales := s.stepScales c }
    let s := s.eachCore c fun _ k => { k with obs := [], uncorr := [], arrived := false, pos := 0, mb := 0, pass := 0, time := SeqTime.reset }
    (s.startSampling c).openEmpty c
  | none =>
    let s := (List.range p.tokens.length).foldl (fun s mb => s.sendVerdict c mb) (s.withholdAll c)
    let s := ((s.shards c).filter fun sh => !sh.gate && !sh.root).foldl (fun s sh => s.sendNulls c sh) s
    s.enterSealing c

/-- STEP (R455). -/
def execStep (ring : Fin 16384) (index : Fin 65536) (s : State) : Out :=
  match s.ready? ring index 1 with
  | none => .next s
  | some (c, d) =>
    let s := s.start c d.no
    if s.regBit HEALTH_FOREMAN 6 then .next (s.complete c d.no 2 0x23) else
    let refusal := s.stepRefusal c d
    let headers := s.headersGood c d
    let s := s.stepReads c d
    match refusal with
    | some reason =>
      let s := if reason = 0x06 ∧ headers = false then s.orReg (CTX_MEM_STATUS c) 0x40 else s
      .next (s.complete c d.no 3 reason)
    | none =>
      match (spGet (fun _ => none) (s.ctx c).slots (d.f 64 2)).bind (s.placed c) with
      | some p => .next (s.beginStep c d p)
      | none => .next s

end Sys2Proof.Machine
end

