-- ==== Sys2Proof/Machine/Sums.lean ====
section
/-! DEFINITION. The gradient path (R336 to R352): tally units, group gates and verdicts, NULL sums, sealing, and the sealed
tiles' way down. -/

namespace Sys2Proof.Machine

/-! Sum headers (R341). -/

def shTILE (h : W256) : Nat := fld h 0 32
def shMB (h : W256) : Nat := fld h 32 16
def shWIDE (h : W256) : Bool := bitAt h 48
def shFP (h : W256) : Bool := bitAt h 49
def shNULL (h : W256) : Bool := bitAt h 50
def shTERMS (h : W256) : Nat := fld h 64 32
def shMBS (h : W256) : Nat := fld h 96 24
def shTAG (h : W256) : Nat := fld h 120 8
def shTOKENS (h : W256) : Nat := fld h 128 48
def shWORD (h : W256) : W32 := w32 (fld h 176 32)
/-- The header's CRC holds and its reserved fields are 0. -/
def shGood (h : W256) : Bool :=
  fld h 240 16 == (crcMsb 16 0x1021#16 0xFFFF#16 (leBytes 30 h.toNat)).toNat && fld h 51 13 == 0 && fld h 208 32 == 0

/-! Exact addition (R342). -/

/-- Element by element; a shorter list is filled with zeros. -/
def addLists : List Int → List Int → List Int
  | [], ys => ys
  | xs, [] => xs
  | x :: xs, y :: ys => (x + y) :: addLists xs ys

/-- A tally unit's accumulator: the wide buffer, the INT32 accumulator, its term count, and whether it has saturated. -/
structure TallyAcc where
  wide  : List Int
  acc   : List Int
  count : Nat
  sat   : Bool
deriving DecidableEq, Repr

/-- One more input of a sum (R342). -/
def TallyAcc.add (a : TallyAcc) (i : SumInput) : TallyAcc :=
  if shWIDE i.hdr || decide (32768 < shTERMS i.hdr) then { a with wide := addLists a.wide i.elems } else
  let a := if a.count + shTERMS i.hdr > 32768 then { a with wide := addLists a.wide a.acc, acc := [], count := 0 } else a
  let sum := addLists a.acc i.elems
  { a with acc := sum.map fun v => (clampInt 32 v).1, count := a.count + shTERMS i.hdr
           sat := a.sat || sum.any fun v => (clampInt 32 v).2 }

/-- The exact sum of inputs, and whether an accumulator saturated. -/
def tallyInt (ins : List SumInput) : List Int × Bool :=
  let a := ins.foldl TallyAcc.add ⟨[], [], 0, false⟩
  (addLists a.wide a.acc, a.sat)

/-- The FP32 sum of inputs, added in the order given (R351). -/
def tallyFp : List SumInput → List Int
  | [] => []
  | i :: t => t.foldl (fun acc j => List.zipWith (fun a b => ((fAdd (BitVec.ofInt 32 a) (BitVec.ofInt 32 b)).toNat : Int)) acc j.elems)
      i.elems

/-- The combined tile word of inputs, and whether two of them had different exponents (R162). -/
def wordsOf (ins : List SumInput) : Option W32 × Bool :=
  ins.foldl (fun (a : Option W32 × Bool) i => match a.1 with
    | none => (some (shWORD i.hdr), a.2)
    | some w =>
      let v := shWORD i.hdr
      if fld w 0 8 = fld v 0 8 then (some (tileWordCombine w v), a.2) else (some (setBit (tileWordCombine w v) 17 true), true))
    (none, false)

/-- Inputs combined into one sum, NULL when every input is NULL (R342, R346, R351); and whether exponents disagreed. -/
def combineSums (tile mb tag : Nat) (fp : Bool) (ins : List SumInput) : SumInput × Bool :=
  let live := ins.filter fun i => !shNULL i.hdr
  match live with
  | [] => (⟨sumHdr tile mb false fp true 0 0 tag 0 0#32, []⟩, false)
  | _ =>
    let total (f : W256 → Nat) : Nat := live.foldl (fun t i => t + f i.hdr) 0
    let terms := if fp then 0 else total shTERMS % 2 ^ 32
    let (es, sat) := if fp then (tallyFp live, false) else tallyInt live
    let (w, bad) := if fp then (none, false) else wordsOf live
    let word := let v := w.getD 0#32; if sat then setBit v 16 true else v
    (⟨sumHdr tile mb (decide (32768 < terms)) fp false terms (total shMBS % 2 ^ 24) tag (total shTOKENS % 2 ^ 48) word, es⟩, bad)

/-! What a tile of the step has. -/

/-- The shard of a tile in the plan of the variant in use. -/
def State.shardOf (s : State) (c t : Nat) : Option Shard :=
  (s.shards c).find? fun h => decide (h.first ≤ t ∧ t < h.first + h.ntiles)

/-- A shard's node at which micro-batches are settled: its group gate, or a root. -/
def Shard.settles (h : Shard) : Bool := h.gate || h.root

def StepRun.sum (st : StepRun) (t mb : Nat) : List (SumFrom × SumInput) :=
  match st.sums.find? fun q => q.tile == t && q.mb == mb with
  | some q => q.inputs
  | none => []

/-- The modules that have sent sums of a shard in the step: those of its group, whose sums name micro-batches, and the
subtrees', whose sums do not. The plan gives their number, NCHILD, and not which they are. -/
def StepRun.kids (st : StepRun) (h : Shard) (group : Bool) : List Nat :=
  (st.sums.flatMap fun q => if h.first ≤ q.tile ∧ q.tile < h.first + h.ntiles ∧ (q.mb != 0xFFFF) = group then
    q.inputs.filterMap fun e => match e.1 with
      | .module m => some m
      | .region _ | .fabric _ _ => none
    else []).eraseDups

/-- Every child of the shard has sent something. -/
def StepRun.allKids (st : StepRun) (h : Shard) : Bool :=
  decide (h.nchild ≤ (st.kids h true ++ (st.kids h false).filter fun m => !(st.kids h true).contains m).length)

def fromModules (l : List (SumFrom × SumInput)) : List (Nat × SumInput) :=
  l.filterMap fun e => match e.1 with
    | .module m => some (m, e.2)
    | .region _ | .fabric _ _ => none
def fromRegions (l : List (SumFrom × SumInput)) : List (Nat × SumInput) :=
  l.filterMap fun e => match e.1 with
    | .region r => some (r, e.2)
    | .module _ | .fabric _ _ => none
/-- In ascending region or module number (R351). -/
def inOrder (l : List (Nat × SumInput)) : List SumInput := (sortBy (fun a b => decide (a.1 ≤ b.1)) l).map (·.2)

/-- The verdict on a micro-batch at a gate (R345): none while verdicts are missing. -/
def State.verdictOn (s : State) (c mb : Nat) (st : StepRun) : Option Bool :=
  let mine := st.verdicts.filter fun v => v.1 == mb
  if (s.ctx c).told.contains mb || mine.any fun v => !v.2.2 then some false
  else if ((s.verdictSet c mb).all fun m => mine.any fun v => v.2.1 == m) && mine.any (fun v => v.2.1 == s.moduleId) then some true
  else none

/-- The regions whose sums the module waits for. -/
def State.sumRegions (s : State) (c : Nat) : List Nat := (s.ctxRegions c).filter fun r => !s.isDark r

/-- Every region and every child of the group has sent tile `t` of micro-batch `mb`. -/
def State.tileComplete' (s : State) (c : Nat) (h : Shard) (st : StepRun) (t mb : Nat) : Bool :=
  let ins := st.sum t mb
  (s.sumRegions c).all (fun r => (fromRegions ins).any fun e => e.1 == r) && st.allKids h &&
  (st.kids h true).all fun m => (fromModules ins).any fun e => e.1 == m

/-- The module's own sum of a tile and micro-batch, with its group children's (R340, stages 2 to 4): a gate adds in ascending module
ID, a node below it its own first (R351). -/
def State.groupSum (s : State) (c : Nat) (h : Shard) (st : StepRun) (t mb : Nat) : SumInput × Bool :=
  let ins := st.sum t mb
  let own := combineSums t mb (s.tag c) (s.gmode c) (inOrder (fromRegions ins))
  let all := combineSums t mb (s.tag c) (s.gmode c)
    (if h.settles then inOrder ((s.moduleId, own.1) :: fromModules ins) else own.1 :: inOrder (fromModules ins))
  (all.1, own.2 || all.2)

/-- A settled micro-batch's part of the gate sum (R345): MBS 1 and TOKENS as planned. -/
def countedSum (i : SumInput) (tokens : Nat) : SumInput :=
  if shNULL i.hdr then i else
  let h := i.hdr
  { i with hdr := sumHdr (shTILE h) 0xFFFF (shWIDE h) (shFP h) false (shTERMS h) 1 (shTAG h) tokens (shWORD h) }

/-- A gate has settled every micro-batch of a tile (R346). -/
def State.allSettled (s : State) (c : Nat) (h : Shard) (st : StepRun) (t : Nat) : Bool :=
  (List.range st.prog.tokens.length).all fun mb => match s.verdictOn c mb st with
    | none => false
    | some false => true
    | some true => s.tileComplete' c h st t mb

/-- The gate sum of a tile: every clean micro-batch, in ascending order. -/
def State.gateSum (s : State) (c : Nat) (h : Shard) (st : StepRun) (t : Nat) : SumInput × Bool :=
  let parts := (List.range st.prog.tokens.length).filterMap fun mb => match s.verdictOn c mb st with
    | some true =>
      let g := s.groupSum c h st t mb
      some (countedSum g.1 (st.prog.tokens.getD mb 0), g.2)
    | _ => none
  let all := combineSums t 0xFFFF (s.tag c) (s.gmode c) (parts.map (·.1))
  (all.1, all.2 || parts.any (·.2))

/-! Sending on. -/

/-- The frames of a sum (R480): 4,096 bytes each of INT32, INT64 or FP32 elements; none with data for a NULL sum. -/
def sumParts (i : SumInput) : List (List Byte) :=
  if shNULL i.hdr then [[]] else
  let w := if shWIDE i.hdr then 8 else 4
  let bs := (List.range 4096).flatMap fun n => leBytes w (toTwos (8 * w) (i.elems.getD n 0))
  chunks 4096 8 bs

/-- A sum leaves for the shard's parent on the shard's port (R491, R501). -/
def State.sendSum (s : State) (c : Nat) (h : Shard) (i : SumInput) : State :=
  s.sendParts c h.parent 1 0x10 (some h.port) i.hdr (sumParts i)

/-- Note that a tile's sum has been sent on. -/
def markSent (t mb : Nat) (l : List TallySum) : List TallySum :=
  if l.any fun q => q.tile == t && q.mb == mb then
    l.map fun q => if q.tile == t && q.mb == mb then { q with sent := true } else q
  else l ++ [⟨t, mb, [], [], true⟩]

/-- The frames of a sealed tile (R480): the mantissas or FP32 values, then the sealed word. -/
def sealedParts (fp : Bool) (q : Sealed) : List (List Byte) :=
  let w := if fp then 4 else 2
  let bs := (List.range 4096).flatMap fun n => leBytes w (toTwos (8 * w) (q.elems.getD n 0))
  chunks 4096 4 bs ++ [leBytes 32 q.word.toNat]

/-- The header that the frames of a sealed tile carry (assumption 16). -/
def sealedHdr (t tag : Nat) (fp : Bool) (w : W256) : W256 :=
  sumHdr t 0xFFFF false fp false (swTERMS w) (swMBS w) tag (swTOKENS w) (swWord w)

/-- A sealed tile reaches this module (R340, stage 7): into its tally buffer when it holds the ledger tile and the buffer's crate
fits the quota (R299), and on to its children. -/
def State.takeSealed (s : State) (c t : Nat) (q : Sealed) : State :=
  let kids := match (s.ctx c).step, s.shardOf c t with
    | some st, some h => (st.kids h true ++ st.kids h false).eraseDups
    | _, _ => []
  let port := (s.shardOf c t).map (·.port)
  let s' := s.modCtx c fun x => { x with sealed := spSet (fun _ => none) x.sealed t (some q) }
  let fits := decide (s'.useStock c ≤ s.regFld (CTX_QUOTA_STOCK c) 0 28) || decide (s'.useStock c ≤ s.useStock c)
  let s := if s.tiles c ≤ t then s else if fits then s' else s.noteEnd c 2
  kids.foldl (fun s m => s.sendParts c m 1 0x10 port (sealedHdr t (s.tag c) (s.gmode c) q.word) (sealedParts (s.gmode c) q)) s

/-- The smallest shift from `k` on for which every element fits (R348). -/
def sealShift (es : List Int) : Nat → Nat → Nat
  | 0, k => k
  | n + 1, k =>
    if es.all fun v => decide (((FVal.ofInt v).scale (-(k : Int))).roundInt.natAbs ≤ 32767) then k else sealShift es n (k + 1)

/-- Seal a tile from its exact sum (R348, R349, R351). A tile of which nothing was summed has no observation: its word's OBS
is 0xFF in S16 mode. -/
def sealTile (fp : Bool) (tag : Nat) (i : SumInput) : Sealed :=
  if shNULL i.hdr then ⟨sealedWord (if fp then 0#32 else 0xFF00#32) 0 tag 0 0 0 true, []⟩
  else if fp then ⟨sealedWord 0#32 0 tag (shMBS i.hdr) (shTOKENS i.hdr) 0 false, i.elems⟩
  else
    let k := sealShift i.elems 48 0
    ⟨sealedWord (shWORD i.hdr) k tag (shMBS i.hdr) (shTOKENS i.hdr) (shTERMS i.hdr) false,
      i.elems.map fun v => max (-32767) (min 32767 ((FVal.ofInt v).scale (-(k : Int))).roundInt)⟩

/-- EXP_MISMATCH (R162). -/
def State.noteWord (s : State) (c : Nat) (bad : Bool) : State := if bad then s.orReg (CTX_SCALE_FLAGS c) 0x40 else s

/-- A tile's sum of one micro-batch leaves a module below the gate when it is complete. -/
def State.trySum (s : State) (c : Nat) (h : Shard) (t mb : Nat) : State :=
  match (s.ctx c).step with
  | none => s
  | some st =>
    let sent := st.sums.any fun q => q.tile == t && q.mb == mb && q.sent
    if sent || !s.tileComplete' c h st t mb then s else
    let g := s.groupSum c h st t mb
    ((s.sendSum c h g.1).noteWord c g.2).modStep c fun st => { st with sums := markSent t mb st.sums }

/-- A gate's sum of a tile goes to its parent, or is sealed at the root, when every micro-batch is settled and every child
has sent (R340, R346, R348). -/
def State.tryGate (s : State) (c : Nat) (h : Shard) (t : Nat) : State :=
  match (s.ctx c).step with
  | none => s
  | some st =>
    let sent := st.sums.any fun q => q.tile == t && q.mb == 0xFFFF && q.sent
    let ins := fromModules (st.sum t 0xFFFF)
    let kidsIn := (st.kids h false).all fun m => ins.any fun e => e.1 == m
    if sent || !st.allKids h || !kidsIn || !s.allSettled c h st t then s else
    let g := s.gateSum c h st t
    let all := combineSums t 0xFFFF (s.tag c) (s.gmode c) (g.1 :: inOrder ins)
    let s := (s.noteWord c (g.2 || all.2)).modStep c fun st => { st with sums := markSent t 0xFFFF st.sums }
    if h.root then s.takeSealed c t (sealTile (s.gmode c) (s.tag c) all.1) else s.sendSum c h all.1

/-- A node of the tree that is no gate adds the subtree sums of its children, and sends them on when each of them has sent
(R340, stage 5). -/
def State.tryPass (s : State) (c : Nat) (h : Shard) (t : Nat) : State :=
  match (s.ctx c).step with
  | none => s
  | some st =>
    let sent := st.sums.any fun q => q.tile == t && q.mb == 0xFFFF && q.sent
    let ins := fromModules (st.sum t 0xFFFF)
    if sent || ins.isEmpty || !st.allKids h || !((st.kids h false).all fun m => ins.any fun e => e.1 == m) then s else
    let all := combineSums t 0xFFFF (s.tag c) (s.gmode c) (inOrder ins)
    ((s.sendSum c h all.1).noteWord c all.2).modStep c fun st => { st with sums := markSent t 0xFFFF st.sums }

/-- Send on whatever of a tile is ready. -/
def State.tryTile (s : State) (c t : Nat) : State :=
  match (s.ctx c).step, s.shardOf c t with
  | some st, some h =>
    if h.settles then s.tryGate c h t
    else ((List.range st.prog.tokens.length).foldl (fun s mb => s.trySum c h t mb) s).tryPass c h t
  | _, _ => s

/-- Send on whatever is ready of every tile whose shard this module settles. -/
def State.tryGates (s : State) (c : Nat) : State :=
  ((s.shards c).filter Shard.settles).foldl (fun s h => (List.range h.ntiles).foldl (fun s i => s.tryGate c h (h.first + i)) s) s

/-! Inputs. -/

def nullInput (t mb tag : Nat) (fp : Bool) : SumInput := ⟨sumHdr t mb false fp true 0 0 tag 0 0#32, []⟩

/-- A gate discards its held sums of a micro-batch that is doubtful (R345); it still knows who has sent (R346). -/
def State.discardHeld (s : State) (c mb : Nat) : State :=
  match (s.ctx c).step with
  | none => s
  | some st =>
    let held (q : TallySum) : Bool :=
      q.mb == mb && q.inputs.any (fun e => !shNULL e.2.hdr) && (s.shardOf c q.tile).any Shard.settles
    if !st.sums.any held then s else
    let gone (q : TallySum) : TallySum :=
      { q with inputs := q.inputs.map fun e => (e.1, nullInput q.tile mb (s.tag c) (s.gmode c)) }
    (s.modStep c fun st => { st with sums := st.sums.map fun q => if held q then gone q else q }).orReg (STREAM_LEDGER_FLAGS c) 2

/-- A module's verdict on a micro-batch (R345). -/
def State.noteVerdict (s : State) (c m mb : Nat) (clean : Bool) : State :=
  match (s.ctx c).step with
  | none => s.modCtx c fun x => { x with early := x.early ++ [(mb, m, clean)] }
  | some st =>
    if st.verdicts.any fun v => v.1 == mb && v.2.1 == m && (v.2.2 == clean || !v.2.2) then s else
    let s := s.modStep c fun st => { st with verdicts := st.verdicts ++ [(mb, m, clean)] }
    let s := if clean then s else s.discardHeld c mb
    s.tryGates c

/-- Put an input into a tally unit; one input of each sender is kept. -/
def putInput (t mb : Nat) (e : SumFrom × SumInput) (l : List TallySum) : List TallySum :=
  if l.any fun q => q.tile == t && q.mb == mb then
    l.map fun q => if q.tile == t && q.mb == mb then
      { q with inputs := (q.inputs.filter fun f => f.1 != e.1) ++ [e] } else q
  else l ++ [⟨t, mb, [e], [], false⟩]

/-- An input is taken as NULL. -/
def State.putNull (s : State) (c t mb : Nat) (src : SumFrom) : State :=
  s.modStep c fun st => { st with sums := putInput t mb (src, nullInput t mb (s.tag c) (s.gmode c)) st.sums }

/-- An input fails (R347): below the gate its micro-batch is withheld, above it its sender is asked once more, and then the
input is NULL and the sender is told. -/
def State.failInput (s : State) (c t mb : Nat) (src : SumFrom) : State :=
  let s := s.orReg (STREAM_LEDGER_FLAGS c) 4
  match src with
  | .fabric core _ => (s.putNull c t mb src).withhold c mb (core / 120)
  | .region r => (s.putNull c t mb src).withhold c mb r
  | .module m =>
    if mb ≠ 0xFFFF then
      let s := s.putNull c t mb src
      if (s.shardOf c t).any Shard.settles then s.noteVerdict c m mb false else s.withhold c mb 0x3F
    else
      let asked := match (s.ctx c).step with
        | some st => st.sums.any fun q => q.tile == t && q.mb == mb && q.again.contains m
        | none => false
      if asked then (s.putNull c t mb src).sendExpress c m 0x06 (noticeSub 3 m 0xFFFF)
      else
        let add (l : List TallySum) : List TallySum :=
          if l.any fun q => q.tile == t && q.mb == mb then
            l.map fun q => if q.tile == t && q.mb == mb then { q with again := insertNew m q.again } else q
          else l ++ [⟨t, mb, [], [m], false⟩]
        (s.modStep c fun st => { st with sums := add st.sums }).sendSumAgain c m t mb

/-- Whether a tally unit can map the stockroom that an input needs (R295, R342). -/
def State.tallyFits (s : State) (c t mb : Nat) (e : SumFrom × SumInput) : Bool :=
  let s' := s.modStep c fun st => { st with sums := putInput t mb e st.sums }
  decide (s'.useStock c ≤ s.regFld (CTX_QUOTA_STOCK c) 0 28) || decide (s'.useStock c ≤ s.useStock c)

/-- A sum is put into the tally unit, or fails, or is turned away (R337, R342, R345, R347, R299). -/
def State.acceptSum (s : State) (c : Nat) (src : SumFrom) (i : SumInput) : State :=
  let t := shTILE i.hdr
  let mb := shMB i.hdr
  match (s.ctx c).step with
  | none => s
  | some st =>
    if (s.shardOf c t).isNone then s
    else if shTAG i.hdr ≠ s.tag c ∨ shGood i.hdr = false then s.failInput c t mb src
      else if shFP i.hdr ≠ s.gmode c then (s.putNull c t mb src).orReg (STREAM_LEDGER_FLAGS c) 1
      else if mb ≠ 0xFFFF ∧ s.verdictOn c mb st = some false ∧ (s.shardOf c t).any Shard.settles = true then
        -- the micro-batch is withheld: the sender is known, its sum is not kept
        (s.putNull c t mb src).orReg (STREAM_LEDGER_FLAGS c) 2
      else if !s.tallyFits c t mb (src, i) then
        let s := (s.noteEnd c 2).putNull c t mb src
        if mb ≠ 0xFFFF then s.withhold c mb 0x3F else s
      else s.modStep c fun st => { st with sums := putInput t mb (src, i) st.sums }

/-- A sum of a region or of a module reaches the tally unit of the shard's port. -/
def State.takeSum (s : State) (c : Nat) (src : SumFrom) (i : SumInput) : State := (s.acceptSum c src i).tryTile c (shTILE i.hdr)

/-- The fabric sums of a region that its exit unit holds for a tile and micro-batch, in ascending logical core (R351). -/
def fabricInputs (r : Nat) (l : List (SumFrom × SumInput)) : List SumInput :=
  inOrder (l.filterMap fun e => match e.1 with
    | .fabric core stream => if core / 120 = r then some (core * 256 + stream, e.2) else none
    | .region _ | .module _ => none)

/-- The region's sum has left its exit unit. -/
def StepRun.regionSent (st : StepRun) (t mb r : Nat) : Bool := (st.sum t mb).any fun e => e.1 == .region r

/-- A fabric sum reaches its region's exit unit; when the inputs that the plan lists have come, the region's sum goes on to the
module's tally unit (R340, stage 2). -/
def State.takeFabric (s : State) (c core stream : Nat) (i : SumInput) (of : Nat) : State :=
  let r := core / 120
  let t := shTILE i.hdr
  let mb := shMB i.hdr
  if (s.ctx c).step.any fun st => st.regionSent t mb r then s else
  let s := s.acceptSum c (.fabric core stream) i
  match (s.ctx c).step with
  | none => s
  | some st =>
    let ins := fabricInputs r (st.sum t mb)
    if ins.length < of ∨ ins = [] then s else
    let sum := combineSums t mb (s.tag c) (s.gmode c) ins
    let keep (e : SumFrom × SumInput) : Bool := match e.1 with
      | .fabric k _ => k / 120 != r
      | .region _ | .module _ => true
    let s := (s.noteWord c sum.2).modStep c fun st => { st with sums := st.sums.map fun q =>
      if q.tile = t ∧ q.mb = mb then { q with inputs := q.inputs.filter keep } else q }
    s.takeSum c (.region r) sum.1

/-- A fabric sum as its receive stream has left it in a core's bench: 4,096 elements, once all of them are there. A saturation in a
router (R91) sets SAT in its tile word (R342). -/
def State.fabricSum (s : State) (core stream : Nat) (hdr : W256) : Option SumInput :=
  let k := s.core (s.phys core)
  match k.streams.find? fun b => !b.spec.send && b.spec.stream.val == stream with
  | none => none
  | some b =>
    if b.spec.grans ≠ 512 ∨ b.pos < 16384 ∨ b.spec.mb.toNat ≠ shMB hdr then none else
    let es := (List.range 4096).map fun i => (BitVec.ofNat 32 (k.bench.readNat (32 * b.spec.first.toNat + 4 * i) 4)).toInt
    let h := if b.sat then
        sumHdr (shTILE hdr) (shMB hdr) (shWIDE hdr) (shFP hdr) false (shTERMS hdr) (shMBS hdr) (shTAG hdr) (shTOKENS hdr)
          (setBit (shWORD hdr) 16 true)
      else hdr
    some ⟨h, es⟩

/-! The first pass of the two-pass recipe (R189; assumption 63). -/

/-- A tile word of the first pass put with the others of its tile, one from each sender. -/
def putWord (t : Nat) (e : SumFrom × W32) (l : List FirstSum) : List FirstSum :=
  if l.any fun q => q.tile == t then
    l.map fun q => if q.tile == t then { q with inputs := (q.inputs.filter fun f => f.1 != e.1) ++ [e] } else q
  else l ++ [⟨t, [e], false⟩]

def StepRun.words (st : StepRun) (t : Nat) : List (SumFrom × W32) := ((st.firsts.find? fun q => q.tile == t).map (·.inputs)).getD []

/-- The combined tile word of a first pass. -/
def combineWords (l : List (SumFrom × W32)) : W32 :=
  match l.map (·.2) with
  | [] => 0xFF00#32
  | w :: ws => ws.foldl tileWordCombine w

/-- A tile word travels alone, in a sum header without elements. -/
def State.sendWord (s : State) (c m : Nat) (h : Shard) (t : Nat) (w : W32) : State :=
  s.sendParts c m 1 0x10 (some h.port) (sumHdr t 0xFFFF false false false 0 0 (s.tag c) 0 w) [[]]

/-- The job-wide OBS comes down the tree: the context's cores convert the tile with the exponent that it gives, and the modules
that sent tile words get it in turn (R175, R189). -/
def State.takeObs (s : State) (c : Nat) (h : Shard) (t : Nat) (w : W32) : State :=
  match (s.ctx c).step with
  | none => s
  | some st =>
    let kids := (st.words t).filterMap fun e => match e.1 with
      | .module m => some m
      | .region _ | .fabric _ _ => none
    let s := match s.weightEntry c t with
      | some i => s.modStep c fun st => { st with scales := modAt st.scales i fun b => b.or (some (recipeByte 2 (fld w 8 8))) }
      | none => s
    kids.foldl (fun s m => s.sendWord c m h t w) s

/-- The first pass of a tile goes on when every region and every child has sent its word: to the parent, or at the root back down. -/
def State.tryWord (s : State) (c : Nat) (h : Shard) (t : Nat) : State :=
  match (s.ctx c).step with
  | none => s
  | some st =>
    let ins := st.words t
    let regions := (s.sumRegions c).all fun r => ins.any fun e => e.1 == .region r
    let kids := (ins.filter fun e => match e.1 with
      | .module _ => true
      | .region _ | .fabric _ _ => false).length
    if !regions || decide (kids < h.nchild) || (st.firsts.any fun q => q.tile == t && q.sent) then s else
    let w := combineWords (ins.filter fun e => match e.1 with
      | .fabric _ _ => false
      | .region _ | .module _ => true)
    let s := s.modStep c fun st => { st with firsts := st.firsts.map fun q => if q.tile == t then { q with sent := true } else q }
    if h.root then s.takeObs c h t w else s.sendWord c h.parent h t w

/-- A tile word of the first pass reaches this module from a core, whose region's words combine first, or from a child; from the
parent it is the job-wide OBS. -/
def State.takeWord (s : State) (c t : Nat) (src : SumFrom) (w : W32) (of : Nat) : State :=
  match s.shardOf c t with
  | none => s
  | some h =>
    if !h.root && src == .module h.parent then s.takeObs c h t w else
    let s := s.modStep c fun st => { st with firsts := putWord t (src, w) st.firsts }
    let s := match src, (s.ctx c).step with
      | .fabric core _, some st =>
        let mine := (st.words t).filter fun (e : SumFrom × W32) => match e.1 with
          | .fabric k _ => k / 120 == core / 120
          | .region _ | .module _ => false
        if mine.length < of then s
        else s.modStep c fun st => { st with firsts := putWord t (.region (core / 120), combineWords mine) st.firsts }
      | _, _ => s
    s.tryWord c h t

/-- SUM_RECEIVE (R189, R340, R342): an input reaches the tally unit that serves its tile: a region's fabric sum, a core's tile word
alone, or the oldest sum that the caravan has delivered, which is a tile word alone when no elements follow its header. -/
def execSumReceive (ctx : Fin 64) (src : SumSource) (s : State) : Out :=
  let c := ctx.val
  if !s.inStep c then .next s else
  match src with
  | .fabric core stream hdr of =>
    if (s.region (core.val / 120)).owner ≠ some c then .next s else
    match s.fabricSum core stream hdr with
    | some i => .next (s.takeFabric c core stream i of)
    | none => .next s
  | .word core tile word of =>
    if (s.region (core.val / 120)).owner = some c ∧ s.gmode c = false then
      .next (s.takeWord c tile.toNat (.fabric core 0) (setFld word 0 8 0) of) else .next s
  | .delivered => match (s.ctx c).delivered with
    | [] => .next s
    | d :: rest =>
      let s := s.modCtx c fun x => { x with delivered := rest }
      let h := d.sum.hdr
      .next (if d.sum.elems = [] ∧ shNULL h = false ∧ s.gmode c = false ∧ shTAG h = s.tag c ∧ shGood h = true then
        s.takeWord c (shTILE h) (.module d.src) (shWORD h) 0
      else s.takeSum c (.module d.src) d.sum)

/-- VERDICT_RECEIVE (R345). -/
def execVerdictReceive (ctx : Fin 64) (module : Fin 131072) (mb : BitVec 16) (clean : Bool) (s : State) : Out :=
  if s.ctxState ctx = 1 then .next (s.noteVerdict ctx module mb.toNat clean) else .next s

/-- SUM_AGAIN (R347, R495): a sum above the gate is asked for once more, or its second copy has failed too. -/
def execSumAgain (ctx : Fin 64) (module : Fin 131072) (tile : W32) (failed : Bool) (s : State) : Out :=
  let c := ctx.val
  if !s.inStep c || (s.shardOf c tile.toNat).isNone then .next s else
  if failed then
    let s := (s.putNull c tile.toNat 0xFFFF (.module module.val)).sendExpress c module.val 0x06 (noticeSub 3 module.val 0xFFFF)
    .next (s.tryTile c tile.toNat)
  else .next ((s.failInput c tile.toNat 0xFFFF (.module module.val)).tryTile c tile.toNat)

/-- SEALED_TILE_RECEIVE (R340, R348, R350). -/
def execSealedTileReceive (ctx : Fin 64) (tile : W32) (word : W256) (elems : List Int) (s : State) : Out :=
  let c := ctx.val
  if s.inStep c && recGood word.toNat && swTAG word == s.tag c then .next (s.takeSealed c tile.toNat ⟨word, elems⟩) else .next s

/-- Send a sum of this module again when its parent asks (R347): what was sent is formed again from what is kept. -/
def State.resendSum (s : State) (c t mb : Nat) : State :=
  match (s.ctx c).step, s.shardOf c t with
  | some st, some h =>
    if !(st.sums.any fun q => q.tile == t && q.mb == mb && q.sent) || h.root then s
    else if mb = 0xFFFF ∧ h.settles = true then
      let g := s.gateSum c h st t
      s.sendSum c h (combineSums t 0xFFFF (s.tag c) (s.gmode c) (g.1 :: inOrder (fromModules (st.sum t 0xFFFF)))).1
    else if mb = 0xFFFF then s.sendNull c h t mb
    else s.sendSum c h (s.groupSum c h st t mb).1
  | _, _ => s

/-- The gates act on clean verdicts that have been taken back (R25, R345). -/
def State.settleRecalled (s : State) (c : Nat) : State :=
  match (s.ctx c).step with
  | none => s
  | some st =>
    if st.recalled = [] then s else
    let s := s.modStep c fun st => { st with recalled := [] }
    (st.recalled.foldl (fun s mb => s.discardHeld c mb) s).tryGates c

end Sys2Proof.Machine
end

