-- ==== Sys2Proof/Machine/Swatch.lean ====
section
/-! DEFINITION. Swatches (R385 to R395): the plan and its checks, the records, the spill before an update, delivery to host
memory, a sink or a caravan peer, and completion. -/

namespace Sys2Proof.Machine

/-! The plan (R385). -/

def spFORMAT (p : W512) : Nat := fld p 0 2
def spDEST (p : W512) : Nat := fld p 2 2
def spFIRST (p : W512) : Nat := fld p 64 32
def spNTILES (p : W512) : Nat := fld p 96 25
def spADDR (p : W512) : Nat := fld p 128 64
def spSINK (p : W512) : Nat := fld p 192 4

/-- RECSIZE (R392). -/
def recSize (format : Nat) : Nat := if format = 0 then 8224 else 4256

/-- A plan uses a reserved value, or tiles that the ledger does not have. -/
def State.planBad (s : State) (c : Nat) (p : W512) : Bool :=
  decide (2 ≤ spFORMAT p) || spDEST p == 3 || fld p 4 4 != 0 || decide (200 < fld p 8 8) || fld p 16 16 != 0 || fld p 121 7 != 0
    || fld p 196 316 != 0 || spNTILES p == 0 || decide (s.tiles c < spFIRST p + spNTILES p)

/-- Whether a SWATCH is refused (R386). -/
def State.planRefused (s : State) (c : Nat) (p : W512) : Bool :=
  let step := fld p 32 32
  s.planBad c p || (step != 0xFFFFFFFF && decide (step < (s.reg (STREAM_STEP_COUNT c)).toNat)) ||
  (spDEST p == 2 && !((s.ctx c).sink (spSINK p)).on) ||
  decide (s.stockRoom c < (spNTILES p * recSize (spFORMAT p) + 65535) / 65536)

/-- CTX_SWATCH_STATUS and CTX_SWATCH_SPILL show the swatch (R396). -/
def State.showSwatch (s : State) (c : Nat) : State :=
  match (s.ctx c).swatch with
  | none => (s.setReg (CTX_SWATCH_STATUS c) 0#32).setReg (CTX_SWATCH_SPILL c) 0#32
  | some w =>
    (s.setReg (CTX_SWATCH_STATUS c) (w32 (w.phase % 4 + (w.next <<< 2)))).setReg (CTX_SWATCH_SPILL c)
      (w32 ((w.spill.length * recSize (spFORMAT w.plan) + 65535) / 65536))

/-- SWATCH (R385 to R389): it waits while another swatch of the context is in progress; its spill crates are reserved. -/
def execSwatch (ring : Fin 16384) (index : Fin 65536) (s : State) : Out :=
  match s.ready? ring index 5 with
  | none => .next s
  | some (c, d) =>
    if (s.ctx c).swatch.isSome then .next s else
    let s := s.start c d.no
    let p : W512 := BitVec.ofNat 512 (s.tensorNat c (d.f 128 48) 64)
    let refused := s.planRefused c p
    let s := s.foremanReads c (d.f 128 48) 64
    if refused then .next (s.complete c d.no 3 0x09) else
    let step := if fld p 32 32 = 0xFFFFFFFF then s.reg (STREAM_STEP_COUNT c) else w32 (fld p 32 32)
    let w : SwatchRun := ⟨d.no, p, step, 1, 0, 0, [], (spNTILES p * recSize (spFORMAT p) + 65535) / 65536⟩
    .next (((s.modCtx c fun x => { x with swatch := some w }).setReg (CTX_SWATCH_STEP c) step).showSwatch c)

/-! Records (R388, R392). -/

/-- A record's data: the tile's values in the plan's form. -/
def recordData (format : Nat) (orient : Bool) (es : List LEntry) : List Byte :=
  if format = 0 then es.flatMap fun e => leBytes 2 (bf16Bits e.master)
  else
    let (scales, elems) := narrowTile false orient (es.map fun e => f32 e.master)
    elems.map (BitVec.ofNat 8) ++ scales.map (BitVec.ofNat 8)

/-- A swatch record: header and `data`, zero in a record that is marked MISSING. -/
def recordOf (format tile tag : Nat) (d : DirRec) (missing spilled : Bool) (data : List Byte) : List Byte :=
  let data := if missing then List.replicate (recSize format - 32) 0#8 else data
  let h := tile + ((tag % 256) <<< 32) + (format <<< 40) + bitN d.orient 42 + bitN d.frozen 43 + bitN missing 44 + bitN spilled 45
  let crc := crcLsb 32 0xEDB88320#32 0xFFFFFFFF#32 (leBytes 28 h ++ data) ^^^ 0xFFFFFFFF#32
  leBytes 28 h ++ leBytes 4 crc.toNat ++ data

/-- The record of a tile whose entries are at hand. -/
def swatchRecord (format tile tag : Nat) (d : DirRec) (missing spilled : Bool) (es : List LEntry) : List Byte :=
  recordOf format tile tag d missing spilled (recordData format d.orient es)

/-- Where an FP8 swatch finds a tile whose narrow copy is FP8: the stored narrow tile, of 133 granules, from which its record
is read (R388). -/
def State.narrowOf (s : State) (c : Nat) (w : SwatchRun) (t : Nat) : Option Nat :=
  let d := s.dir c t
  if spFORMAT w.plan = 1 ∧ d.fp4 = false then s.tileAddr c d.ntensor d.ntile else none
/-- The data of an FP8 record from the stored narrow tile: its elements, then its scales (R247, R392). -/
def State.narrowData (s : State) (c a : Nat) : List Byte := s.tensorRead c (a + 160) 4096 ++ s.tensorRead c (a + 32) 128

/-- The swatch captures its boundary: the step's boundary has passed. -/
def State.swatchOpen (s : State) (c : Nat) (w : SwatchRun) : Bool := decide (w.step.toNat < (s.reg (STREAM_STEP_COUNT c)).toNat)
/-- The tag that every captured entry carries. -/
def SwatchRun.tag (w : SwatchRun) : Nat := (w.step.toNat + 1) % 256

/-- Before an update of tile `t`, an unread tile of a captured swatch is written to the spill crates (R363, R389). -/
def State.spillTile (s : State) (c t : Nat) : State :=
  match (s.ctx c).swatch with
  | none => s
  | some w =>
    let f := spFIRST w.plan
    if !s.swatchOpen c w || !decide (f + w.next ≤ t ∧ t < f + spNTILES w.plan) || w.spill.any (fun e => e.1 == t) then s else
    let r := swatchRecord (spFORMAT w.plan) t w.tag (s.dir c t) false true (s.ledgerTile c t)
    let s := s.modCtx c fun x => { x with swatch := some { w with spill := w.spill ++ [(t, r)] } }
    (s.orReg (CTX_PIPE_FLAGS c) 8).showSwatch c

/-! Delivery (R391). -/

/-- A PUT's subheader, chosen: the crate in [31:0], the first byte in it in [47:32] (assumption 16). -/
def putSub (crate off : Nat) : W256 := BitVec.ofNat 256 (crate + (off <<< 32))

/-- Bytes cut where 4 KiB pieces of the destination end, each run with its address. -/
def pieceCuts (addr : Nat) : Nat → List Byte → List (Nat × List Byte)
  | 0, _ => []
  | _ + 1, [] => []
  | n + 1, bs =>
    let k := 4096 - addr % 4096
    (addr, bs.take k) :: pieceCuts (addr + k) n (bs.drop k)

/-- PUT frames of bytes for a tensor address of a peer's context. -/
def State.sendPut (s : State) (c m addr : Nat) (bs : List Byte) : State :=
  (pieceCuts addr (bs.length / 4096 + 2) bs).foldl (fun s e =>
    s.sendParts c m 3 0x21 none (putSub (e.1 / 65536) (e.1 % 65536)) [e.2]) s

/-- Bytes of the swatch image, from byte `off` of it. -/
def State.swatchPut (s : State) (c : Nat) (p : W512) (off : Nat) (bs : List Byte) : State :=
  match spDEST p with
  | 0 => s.hostWrite (s.ctxPort c) ((spADDR p + off) % 2 ^ 64) bs
  | 2 => s.hostWrite (s.ctxPort c) ((((s.ctx c).sink (spSINK p)).base + spADDR p + off) % 2 ^ 64) bs
  | _ => s.sendPut c (fld p 128 17) (fld p 160 32 * 65536 + off) bs

/-- One record is delivered. -/
def State.putRecord (s : State) (c : Nat) (w : SwatchRun) (r : List Byte) (missing : Bool) : State :=
  let t := spFIRST w.plan + w.next
  let s := s.swatchPut c w.plan (32 + w.next * recSize (spFORMAT w.plan)) r
  let spill := w.spill.filter fun e => e.1 != t
  let w := { w with
    next := w.next + 1, missing := w.missing + (if missing then 1 else 0), spill := spill,
    phase := if spill.any fun e => e.1 == t + 1 then 3 else 2 }
  let s := s.modCtx c fun x => { x with swatch := some w }
  (if missing then s.orReg (CTX_PIPE_FLAGS c) 0x10 else s).showSwatch c

/-- Every entry carries a tag. -/
def entriesTagged (tag : Nat) (es : List LEntry) : Bool := es.all fun e => e.tag == tag

/-- The record of the swatch's next tile when it can be read: from the spill, else from the ledger. -/
def State.nextRecord (s : State) (c : Nat) (w : SwatchRun) : Option (List Byte) :=
  let t := spFIRST w.plan + w.next
  match w.spill.find? fun e => e.1 == t with
  | some e => some e.2
  | none => match s.narrowOf c w t with
    | some a => if s.tensorLost c a 4256 then none
      else some (recordOf (spFORMAT w.plan) t w.tag (s.dir c t) false false (s.narrowData c a))
    | none =>
      let es := s.ledgerTile c t
      if s.tileLost c t || !entriesTagged w.tag es then none
      else some (swatchRecord (spFORMAT w.plan) t w.tag (s.dir c t) false false es)

/-- The swatch's read of its next tile, when it is not spilled. -/
def State.swatchReads (s : State) (c : Nat) (w : SwatchRun) : State :=
  let t := spFIRST w.plan + w.next
  if w.spill.any fun e => e.1 == t then s else
  let d := s.dir c t
  let s := s.foremanReads c (s.dirAddr c t) 32
  match s.narrowOf c w t with
  | some a => s.foremanReads c a 4256
  | none => s.foremanReads c (d.addr t) (tileSize d.wide)

/-- The swatch ends with a status, code and reason; its spill reserve is released (R394). -/
def State.endSwatch (s : State) (c status code reason : Nat) : State :=
  match (s.ctx c).swatch with
  | none => s
  | some w =>
    let s := s.complete c w.desc status reason code (w.step.toNat + (w.missing <<< 32))
    let s := (s.modCtx c fun x => { x with swatch := none }).showSwatch c
    if status = 0 then s else s.orReg (CTX_PIPE_FLAGS c) 0x20

/-- SWATCH_READ_START (R390): at the boundary of its step the swatch begins to read. -/
def execSwatchReadStart (ctx : Fin 64) (s : State) : Out :=
  let c := ctx.val
  match (s.ctx c).swatch with
  | none => .next s
  | some w =>
    if w.phase ≠ 1 ∨ s.swatchOpen c w = false then .next s else
    let ph := if w.spill.any fun e => e.1 == spFIRST w.plan then 3 else 2
    .next ((s.modCtx c fun x => { x with swatch := some { w with phase := ph } }).showSwatch c)

/-- The entries that a replica's answer gives for a ledger tile. -/
def answerTile (wide : Bool) (a : PeerAnswer) : Option (List LEntry) :=
  match a with
  | .data _ bs => if bs.length = tileSize wide then some (decodeTile wide bs) else none
  | .refuses => none
  | .silent => none

/-- SWATCH_TILE_END (R393): the read of the swatch's next tile ends: with its record, or with UNCORR or LATE, and then with
what a replica answers, or MISSING. -/
def execSwatchTileEnd (ctx : Fin 64) (how : Option TierEnd) (answer : PeerAnswer) (s : State) : Out :=
  let c := ctx.val
  match (s.ctx c).swatch with
  | none => .next s
  | some w =>
    if w.phase < 2 ∨ spNTILES w.plan ≤ w.next then .next s else
    let t := spFIRST w.plan + w.next
    match if how.isSome && !(w.spill.any fun e => e.1 == t) then none else s.nextRecord c w with
    | some r => .next ((s.swatchReads c w).putRecord c w r false)
    | none =>
      let s := s.noteEnd c (match how with | some .late => 5 | some .uncorr => 4 | none => if s.crateRetired c (((s.narrowOf c w t).map (· / 65536)).getD (s.dir c t).lcrate) then 6 else 4)
      let s := match s.replicas c with
        | [] => s
        | m :: _ => s.sendFetch c m 3 2 t 0 (.swatchTile t)
      match (answerTile (s.dir c t).wide answer).filter (entriesTagged w.tag) with
      | some es => .next (s.putRecord c w (swatchRecord (spFORMAT w.plan) t w.tag (s.dir c t) false false es) false)
      | none => .next (s.putRecord c w (swatchRecord (spFORMAT w.plan) t w.tag (s.dir c t) true false []) true)

/-- Deliver records while the next one can be read. -/
def State.deliverRecords (s : State) (c : Nat) : Nat → State
  | 0 => s
  | n + 1 =>
    match (s.ctx c).swatch with
    | none => s
    | some w =>
      if spNTILES w.plan ≤ w.next then s else
      match s.nextRecord c w with
      | some r => ((s.swatchReads c w).putRecord c w r false).deliverRecords c n
      | none => s

/-- The swatch header (R392). -/
def swatchHeader (w : SwatchRun) : Nat :=
  sealRec (spFORMAT w.plan + (w.tag <<< 8) + (w.step.toNat <<< 16) + (spFIRST w.plan <<< 48) + (spNTILES w.plan <<< 80)
    + (recSize (spFORMAT w.plan) <<< 112) + (w.missing <<< 128))

/-- SWATCH_COMPLETE (R392, R393): the records whose reads end soundly are delivered; once every record is, the header is. -/
def execSwatchComplete (ctx : Fin 64) (s : State) : Out :=
  let c := ctx.val
  match (s.ctx c).swatch with
  | none => .next s
  | some w0 =>
    if w0.phase < 2 then .next s else
    let s := s.deliverRecords c (spNTILES w0.plan)
    match (s.ctx c).swatch with
    | none => .next s
    | some w =>
      if w.next < spNTILES w.plan then .next s else
      let s := s.swatchPut c w.plan 0 (leBytes 32 (swatchHeader w))
      .next (if w.missing = 0 then s.endSwatch c 0 0 0 else s.endSwatch c 2 4 0x21)

end Sys2Proof.Machine
end

