-- ==== Sys2Proof/Machine/Commit.lean ====
section
/-! DEFINITION. The commit of a step (R364 to R368): norm pass and apply, beacons, the step boundary (R27), the recovery walk,
and the rebuild of a ledger from a replica (R425, R426). -/

namespace Sys2Proof.Machine

/-! Counts and beacons. -/

/-- The sealed counts MBS and TOKENS of the open step (R350). -/
def State.sealedCounts (s : State) (c : Nat) : Nat × Nat :=
  match ((s.ctx c).sealed.filterMap fun e => e.2).head? with
  | some q => (swMBS q.word, swTOKENS q.word)
  | none => Config.bareCounts

/-- The module is a listener in its job (R425). -/
def Ctx.listening (x : Ctx) : Bool :=
  match x.listen with
  | .member => false
  | .listener _ _ => true

/-- A commit beacon (R365). -/
def commitBeacon (module ctx step mbs tokens : Nat) (rebuild : Bool) : W256 :=
  let n := module + (ctx <<< 24) + (step <<< 32) + ((mbs % 2 ^ 24) <<< 64) + ((tokens % 2 ^ 48) <<< 88) + bitN rebuild 136
  let crc := crcMsb 16 0x1021#16 0xFFFF#16 (leBytes 30 n)
  BitVec.ofNat 256 (n + (crc.toNat <<< 240))

def cbMODULE (b : W256) : Nat := fld b 0 17
def cbSTEP (b : W256) : Nat := fld b 32 32
def cbMBS (b : W256) : Nat := fld b 64 24
def cbTOKENS (b : W256) : Nat := fld b 88 48
def cbREBUILD (b : W256) : Bool := bitAt b 136
def beaconGood (b : W256) : Bool :=
  fld b 240 16 == (crcMsb 16 0x1021#16 0xFFFF#16 (leBytes 30 b.toNat)).toNat && fld b 17 7 == 0 && fld b 137 103 == 0

/-! The step boundary (R27). -/

/-- A cellar crate that met an uncorrectable error moves to another slot of its row-bay, poisoned marks included (R274). -/
def State.moveDue (s : State) (c n : Nat) : State :=
  let e := s.entry c n
  if meTier e ≠ 1 then s else
  let loc := meLoc e
  let r := nfld loc 0 6
  let b := nfld loc 6 4
  match s.freeSlot r b with
  | none => s.modCtx c fun x => { x with cellarDue := insertNew n x.cellarDue }
  | some d =>
    let src := cellarBase loc
    let dst := cellarBase (cellarLoc r b d)
    let s := { s with
      cellar := s.cellar.copyTo src 65536 s.cellar dst
      cellarBad := spPut (dst / 32) 2048 (spSlice (src / 32) 2048 s.cellarBad) s.cellarBad
      fresh := s.fresh + 1 }
    let s := (s.placeWipe (.cellar src)).setEntry c n (setFld e 32 28 (cellarLoc r b d))
    s.retire (.slot r b (nfld loc 10 18))

/-- The observation of an activation-gradient entry in the step (R181, R183): the largest that the context's cores have noted, but for
those of doubtful micro-batches. -/
def State.obsOf (s : State) (c i : Nat) : Nat :=
  let x := s.ctx c
  (s.ctxRegions c).foldl (fun m r => (List.range 120).foldl (fun m l =>
    (s.core (s.phys (r * 120 + l))).obs.foldl (fun m e =>
      if e.1 = i ∧ x.doubt.contains e.2.1 = false ∧ x.told.contains e.2.1 = false then obsMax m e.2.2 else m) m) m) 0xFF

/-- The scale histories at the boundary: activation-gradient entries record the step's observations (R181, R182, R188), and a
rebuild request empties the histories of weight-gradient entries, those that are lost starting afresh (R190, R191; assumption
62). -/
def State.advanceScales (s : State) (c tag : Nat) (none_ rebuild : Bool) : State :=
  (List.range (s.scaleCount c)).foldl (fun s i =>
    match (s.ctx c).scaleEntry i with
    | none => if rebuild && (s.ctx c).kindOf i == 2 && !s.gmode c then s.putScale c i (scaleFresh 2) else s
    | some (e, _) =>
      if fld e 144 4 = 1 then
        let obs := if none_ then 0xFF else s.obsOf c i
        s.putScale c i (scaleRecord e obs ((s.scaleByteOf c i).getD (recipeByte 1 obs)) tag false false)
      else if rebuild && !s.gmode c then s.putScale c i (setFld e 132 5 0) else s) s

/-- A listener's ledger stands at the boundary (R426). -/
def State.rebuilt (s : State) (c : Nat) : Bool :=
  s.directoryOk c && s.allTagged c (s.reg (STREAM_STEP_COUNT c)).toNat

/-- Notices to every other module of the job list (R499). -/
def State.notify (s : State) (c code m : Nat) : State :=
  ((s.jobList c).filter (· ≠ s.moduleId)).foldl (fun s d => s.sendExpress c d 0x06 (noticeSub code m 0xFFFF)) s

/-- The job's membership at a step boundary (R425, R426, R499). -/
def State.regroup (s : State) (c : Nat) : State :=
  let s := s.modCtx c fun x => { x with
    removed := (x.removed ++ x.leaving.filter fun m => !x.removed.contains m).filter fun m => !x.joining.contains m
    joining := [], leaving := [] }
  match (s.ctx c).listen with
  | .member => s
  | .listener n ts =>
    if s.rebuilt c then
      let s := s.modCtx c fun x => { x with listen := .member, removed := x.removed.filter (· ≠ s.moduleId) }
      (s.notify c 2 s.moduleId).postEvent c 0x10F (s.reg (STREAM_STEP_COUNT c)) 0#32 0#32
    else s.modCtx c fun x => { x with listen := .listener (n + 1) ts }

/-- A STEP of the context waits (R36). -/
def State.stepWaits (s : State) (c : Nat) : Bool :=
  (s.ctx c).taken.any (fun d => d.opc == 1 && !d.started && d.result.isNone) || s.earlierStep c s.bells

/-- The step boundary: the sealed gradients are released, apply points fall, histories advance, the STEP completes, and the
regions doze when no STEP waits (R27, R28, R33, R36). -/
def State.stepBoundary (s : State) (c : Nat) : State :=
  match (s.ctx c).step with
  | none => s
  | some st =>
    let (mbs, tokens) := s.sealedCounts c
    let tag := s.tag c
    let plan := st.prog
    let partial_ := decide (mbs ≠ plan.jobMbs) || decide (tokens ≠ plan.jobTokens) || st.variant.isNone
    let result := plan.jobMbs % 2 ^ 24 + ((mbs % 2 ^ 24) <<< 24) + ((plan.jobTokens % 2 ^ 48) <<< 48) + ((tokens % 2 ^ 48) <<< 96)
      + (tag <<< 144)
    let s := s.complete c st.desc (if partial_ then 1 else 0) 0 0 result
    let s := s.advanceScales c tag (decide (mbs = 0)) st.rebuild
    let s := if st.rebuild then s.orReg (CTX_SCALE_FLAGS c) 0x20 else s
    let due := (s.ctx c).cellarDue
    let s := s.modCtx c fun x => { x with
      sealed := [], step := none, doubt := [], told := [], cellarDue := [], askHist := x.askHist && x.listening
      map := x.map.map fun e => (e.1, setBit (setFld e.2 8 8 (meCount e.2 / 2)) 6 false) }
    let s := (s.setReg (STREAM_STEP_COUNT c) (s.reg (STREAM_STEP_COUNT c) + 1#32)).setPhase c 0
    let s := s.setRegFld (STREAM_LEDGER_STATUS c) 0 3 0
    let s := s.setReg (STREAM_STATUS c) 0#32
    let s := s.setRegFld (HEALTH_SEC_STATUS c) 16 16 (min 65535 (s.regFld (HEALTH_SEC_STATUS c) 16 16 + 1))
    let s := due.foldl (fun s n => s.moveDue c n) s
    let s := ((s.mendScales c).showRebuild c).regroup c
    -- the apply points of R15 and R33
    let rs := s.ctxRegions c
    let s := s.applyStaged fun a => ctxWindow c a || rs.any fun r => a == REGION_CLOCK_REQ r
    let s := if (List.range 64).any s.inStep then s else s.applyStaged fun a => a == CARAVAN_RETRY_TIME || a == CARAVAN_RETRY_COUNT
    let s := s.applySched c
    if s.stepWaits c then s else
    rs.foldl (fun s r => if s.powerOf r = 0 ∧ ¬ s.isDark r then s.setPower r 1 else s) s

/-! Beacons (R364, R365). -/

/-- Every beacon of the commit set has been counted: the step is released. -/
def State.tryRelease (s : State) (c : Nat) : State :=
  match (s.ctx c).step with
  | none => s
  | some st => if s.phase c = 6 ∧ (s.commitSet c).all st.beacons.contains = true then s.stepBoundary c else s

/-- Count a beacon of the open step, or refuse it. -/
def State.countBeacon (s : State) (c : Nat) (b : W256) : State :=
  let (mbs, tokens) := s.sealedCounts c
  if beaconGood b = false ∨ cbMBS b ≠ mbs % 2 ^ 24 ∨ cbTOKENS b ≠ tokens % 2 ^ 48 then s.orReg (STREAM_LEDGER_FLAGS c) 8
  else s.modStep c fun st => { st with beacons := insertNew (cbMODULE b) st.beacons, rebuild := st.rebuild || cbREBUILD b }

/-- This module's beacon, and those that it has held for the step (R364). A listener is in no commit set and sends none. -/
def State.sendBeacon (s : State) (c : Nat) : State :=
  let step := s.reg (STREAM_STEP_COUNT c)
  let (mbs, tokens) := s.sealedCounts c
  let ask := (s.ctx c).askHist
  let b := commitBeacon s.moduleId c step.toNat mbs tokens ask
  let others := if (s.ctx c).listening then [] else (s.commitSet c).filter (· ≠ s.moduleId)
  let s := others.foldl (fun s m => s.sendExpress c m 0x04 b) s
  let s := s.modStep c fun st => { st with beacons := insertNew s.moduleId st.beacons, rebuild := st.rebuild || ask }
  let s := (s.setPhase c 6).setRegFld (STREAM_LEDGER_STATUS c) 0 3 3
  let mine := (s.ctx c).held.filter fun h => cbSTEP h == step.toNat
  let s := s.modCtx c fun x => { x with held := x.held.filter fun h => cbSTEP h != step.toNat }
  (mine.foldl (fun s h => s.countBeacon c h) s).tryRelease c

/-- A beacon reaches the context. One whose CRC fails names nothing and is only noted. -/
def State.takeBeacon (s : State) (c : Nat) (beacon : W256) : State :=
  if s.ctxState c ≠ 1 then s else
  let n := (s.reg (STREAM_STEP_COUNT c)).toNat
  if beaconGood beacon = false then s.orReg (STREAM_LEDGER_FLAGS c) 8
  else if !(s.commitSet c).contains (cbMODULE beacon) || cbMODULE beacon == s.moduleId then s
  else if cbSTEP beacon = n ∧ s.inStep c = true ∧ s.phase c = 6 then (s.countBeacon c beacon).tryRelease c
  else if cbSTEP beacon = n ∨ cbSTEP beacon = (n + 1) % 2 ^ 32 then
    s.modCtx c fun x => { x with held := insertNew beacon x.held }
  else s

/-- BEACON_RECEIVE (R364, R365). -/
def execBeaconReceive (ctx : Fin 64) (beacon : W256) (s : State) : Out := .next (s.takeBeacon ctx beacon)

/-- COMMIT_DEADLINE (R364): the silent modules leave the commit set, and the step is released. A listener removes no one. -/
def execCommitDeadline (ctx : Fin 64) (s : State) : Out :=
  let c := ctx.val
  match (s.ctx c).step with
  | none => .next s
  | some st =>
    let silent := (s.commitSet c).filter fun m => !st.beacons.contains m
    if s.phase c ≠ 6 ∨ silent = [] then .next s else
    if (s.ctx c).listening then .next (s.stepBoundary c) else
    let s := s.modCtx c fun x => { x with removed := x.removed ++ silent }
    let s := silent.foldl (fun s m => s.notify c 1 m) s
    let low := silent.foldl min (silent.headD 0)
    let s := s.postEvent c 0x10D (w32 silent.length) (w32 low) 0#32
    .next ((s.orReg (STREAM_LEDGER_FLAGS c) 0x10).stepBoundary c)

/-! Norm pass and apply (R359, R361, R364). -/

/-- A sealed tile with the step's tag is held for every ledger tile (R350). -/
def State.allSealed (s : State) (c : Nat) : Bool :=
  (List.range (s.tiles c)).all fun t => ((s.ctx c).sealedTile t).any fun q => swTAG q.word == s.tag c

/-- The first ledger tile of the module's lowest shard. -/
def State.lowShard (s : State) (c : Nat) : Nat :=
  match (s.shards c).map (·.first) with
  | [] => 0
  | a :: t => t.foldl min a

/-- Every module of the commit set has sent its norm: gscale follows. -/
def State.tryScale (s : State) (c : Nat) : State :=
  match (s.ctx c).step with
  | none => s
  | some st =>
    let b := s.stepOpt c
    if !(f32 b.normMax).isZero && (s.commitSet c).all (fun m => st.norms.any fun e => e.1 == m) then
      s.modStep c fun st => { st with gscale := gscaleOf b.normMax (st.norms.filter fun e => (s.commitSet c).contains e.1) }
    else s

/-- Whether gscale is known. -/
def State.scaleKnown (s : State) (c : Nat) (st : StepRun) : Bool :=
  (f32 (s.stepOpt c).normMax).isZero || (s.commitSet c).all fun m => st.norms.any fun e => e.1 == m

/-- APPLY_START (R350, R359, R364). -/
def execApplyStart (ctx : Fin 64) (s : State) : Out :=
  let c := ctx.val
  let s' := s.tryGates c
  if !(s.inStep c && s.phase c == 4 && s.foremanOn && s'.allSealed c) then .next s else
  let s := (s'.setPhase c 5).setRegFld (STREAM_LEDGER_STATUS c) 0 3 2
  let s := if (s.ctx c).secure.isSome then s.orReg (HEALTH_SEC_FLAGS c) 0x10 else s
  if (f32 (s.stepOpt c).normMax).isZero then .next s else
  let own := s.ownNorm c
  let first := s.lowShard c
  let others := ((s.jobList c).filter fun m => m != s.moduleId && !(s.ctx c).removed.contains m)
  let s := others.foldl (fun s m => s.sendExpress c m 0x05 (normSub first own)) s
  .next ((s.modStep c fun st => { st with norms := st.norms ++ [(s.moduleId, first, own)] }).tryScale c)

/-- A module's norm sum is noted. -/
def State.noteNorm (s : State) (c m first : Nat) (sum : W32) : State :=
  match (s.ctx c).step with
  | none => s
  | some st =>
    if st.norms.any fun e => e.1 == m then s else
    (s.modStep c fun st => { st with norms := st.norms ++ [(m, first, sum)] }).tryScale c

/-- NORM_RECEIVE (R359). -/
def execNormReceive (ctx : Fin 64) (module : Fin 131072) (firstTile : W32) (sum : W32) (s : State) : Out :=
  .next (s.noteNorm ctx module firstTile.toNat sum)

/-- Apply tile `t` of the open step from a sealed tile; an unread swatch record is spilled first (R363, R389). -/
def State.applyOne (s : State) (c t : Nat) (q : Sealed) (st : StepRun) : State :=
  let d := s.dir c t
  let s := (s.foremanReads c (s.dirAddr c t) 32).foremanReads c (d.addr t) (tileSize d.wide)
  (s.spillTile c t).applyTile c t q st.prog.useqs st.gscale

/-- LEDGER_TILE_APPLY (R361 to R363). A tile whose read ends is left to the recovery of R368. -/
def execLedgerTileApply (ctx : Fin 64) (tile : W32) (s : State) : Out :=
  let c := ctx.val
  let t := tile.toNat
  match (s.ctx c).step, (s.ctx c).sealedTile t with
  | some st, some q =>
    if s.phase c = 5 ∧ t < s.tiles c ∧ s.foremanOn = true ∧ s.scaleKnown c st = true ∧ s.tileLost c t = false
        ∧ s.tileTagged c t (s.tag c + 1) = false then
      .next (s.applyOne c t q st)
    else .next s
  | _, _ => .next s

/-- APPLY_COMPLETE (R364): every entry is tagged s + 1. A listener has the tiles that it has fetched. -/
def execApplyComplete (ctx : Fin 64) (s : State) : Out :=
  let c := ctx.val
  let done := match (s.ctx c).listen with
    | .member => s.allTagged c (s.tag c + 1)
    | .listener _ ts => ts.all fun t => s.tileTagged c t (s.tag c + 1)
  if s.inStep c && s.phase c == 5 && s.foremanOn && done then .next (s.sendBeacon c) else .next s

/-! The recovery walk (R368). -/

/-- An entry's tag lies in the window of step s (R367). -/
def inWindow (tag : Nat) (e : LEntry) : Bool := e.tag == tag % 256 || e.tag == (tag + 1) % 256

/-- Write a ledger tile that came from a replica into a spare physical crate; the crate's other tile is kept where it can
still be read. -/
def State.replaceTile (s : State) (c t : Nat) (bs : List Byte) : Option State :=
  let d := s.dir c t
  let n := d.lcrate
  let e := s.entry c n
  let kept := if s.crateRetired c n || s.placeBad (meplace e) 0 2048 then List.replicate 65536 0#8 else s.placeRead (meplace e) 0 65536
  match (if (s.ctx c).awaiting.contains n then s else s.modCtx c fun x => { x with awaiting := x.awaiting ++ [n] }).rehome c n with
  | (_, false) => none
  | (s, true) => some ((s.placeWrite (meplace (s.entry c n)) 0 kept).placeWrite (meplace (s.entry c n)) (d.addr t % 65536) bs)

/-- The sealed tile for a walked tile: this module's own, or one from a replica with the step's tag. -/
def State.walkSealed (s : State) (c t : Nat) (a : PeerAnswer) : Option (Sealed × Bool) :=
  let own := ((s.ctx c).sealedTile t).filter fun q => swTAG q.word == s.tag c
  match own, a with
  | some q, _ => some (q, false)
  | none, .data _ bs =>
    let fp := s.gmode c
    let w := if fp then 4 else 2
    let word : W256 := BitVec.ofNat 256 (leNat (bs.drop (4096 * w)))
    if bs.length = 4096 * w + 32 ∧ recGood word.toNat = true ∧ swTAG word = s.tag c then
      some (⟨word, (chunks w 4096 (bs.take (4096 * w))).map fun b => sext (8 * w) (leNat b)⟩, true)
    else none
  | none, _ => none

/-- The module leaves the commit set and goes on by replica rebuild; the step ends here without its commit (R368). -/
def State.leaveCommit (s : State) (c : Nat) : State :=
  let s := s.modCtx c fun x => { x with listen := .listener 0 [], removed := insertNew s.moduleId x.removed }
  let s := s.endSwatch c 4 0 0
  (s.postEvent c 0x10E (s.reg (STREAM_STEP_COUNT c)) 0#32 0#32).stepBoundary c

/-- One tile of the walk; none when no replica supplies what it needs. -/
def State.walkTile (s : State) (c t : Nat) (st : StepRun) (sealedFrom tileFrom : PeerAnswer) : Option State :=
  let ask (s : State) (kind : Nat) (f : FetchFor) : State := match s.replicas c with
    | [] => s
    | m :: _ => s.sendFetch c m 1 kind t 0 f
  let whole : Option State :=
    if !s.tileLost c t && (s.ledgerTile c t).all (inWindow (s.tag c)) then some s else
    let s := ask s 2 (.ledgerTile t)
    match tileFrom with
    | .data _ bs =>
      match (answerTile (s.dir c t).wide tileFrom).filter fun es => es.all (inWindow (s.tag c)) with
      | some _ => (s.replaceTile c t bs).map fun s => s.bump (STREAM_PEER_LEDGER c) 1
      | none => none
    | .refuses => none
    | .silent => none
  whole.bind fun s =>
    if s.tileTagged c t (s.tag c + 1) then some s else
    match s.walkSealed c t sealedFrom with
    | some (q, fetched) =>
      let s := if fetched then (ask s 1 (.sealedTile t)).bump (STREAM_PEER_SEALED c) 1 else s
      let s := if fetched then s.modCtx c fun x => { x with sealed := spSet (fun _ => none) x.sealed t (some q) } else s
      some (s.applyOne c t q st)
    | none => none

/-- RECOVERY_WALK (R368): the next ledger tile of the walk; after the last one the beacon goes out. -/
def execRecoveryWalk (ctx : Fin 64) (sealedFrom tileFrom : PeerAnswer) (s : State) : Out :=
  let c := ctx.val
  match (s.ctx c).step with
  | none => .next s
  | some st =>
    if ¬ (s.phase c = 5 ∧ s.foremanOn = true ∧ s.scaleKnown c st = true) then .next s else
    let s := (s.orReg (STREAM_LEDGER_FLAGS c) 0x20).setRegFld (STREAM_LEDGER_STATUS c) 0 3 4
    if s.tiles c ≤ st.applied then .next (s.sendBeacon c) else
    match s.walkTile c st.applied st sealedFrom tileFrom with
    | none => .next (s.leaveCommit c)
    | some s =>
      let s := s.modStep c fun st => { st with applied := st.applied + 1 }
      if s.tiles c ≤ st.applied + 1 then .next (s.sendBeacon c) else .next s

/-! Replica rebuild (R425, R426). -/

/-- The context enters its job as a listener: its activation-gradient entries start at FILL 0 (R190, R425). -/
def State.becomeListener (s : State) (c : Nat) : State :=
  let s := s.modCtx c fun x => { x with listen := .listener 0 [], removed := insertNew s.moduleId x.removed }
  let s := (List.range (s.scaleCount c)).foldl (fun s i => match (s.ctx c).scaleEntry i with
    | some (e, _) => if fld e 144 4 = 1 then s.putScale c i (setFld e 132 5 0) else s
    | none => s) s
  ((s.showRebuild c).endSwatch c 4 0 0).postEvent c 0x10E (s.reg (STREAM_STEP_COUNT c)) 0#32 0#32

/-- A replica's answer for a ledger tile: directory record, tile and weight-gradient scale entry, one after another
(assumption 16). -/
def rebuildParts (bs : List Byte) : Option (Nat × List Byte × W256) :=
  let v := leNat (bs.take 32)
  let d := dirRec v
  let n := tileSize d.wide
  if d.good && bs.length == 64 + n then some (v, (bs.drop 32).take n, BitVec.ofNat 256 (leNat (bs.drop (32 + n)))) else none

/-- A listener takes one ledger tile: its directory record, its entries and its scale entry are written, and its narrow copy is
regenerated; a tile of the open step is applied when the apply has begun (R426). -/
def State.takeTile (s : State) (c t : Nat) (v : Nat) (bs : List Byte) (e : W256) : State :=
  let s := (s.tensorWrite c (s.dirAddr c t) (leBytes 32 v) true).1
  let d := s.dir c t
  let es := decodeTile d.wide bs
  let s := (s.tensorWrite c (d.addr t) bs true).1.writeNarrow c d es
  let s := if s.gmode c then s
    else match s.weightEntry c t with
      | some i => if scaleGood e then (s.putScale c i e).orReg (CTX_SCALE_FLAGS c) 0x10 else s.modCtx c fun x => { x with askHist := true }
      | none => s
  let s := (s.bump (STREAM_PEER_LEDGER c) 1).modCtx c fun x => { x with listen := match x.listen with
    | .listener n ts => .listener n (insertNew t ts)
    | .member => .member }
  match (s.ctx c).step, (s.ctx c).sealedTile t with
  | some st, some q =>
    if 5 ≤ s.phase c ∧ s.scaleKnown c st = true ∧ s.tileTagged c t (s.tag c + 1) = false then s.applyOne c t q st else s
  | _, _ => s

/-- REPLICA_REBUILD (R425, R426): a member that is not in a step becomes a listener; a listener fetches a ledger tile, which it
keeps when its entries lie in the window. -/
def execReplicaRebuild (ctx : Fin 64) (tile : W32) (answer : PeerAnswer) (s : State) : Out :=
  let c := ctx.val
  let t := tile.toNat
  if s.ctxState c ≠ 1 then .next s else
  match (s.ctx c).listen with
  | .member => if s.inStep c then .next s else .next (s.becomeListener c)
  | .listener _ _ =>
    if s.tiles c ≤ t then .next s else
    let s := match s.replicas c with
      | [] => s
      | m :: _ => s.sendFetch c m 3 5 t 0 (.ledgerTile t)
    match answer with
    | .data _ bs => match rebuildParts bs with
      | some (v, tb, e) =>
        let es := decodeTile (dirRec v).wide tb
        if es.all (inWindow (s.tag c)) then .next (s.takeTile c t v tb e) else .next s
      | none => .next s
    | .refuses => .next s
    | .silent => .next s

/-- REBUILD_STALLED (R426). -/
def execRebuildStalled (ctx : Fin 64) (s : State) : Out :=
  match (s.ctx ctx).listen with
  | .member => .next s
  | .listener n _ => if 16 ≤ n then .next (s.postEvent ctx 0x110 (s.reg (STREAM_STEP_COUNT ctx)) 0#32 0#32) else .next s

end Sys2Proof.Machine
end

