-- ==== Sys2Proof/Machine/Secure.lean ====
section
/-! DEFINITION. Securing (R419 to R424, R460): secured images, their two slots at a keeping peer or in host memory, keeping them
for peers; LEDGER_INIT, which reads one (R459); and the end of a host access (R462). -/

namespace Sys2Proof.Machine

/-! Images (R422, R423). -/

/-- A secured image header. -/
def secureHeader (slotB gmode risk : Bool) (ctx step ntiles nscale module bytes : Nat) : Nat :=
  sealRec (1 + bitN slotB 8 + bitN gmode 9 + bitN risk 10 + (ctx <<< 16) + (((step + 1) % 256) <<< 24) + (step <<< 32)
    + ((ntiles % 2 ^ 25) <<< 64) + (nscale <<< 96) + (module <<< 128) + (bytes <<< 160))

def siGMODE (h : Nat) : Bool := nfld h 9 1 == 1
def siTAG (h : Nat) : Nat := nfld h 24 8
def siSTEP (h : Nat) : Nat := nfld h 32 32
def siNTILES (h : Nat) : Nat := nfld h 64 25
def siNSCALE (h : Nat) : Nat := nfld h 96 32
def siBYTES (h : Nat) : Nat := nfld h 160 64
/-- VERSION and CRC hold. -/
def siGood (h : Nat) : Bool := recGood h && nfld h 0 8 == 1

/-- The image's bytes after its header: directory records, ledger tiles, scale-ledger entries of the first copy. -/
def State.imageBody (s : State) (c : Nat) : List Byte :=
  let n := s.tiles c
  s.tensorRead c (s.dirAddr c 0) (32 * n)
  ++ ((List.range n).flatMap fun t => let d := s.dir c t; s.tensorRead c (d.addr t) (tileSize d.wide))
  ++ ((List.range (s.scaleCount c)).flatMap fun i => leBytes 32 (spGet (fun _ => 0#256) (s.ctx c).scaleA i).toNat)

/-- Where tile `t` lies in an image. -/
def State.imageTileAt (s : State) (c t : Nat) : Nat :=
  32 + 32 * s.tiles c + ((List.range t).map fun i => tileSize (s.dir c i).wide).foldl (· + ·) 0

/-- SECURE (R419, R460): it captures the next step boundary. -/
def execSecure (ring : Fin 16384) (index : Fin 65536) (s : State) : Out :=
  match s.ready? ring index 6 with
  | none => .next s
  | some (c, d) =>
    let s := s.start c d.no
    let dest := s.effFld (HEALTH_SEC_CONTROL c) 16 2
    if dest = 0 ∨ dest = 3 then .next (s.complete c d.no 3 0x08) else
    let n := (s.reg (STREAM_STEP_COUNT c)).toNat
    .next (s.modCtx c fun x => { x with secureQ := x.secureQ ++ [(d.no, n)] })

/-! Writing an image. -/

/-- A PUT's subheader for a securing, chosen: [48] set, the slot in [49], the first byte in [127:64], the image's size in
[191:128] (assumption 16). -/
def keepSub (slotB : Bool) (off size : Nat) : W256 := BitVec.ofNat 256 (2 ^ 48 + bitN slotB 49 + (off <<< 64) + (size <<< 128))

/-- Bytes of an image reach the destination, from byte `off` of the image. -/
def State.securePut (s : State) (c : Nat) (q : SecureRun) (off : Nat) (bs : List Byte) : State :=
  if q.dest = 2 then
    let base := q.addr + (if q.slotB then Config.secSlotB q.image.length else 0)
    s.hostWrite (s.ctxPort c) ((base + off) % 2 ^ 64) bs
  else
    (pieceCuts off (bs.length / 4096 + 2) bs).foldl (fun s e =>
      s.sendParts c q.peer 3 0x21 none (keepSub q.slotB e.1 q.image.length) [e.2]) s

/-- Every part but the header, once every tile has been read. -/
def State.secureBody (s : State) (c : Nat) : State :=
  match (s.ctx c).secure with
  | none => s
  | some q => if q.lost = [] then s.securePut c q 32 (q.image.drop 32) else s

/-- A replica is asked for a tile that a securing could not read (R422). -/
def State.askSecure (s : State) (c t place : Nat) : State :=
  match (s.replicas c)[place]? with
  | some m => s.sendFetch c m 3 2 t 0 (.secureTile t)
  | none => s

/-- A risk-driven securing is due (R421). -/
def State.riskDue (s : State) (c : Nat) : Bool :=
  s.effFld (HEALTH_SEC_CONTROL c) 18 1 == 1 && !(s.ctx c).riskDone &&
  decide (max 1 (s.effFld HEALTH_CONTROL 0 3) ≤ s.regFld HEALTH_RISK 0 3)

/-- Which securing is due: 3 for a SECURE whose boundary has passed, 1 periodic, 2 risk-driven (R421, R422). -/
def State.secureDue (s : State) (c : Nat) : Option Nat :=
  let n := (s.reg (STREAM_STEP_COUNT c)).toNat
  if (s.ctx c).secureQ.any fun e => decide (e.2 < n) then some 3
  else if max 1 (s.effFld (HEALTH_SEC_CONTROL c) 0 16) ≤ s.regFld (HEALTH_SEC_STATUS c) 16 16 then some 1
  else if s.riskDue c then some 2 else none

/-- SECURE_START (R419 to R422): the image of the last step boundary is captured; it can be as long as no apply of the next step
has begun. -/
def execSecureStart (ctx : Fin 64) (s : State) : Out :=
  let c := ctx.val
  let dest := s.effFld (HEALTH_SEC_CONTROL c) 16 2
  if s.ctxState c ≠ 1 ∨ ¬ (dest = 1 ∨ dest = 2) ∨ (s.ctx c).secure.isSome = true ∨ 5 ≤ s.phase c then .next s else
  match s.secureDue c with
  | none => .next s
  | some kind =>
    let step := s.reg (STREAM_STEP_COUNT c) - 1#32
    let slotB := s.reg (HEALTH_SEC_COUNT c) != 0#32 && !s.regBit (HEALTH_SEC_STATUS c) 2
    let body := s.imageBody c
    let n := 32 + body.length
    let h := secureHeader slotB (s.gmode c) (kind == 2) c step.toNat (s.tiles c) (s.scaleCount c) s.moduleId n
    let mine := (s.ctx c).secureQ.filter fun e => decide (e.2 < (s.reg (STREAM_STEP_COUNT c)).toNat)
    let lost := (List.range (s.tiles c)).filter fun t => s.tileLost c t || !s.tileTagged c t (step.toNat + 1)
    let q : SecureRun := {
      kind := kind, waits := mine.map (·.1), step := step, image := leBytes 32 h ++ body, dest := dest,
      peer := s.effFld (HEALTH_SEC_PEER c) 0 17
      addr := (s.eff (HEALTH_SEC_ADDR_LO c)).toNat / 4096 * 4096 + (s.eff (HEALTH_SEC_ADDR_HI c)).toNat * 2 ^ 32
      slotB := slotB, lost := lost.map fun t => (t, 0) }
    let s := s.modCtx c fun x => { x with
      secure := some q, secureQ := x.secureQ.filter fun e => !decide (e.2 < (s.reg (STREAM_STEP_COUNT c)).toNat) }
    let s := s.setRegFld (HEALTH_SEC_STATUS c) 0 2 kind
    let s := lost.foldl (fun s t => s.askSecure c t 0) s
    .next (s.secureBody c)

/-- A securing completes or fails for its SECURE descriptors. -/
def State.secureDone (s : State) (c : Nat) (q : SecureRun) (status code reason : Nat) : State :=
  q.waits.foldl (fun s e => s.complete c e status reason code (q.step.toNat + bitN q.slotB 32)) s

/-- SECURED (R420): the slot header is written last, and the image is complete. -/
def execSecured (ctx : Fin 64) (s : State) : Out :=
  let c := ctx.val
  match (s.ctx c).secure with
  | none => .next s
  | some q =>
    if q.lost ≠ [] then .next s else
    let s := s.securePut c q 0 (q.image.take 32)
    let count := (s.reg (STREAM_STEP_COUNT c)).toNat
    -- a SECURE or a securing on risk that became due meanwhile for the same boundary is satisfied by it (R422)
    let same := (s.ctx c).secureQ.filter fun e => e.2 == q.step.toNat
    let q := { q with waits := q.waits ++ same.map (·.1) }
    let risk := q.kind == 2 || (s.riskDue c && (q.step + 1#32).toNat == count)
    let s := s.secureDone c q 0 0 0
    let s := s.modCtx c fun x => { x with
      secure := none, riskDone := x.riskDone || risk, secureQ := x.secureQ.filter fun e => e.2 != q.step.toNat }
    let since := min 65535 ((count + 2 ^ 32 - (q.step.toNat + 1)) % 2 ^ 32)
    let s := s.setReg (HEALTH_SEC_STATUS c) (w32 (bitN q.slotB 2 + (since <<< 16)))
    let s := ((s.setReg (HEALTH_SEC_STEP c) q.step).bump (HEALTH_SEC_COUNT c) 1).orReg (HEALTH_SEC_FLAGS c) 1
    .next (s.postEvent c 0x10B q.step (w32 (bitN q.slotB 0)) 0#32)

/-- A securing fails (R422): 0 tile read, 1 refused, 2 silent, 4 no room. -/
def State.secureFails (s : State) (c reason : Nat) : State :=
  match (s.ctx c).secure with
  | none => s
  | some q =>
    let code := match q.lost with
      | e :: _ => if s.crateRetired c (s.dir c e.1).lcrate then 6 else 4
      | [] => 4
    let s := if reason = 0 then s.secureDone c q 2 code 0x21 else s.secureDone c q 2 0 0x22
    let s := (s.modCtx c fun x => { x with secure := none }).setRegFld (HEALTH_SEC_STATUS c) 0 2 0
    let s := s.orReg (HEALTH_SEC_FLAGS c) (2 + (if reason = 4 then 4 else 0) + (if reason = 2 then 8 else 0))
    s.postEvent c 0x10C q.step (w32 reason) 0#32

/-- SECURE_FAILED (R422). A teardown ends its securing itself. -/
def execSecureFailed (ctx : Fin 64) (reason : Fin 5) (s : State) : Out :=
  .next (if reason.val = 3 then s else s.secureFails ctx reason)

/-- A replica's answer for a tile that a securing could not read: it goes into the image, or the next peer is asked, and at the
end of the list the securing fails (R422). -/
def State.secureAnswer (s : State) (c t : Nat) (bs : Option (List Byte)) : State :=
  match (s.ctx c).secure with
  | none => s
  | some q => match q.lost.find? fun e => e.1 == t with
    | none => s
    | some (_, place) =>
      let wide := (s.dir c t).wide
      let good := match bs with
        | some b => b.length == tileSize wide && (decodeTile wide b).all fun e => e.tag == (q.step.toNat + 1) % 256
        | none => false
      if good then
        let b := bs.getD []
        let at_ := s.imageTileAt c t
        let image := q.image.take at_ ++ b ++ q.image.drop (at_ + b.length)
        (s.modCtx c fun x => { x with secure := some { q with image := image, lost := q.lost.filter fun e => e.1 != t } }).secureBody c
      else if place + 1 < (s.replicas c).length then
        (s.modCtx c fun x => { x with secure := some { q with
          lost := q.lost.map fun e => if e.1 = t then (t, place + 1) else e } }).askSecure c t (place + 1)
      else s.secureFails c 0

/-! Keeping images for peers (R420). -/

/-- Bytes of one of the two slots of a keeping share. -/
def State.slotSize (s : State) : Nat :=
  65536 * (s.reg QUOTA_KEEP_RESERVE).toNat / clampNat 1 16 (s.reg QUOTA_KEEP_CLIENTS).toNat / 2

/-- A securing module has a share, or one is left for it, and its image fits half of it. -/
def State.keepRoom (s : State) (m size : Nat) : Bool :=
  (s.keep.any (fun k => k.module == m) || decide (s.keep.length < clampNat 1 16 (s.reg QUOTA_KEEP_CLIENTS).toNat)) &&
  decide (size ≤ s.slotSize)

/-- Bytes of an image put into a share's slot. -/
def KeepShare.put (k : KeepShare) (slotB : Bool) (off : Nat) (bs : List Byte) : KeepShare :=
  if slotB then { k with slotB := k.slotB.write off bs } else { k with slotA := k.slotA.write off bs }

/-- An image's piece is kept; nothing is kept beyond its share's half. -/
def State.keepPiece (s : State) (m size : Nat) (slotB : Bool) (off : Nat) (bs : List Byte) : State :=
  if !s.keepRoom m size || decide (size < off + bs.length) then s else
  let s := if s.keep.any (fun k => k.module == m) then s else { s with keep := s.keep ++ [(⟨m, [], []⟩ : KeepShare)] }
  { s with keep := s.keep.map fun k => if k.module = m then k.put slotB off bs else k }

/-- SECURE_IMAGE_RECEIVE (R420). -/
def execSecureImageReceive (module : Fin 131072) (size : Nat) (slotB : Bool) (offset : Nat) (bytes : List Byte) (s : State) : Out :=
  .next (s.keepPiece module size slotB offset bytes)

/-- The kept image of a module: slot A, slot B, or the newest complete one (R459). -/
def State.keptImage (s : State) (m slot : Nat) : Option (List Byte) :=
  match s.keep.find? fun k => k.module == m with
  | none => none
  | some k =>
    let hdr (x : Mem) : Nat := x.readNat 0 32
    let image (x : Mem) : Option (List Byte) := if siGood (hdr x) then some (x.read 0 (siBYTES (hdr x))) else none
    match slot with
    | 0 => image k.slotA
    | 1 => image k.slotB
    | _ =>
      if siGood (hdr k.slotA) && (!siGood (hdr k.slotB) || decide (siSTEP (hdr k.slotB) ≤ siSTEP (hdr k.slotA))) then image k.slotA
      else image k.slotB

/-! LEDGER_INIT (R459). -/

/-- An image as it is read: its header, directory records, ledger tiles and scale entries. -/
structure LedgerImage where
  hdr   : Nat
  dirs  : List Nat
  tiles : List (List Byte)
  scale : List W256
deriving Repr

/-- The tiles of an image from byte `off` on. -/
def readTiles (rd : Nat → Nat → List Byte) : List Nat → Nat → List (List Byte) × Nat
  | [], off => ([], off)
  | v :: vs, off =>
    let n := tileSize (dirRec v).wide
    let r := readTiles rd vs (off + n)
    (rd off n :: r.1, r.2)

def readImageFrom (rd : Nat → Nat → List Byte) : LedgerImage :=
  let h := leNat (rd 0 32)
  if !siGood h then ⟨h, [], [], []⟩ else
  let n := siNTILES h
  let dirs := (chunks 32 n (rd 32 (32 * n))).map leNat
  let (tiles, off) := readTiles rd dirs (32 + 32 * n)
  ⟨h, dirs, tiles, (chunks 32 (siNSCALE h) (rd off (32 * siNSCALE h))).map fun b => BitVec.ofNat 256 (leNat b)⟩

/-- R459's first list: LEDGER_IMAGE. -/
def State.imageBad (s : State) (c : Nat) (m : LedgerImage) : Bool :=
  !siGood m.hdr || siGMODE m.hdr != s.gmode c || siNTILES m.hdr != s.tiles c ||
  (List.zipWith (fun v bs => (decodeTile (dirRec v).wide bs).any fun e => e.tag != siTAG m.hdr) m.dirs m.tiles).any id

/-- The crates that LEDGER_INIT writes: directory, ledger tiles and narrow tiles. -/
def State.initCrates (s : State) (c : Nat) (m : LedgerImage) : List Nat :=
  let dir := s.dirAddr c 0 / 65536
  let narrow := m.dirs.flatMap fun v =>
    let d := dirRec v
    match s.tileAddr c d.ntensor d.ntile with
    | some a => (spans a (if d.fp4 then 69 else 133)).map (·.1)
    | none => []
  ((List.range ((32 * m.dirs.length + 65535) / 65536)).map (dir + ·) ++ m.dirs.map (fun v => (dirRec v).lcrate) ++ narrow).eraseDups

/-- Write bytes that live in the stockroom. -/
def State.stockWrite (s : State) (c addr : Nat) (bs : List Byte) : State :=
  (spans addr ((bs.length + 31) / 32)).foldl (fun (a : State × List Byte) sp =>
    let k := min sp.2.2 a.2.length
    ((a.1.writeCrate c sp.1 sp.2.1 (a.2.take k) 2 0 0 false false true).1, a.2.drop k)) (s, bs) |>.1

/-- Put an image's ledger in place (R423, R459). -/
def State.putLedger (s : State) (c : Nat) (m : LedgerImage) (fresh : Bool) : State :=
  let s := s.stockWrite c (s.dirAddr c 0) (m.dirs.flatMap (leBytes 32))
  let s := (m.dirs.zip m.tiles).zipIdx.foldl (fun s e =>
    let d := dirRec e.1.1
    (s.stockWrite c (d.addr e.2) e.1.2).writeNarrow c d (decodeTile d.wide e.1.2)) s
  let s := m.scale.zipIdx.foldl (fun s e =>
    s.putScale c e.2 (if fresh then scaleFresh (fld e.1 144 4) else e.1)) s
  s.showRebuild c

/-- Where LEDGER_INIT reads its image (R459): the tensor range, host memory, or what the keeping peer sends. -/
def State.initSource (s : State) (c : Nat) (d : Desc) (answer : PeerAnswer) (off n : Nat) : List Byte :=
  let a := d.f 128 64
  match d.f 64 2 with
  | 0 => s.tensorRead c (a % 2 ^ 48 + off) n
  | 1 => s.hostRead (s.ctxPort c) ((a + off) % 2 ^ 64) n
  | _ =>
    let bs : List Byte := match answer with
      | .data _ bs => bs
      | .refuses => []
      | .silent => []
    let b := (bs.drop off).take n
    b ++ List.replicate (n - b.length) 0#8

/-- LEDGER_INIT (R423, R459). An image that the keeping peer does not supply cannot be read, and is refused as a bad image. -/
def execLedgerInit (ring : Fin 16384) (index : Fin 65536) (answer : PeerAnswer) (s : State) : Out :=
  match s.ready? ring index 4 with
  | none => .next s
  | some (c, d) =>
    let s := s.start c d.no
    let m := readImageFrom (s.initSource c d answer)
    if (s.ctx c).noMap then .next ((s.noteEnd c 6).complete c d.no 2 0x21 6) else
    let bad := s.imageBad c m
    let tensors := m.dirs.all fun v => (dirRec v).good && s.tensorGood c (dirRec v).ntensor
    let code := s.moveQuota c 2 0 0 (s.initCrates c m)
    let s := if d.f 64 2 = 2 then s.sendFetch c (d.f 128 64 % 2 ^ 17) 3 3 (d.f 67 2) 0 (.piece 0)
      else if d.f 64 2 = 0 then s.foremanReads c (d.f 128 64 % 2 ^ 48) 64 else s
    if bad then .next (s.complete c d.no 3 0x0C)
    else if tensors = false then .next (s.complete c d.no 3 0x06)
    else
      if code ≠ 0 then .next ((s.noteEnd c code).complete c d.no 3 0x03 code) else
      let count := w32 (siSTEP m.hdr + 1)
      let s := (s.putLedger c m (d.f 66 1 == 1)).setReg (STREAM_STEP_COUNT c) count
      .next ((s.endSwatch c 4 0 0).complete c d.no 0 0 0 count.toNat)

/-! Host access errors (R394, R422, R462). -/

/-- The first `n` granules of a MOVE between host memory and the tensor range. -/
def State.movePart (s : State) (c : Nat) (d : Desc) (n : Nat) : State :=
  if n = 0 then s else
  let sps := spans (d.f 192 48) n
  match d.f 64 2 with
  | 0 => (sps.foldl (moveInOne c (s.ctxPort c) (d.f 128 64) (d.f 66 2) (d.f 68 6) (d.f 74 4) (bitAt d.words 78) none) (s, 0, 0)).1
  | 1 => (sps.foldl (moveOutOne c (s.ctxPort c) (d.f 128 64) none) (s, 0, 0)).1
  | _ => s

/-- HOST_ACCESS_ERROR (R394, R422, R462): the descriptor alone ends. A MOVE has moved the granules before the failing access,
whose number the spec leaves open. -/
def execHostAccessError (ring : Fin 16384) (index : Fin 65536) (_ : HostError) (s : State) : Out :=
  let c := s.ringCtx ring
  if s.ctxState c = 0 then .next s else
  match s.named c ring index with
  | none => .next s
  | some d =>
    let s := s.orReg (CTX_HOST_FLAGS c) 0x20
    if (s.ctx c).swatch.any fun w => w.desc == d.no then
      .next (s.endSwatch c 2 0 0x20)
    else if (s.ctx c).secure.any fun q => q.waits.contains d.no then .next (s.secureFails c 1)
    else if d.started then .next (s.complete c d.no 2 0x20)
    else if d.opc = 3 ∨ d.opc = 4 ∨ d.opc = 8 then
      let (n, s) := s.free
      let moved := if d.opc = 3 then n % (d.f 256 32 + 1) else 0
      .next (((s.start c d.no).movePart c d moved).complete c d.no 2 0x20 0 moved)
    else .next ((s.modDesc c d.no fun d => { d with readable := false }).complete c d.no 2 0x20)

end Sys2Proof.Machine
end

