-- ==== Sys2Proof/Machine/Pipeline.lean ====
section
/-! DEFINITION. Pipeline stages (R370 to R384): slots and their gates, handoffs, staging crates, and what a barrier's release
ends (R31, R344, R374, R378). -/

namespace Sys2Proof.Machine

/-! Handoffs of a step (R377). -/

/-- How many slots before slot `k` name channel `ch`: the number of the handoff of slot `k`. -/
def Program.handoffNo (p : Program) (k ch : Nat) : Nat :=
  ((p.slots.take k).filter fun r => r.inCh == ch || r.outCh == ch).length
/-- The slot whose handoff number on channel `ch` is `q`. -/
def Program.slotOfHandoff (p : Program) (ch q : Nat) : Option SlotRec :=
  (p.slots.filter fun r => r.inCh == ch || r.outCh == ch)[q]?

def StepRun.chan (st : StepRun) (ch : Nat) : ChanState := spGet (fun _ => ChanState.reset) st.chans ch
def StepRun.handoff? (st : StepRun) (ch q : Nat) : Option Handoff := st.handoffs.find? fun h => h.chan == ch && h.q == q
/-- Change a handoff's record, made when it is not there yet. -/
def StepRun.modHandoff (st : StepRun) (ch q : Nat) (f : Handoff → Handoff) : StepRun :=
  match st.handoff? ch q with
  | some _ => { st with handoffs := st.handoffs.map fun h => if h.chan = ch ∧ h.q = q then f h else h }
  | none => { st with handoffs := st.handoffs ++ [f ⟨ch, q, [], [], [], false, false⟩] }

/-- First crate of a handoff's landing slot (R377). -/
def ChanRec.crate (r : ChanRec) (q : Nat) : Nat := r.base + q % max 1 r.depth * r.slotc

/-- The channels of a direction whose peer is this module (R383). -/
def State.selfChans (s : State) (p : Program) (recv : Bool) : List Nat :=
  (p.chans.zipIdx.filter fun e => e.1.peer == s.moduleId && e.1.recv == recv).map (·.2)
/-- The other end of a channel within the module: sending and receiving channels to the module itself pair off in the order of
their numbers (assumption 23). -/
def State.pairOf (s : State) (p : Program) (ch : Nat) : Option Nat :=
  let r := p.chans.getD ch default
  match (s.selfChans p r.recv).idxOf? ch with
  | some i => (s.selfChans p (!r.recv))[i]?
  | none => none

/-- The pass has written all 2,048 granules of the handoff's next staging crate (R378). -/
def Handoff.ready (h : Handoff) : Bool := spGet (fun _ => 0) h.wrote h.crates.length == 2 ^ 2048 - 1
/-- Every crate of a handoff has landed. -/
def Handoff.landed (h : Handoff) (r : ChanRec) : Bool := (List.range (16 * r.slotc)).all h.pieces.contains

/-! The gates of a slot (R374, R378, R379). -/

/-- The ready gate of a slot is open (R324, R334); a recompute slot of streaming mode has no position. -/
def StepRun.readyOpen (st : StepRun) : Bool :=
  let r := st.prog.slots.getD st.slotNo default
  if st.prog.stream.resident then st.opened.contains r.vstage
  else r.pass == 2 || (st.opened.contains st.ended && st.prog.slotOf st.ended == st.slotNo)

/-- The handoff gate of the waiting slot is open. -/
def StepRun.handoffOpen (st : StepRun) : Bool :=
  let r := st.prog.slots.getD st.slotNo default
  r.inCh == 0xFF || (match st.handoff? r.inCh (st.prog.handoffNo st.slotNo r.inCh) with
    | some h => h.ended || h.landed (st.prog.chans.getD r.inCh default)
    | none => false)

/-- The send gate of the waiting slot is open. No frame tells a sender that another module has released a handoff, so toward
another module the gate is taken as open when the slot starts (assumption 24). -/
def State.sendOpen (s : State) (st : StepRun) : Bool :=
  let r := st.prog.slots.getD st.slotNo default
  let ch := st.prog.chans.getD r.outCh default
  r.outCh == 0xFF || ch.peer != s.moduleId ||
  decide (st.prog.handoffNo st.slotNo r.outCh < ch.depth + (st.chan r.outCh).released)

/-- CTX_PIPE_STATUS (R396). -/
def State.showPipe (s : State) (c : Nat) : State :=
  match (s.ctx c).step with
  | none => s.setReg (CTX_PIPE_STATUS c) 0#32
  | some st => match st.prog.slots[st.slotNo]? with
    | none => s.setReg (CTX_PIPE_STATUS c) 0#32
    | some r =>
      s.setReg (CTX_PIPE_STATUS c) (w32 (st.slotNo % 2 ^ 21 + (r.vstage <<< 21) + (r.pass <<< 24)
        + bitN (!st.running && !st.handoffOpen) 26 + bitN (!st.running && !s.sendOpen st) 27))

/-- The context waits to start a slot. -/
def State.waitsSlot (s : State) (c : Nat) (st : StepRun) : Bool :=
  st.variant.isSome && s.phase c == 1 && !st.running && decide (st.slotNo < st.prog.slots.length) && s.foremanOn

/-- SLOT_START (R34, R374, R378, R379, R382): the slot's pass starts, in an epoch that no hold holds. -/
def execSlotStart (ctx : Fin 64) (s : State) : Out :=
  let c := ctx.val
  match (s.ctx c).step with
  | none => .next s
  | some st =>
    if !(s.waitsSlot c st && st.readyOpen && st.handoffOpen && s.sendOpen st) || s.fabric.held then .next (s.showPipe c) else
    let r := st.prog.slots.getD st.slotNo default
    let doubt := r.inCh != 0xFF && (match st.handoff? r.inCh (st.prog.handoffNo st.slotNo r.inCh) with
      | some h => h.doubt
      | none => false)
    -- a region that has gone dark since the step began takes part in every pass of the compiled schedule (R105, R402)
    let doubt := doubt || decide (((st.variant.bind fun n => st.prog.variants[n]?).map (·.dark)).getD 0 ≠ maskOf (s.darkOf c))
    let s := if doubt then s.withhold c r.mb 0x3F else s
    let out := st.prog.handoffNo st.slotNo r.outCh
    let s := s.modStep c fun st =>
      let st := { st with running := true }
      if r.outCh = 0xFF then st else st.modHandoff r.outCh out id
    let pos := if st.prog.stream.resident then r.vstage else st.ended
    let layer := if st.prog.stream.resident ∨ r.pass = 2 then none else some (st.prog.layerOf st.ended)
    .next (((s.enterPosition c pos layer r).setPhase c (passPhase r.pass)).showPipe c)

/-! Landing (R377, R380 to R382). -/

/-- A piece of a handoff arrives at the receiving channel `ch`: it lands, or is discarded when it is not expected. -/
def State.landPiece (s : State) (c ch q crate piece mb pass tag : Nat) (doubt : Bool) (data : List Byte) : State :=
  let bad := s.orReg (CTX_PIPE_FLAGS c) 2
  match (s.ctx c).step with
  | none => bad
  | some st =>
    let r := st.prog.chans.getD ch default
    let rel := (st.chan ch).released
    match st.prog.slotOfHandoff ch q with
    | none => bad
    | some slot =>
      if !r.recv || slot.mb != mb || slot.pass != pass || tag != s.tag c || decide (r.slotc ≤ crate) || decide (rel + r.depth ≤ q)
        || decide (ch ≥ st.prog.chans.length) || decide (q < rel) then bad
      else if (st.handoff? ch q).any (·.ended) then s
      else
        let (s, code) := s.tensorWrite c ((r.crate q + crate) * 65536 + 4096 * piece) data
        -- a crate that cannot be mapped is dropped, and its micro-batch withheld (R299)
        let s := if code ≠ 0 || doubt then s.withhold c mb 0x3F else s
        let s := if doubt then s.orReg (CTX_PIPE_FLAGS c) 4 else s
        (s.modStep c fun st => st.modHandoff ch q fun h =>
          { h with pieces := insertNew (16 * crate + piece) h.pieces, doubt := h.doubt || doubt }).showPipe c

/-- A HANDOFF frame's subheader (R481). -/
def handoffSub (ch q crate piece mb pass tag : Nat) (doubt : Bool) : W256 :=
  BitVec.ofNat 256 (ch + ((q % 2 ^ 24) <<< 8) + (crate <<< 32) + (piece <<< 48) + (mb <<< 64) + (pass <<< 80) + (tag <<< 88) + bitN doubt 96)

/-- STAGING_CRATE_SEND (R378, R382, R383): the next staging crate of the channel's oldest handoff that is not sent whole,
once the pass has written it. A crate that cannot be read whole makes its micro-batch doubtful (R399). -/
def execStagingCrateSend (ctx : Fin 64) (chan : Fin 256) (s : State) : Out :=
  let c := ctx.val
  let ch := chan.val
  match (s.ctx c).step with
  | none => .next s
  | some st =>
    let r := st.prog.chans.getD ch default
    match st.handoffs.find? fun h => h.chan == ch && decide (h.crates.length < r.slotc) with
    | none => .next s
    | some h =>
      if r.recv || !h.ready then .next s else
      match st.prog.slotOfHandoff ch h.q with
      | none => .next s
      | some slot =>
        let i := h.crates.length
        let n := r.crate h.q + i
        let (bs, code, s) := s.readCrate c n 0 65536
        let s := if code ≠ 0 then s.withhold c slot.mb 0x3F else s
        let doubt := (s.ctx c).doubt.contains slot.mb
        let s := s.modStep c fun st => st.modHandoff ch h.q fun h => { h with crates := h.crates ++ [i] }
        if r.peer = s.moduleId then
          match s.pairOf st.prog ch with
          | none => .next s
          | some dest =>
            .next ((pieces bs).zipIdx.foldl (fun s e => s.landPiece c dest h.q i e.2 slot.mb slot.pass (s.tag c) doubt e.1) s)
        else
          .next (s.sendFrames c r.peer 2 0x20 none
            ((pieces bs).zipIdx.map fun e => (handoffSub ch h.q i e.2 slot.mb slot.pass (s.tag c) doubt, e.1)))

/-- The granules of a handoff that have not landed are delivered poisoned (R381). -/
def State.poisonHandoff (s : State) (c q : Nat) (r : ChanRec) (have_ : List Nat) : State :=
  ((List.range (16 * r.slotc)).filter fun i => !have_.contains i).foldl (fun s i =>
    let n := r.crate q + i / 16
    let s := (s.tensorWrite c (n * 65536 + 4096 * (i % 16)) (List.replicate 4096 0#8)).1
    s.placePoison (meplace (s.entry c n)) ((List.range 128).map fun g => 128 * (i % 16) + g)) s

/-- HANDOFF_DEADLINE (R381): the closed handoff gate of a slot whose other gates are open opens. -/
def execHandoffDeadline (ctx : Fin 64) (s : State) : Out :=
  let c := ctx.val
  match (s.ctx c).step with
  | none => .next s
  | some st =>
    if !(s.waitsSlot c st && st.readyOpen && s.sendOpen st) || st.handoffOpen then .next s else
    let r := st.prog.slots.getD st.slotNo default
    let q := st.prog.handoffNo st.slotNo r.inCh
    let have_ := match st.handoff? r.inCh q with
      | some h => h.pieces
      | none => []
    let s := s.poisonHandoff c q (st.prog.chans.getD r.inCh default) have_
    let s := s.modStep c fun st => st.modHandoff r.inCh q fun h => { h with ended := true }
    let s := (s.bump (CTX_HANDOFF_ENDED c) 1).orReg (CTX_PIPE_FLAGS c) 1
    .next ((s.withhold c r.mb 0x3F).showPipe c)

/-! The end of a position and of a slot (R31, R344, R374, R378). -/

/-- The receiver releases the handoff that a slot has consumed; within the module its sender hears of it at once. -/
def State.releaseHandoff (s : State) (c : Nat) (r : SlotRec) : State :=
  if r.inCh = 0xFF then s else
  match (s.ctx c).step with
  | none => s
  | some st =>
    let up (l : Sp ChanState) (ch : Nat) : Sp ChanState :=
      spSet (fun _ => ChanState.reset) l ch ⟨(spGet (fun _ => ChanState.reset) l ch).released + 1⟩
    let pair := s.pairOf st.prog r.inCh
    s.modStep c fun st => { st with chans := match pair with
      | some p => up (up st.chans r.inCh) p
      | none => up st.chans r.inCh }

/-- The foreman's verdict goes out, and this module's own gates take it (R344, R345). -/
def State.judge (s : State) (c mb : Nat) : State :=
  let s := s.sendVerdict c mb
  (if (s.ctx c).told.contains mb then s.discardHeld c mb else s).tryGates c

/-- A slot reaches its end barrier. -/
def State.slotEnd (s : State) (c : Nat) : State :=
  match (s.ctx c).step with
  | none => s
  | some st =>
    let r := st.prog.slots.getD st.slotNo default
    let s := s.releaseHandoff c r
    let last := r.pass == 1 && !(st.prog.slots.drop (st.slotNo + 1)).any fun q => q.mb == r.mb && q.pass == 1
    let s := if last then s.judge c r.mb else s
    let s := s.modStep c fun st => { st with slotNo := st.slotNo + 1, running := false }
    if st.slotNo + 1 < st.prog.slots.length then (s.setPhase c 1).showPipe c
    else
      let s := (List.range st.prog.tokens.length).foldl (fun s mb =>
        if (s.ctx c).step.any fun st => st.judged.contains mb then s else s.judge c mb) s
      (s.enterSealing c).showPipe c

/-- A barrier of the context is released (R106). At one that the step program marks as an end, a position ends, and with its last
position, or in resident-stage mode, its slot (R322, R374). -/
def State.barrierEnds (s : State) (c : Nat) : State :=
  match (s.ctx c).step with
  | none => s
  | some st =>
    let s := s.modStep c fun st => { st with mark := false }
    if !st.running || !st.mark then s
    else if st.prog.stream.resident || (st.prog.slots.getD st.slotNo default).pass == 2 then s.slotEnd c
    else
      let s := s.modStep c fun st => { st with ended := st.ended + 1 }
      (if st.prog.lastOfSlot st.ended then s.slotEnd c else s.setPhase c 1).openEmpty c

end Sys2Proof.Machine
end

