-- ==== Sys2Proof/Machine/Dark.lean ====
section
/-! DEFINITION. Barriers (R106), the loss of a region (R401 to R408), the foreman's takeover (R409 to R411), and the loss of
base-die units and service cores (R412, R414). -/

namespace Sys2Proof.Machine

/-! Barriers (R106). -/

/-- The barrier tree of the variant in use: the parent of each region. -/
def State.barrierTree (s : State) (c : Nat) : List Nat :=
  match (s.ctx c).step with
  | none => []
  | some st => match st.variant.bind fun n => st.prog.variants[n]? with
    | some v => v.tree
    | none => []
/-- The regions whose parent is `r`. -/
def treeKids (tree : List Nat) (r : Nat) : List Nat := (List.range 64).filter fun x => tree[x]? == some r

/-- The region's service router has seen every core of it arrive; a dark region counts as arrived (R403). -/
def State.regionArrived (s : State) (r : Nat) : Bool :=
  s.isDark r || (List.range 120).all fun i => s.fabric.came.contains (r * 120 + i)
/-- The region and everything below it have arrived. -/
def State.subtreeArrived (s : State) (c : Nat) (tree : List Nat) (r : Nat) : Bool :=
  s.regionArrived r && (treeKids tree r).all fun x =>
    s.fabric.arrive.contains (x * 64 + c) || (s.isDark x && (treeKids tree x).isEmpty)

/-- The direction from a region toward a neighbour, or toward a region further off. -/
def dirTo (r x : Nat) : Nat := ((List.range 4).find? fun d => neighbour r d == some x).getD (hopDir r x)

/-- ARRIVE or RELEASE bits of a router of its own; they merge with a BARRIER frame of its own that waits for the same link
(R81). -/
def State.queueBarrier (s : State) (router link arrive release : Nat) : State :=
  let mine (f : CtlFrame) : Bool := f.router == router && f.link == link && fld f.frame 0 4 == 1 && fld f.frame 16 16 == sourceOf router
  let bits := (match s.fabric.ctl.find? mine with
    | some f => fld f.frame 104 128
    | none => 0) ||| arrive ||| (release <<< 64)
  (s.modFabric fun b => { b with ctl := b.ctl.filter fun f => !mine f }).queueFrame router link
    (ctlFrame 1 0 (sourceOf router) 0 0 bits) true

/-- RELEASE goes down the tree from a region. -/
def State.sendRelease (s : State) (c : Nat) (tree : List Nat) (r : Nat) : State :=
  (treeKids tree r).foldl (fun s x => if s.isDark x then s else s.queueBarrier (7744 + r) (dirTo r x) 0 (2 ^ c)) s

/-- A region whose whole subtree has arrived signals its parent; the root sets RELEASE, toward its own cores and down the tree
(R106). -/
def State.climb (s : State) (c r : Nat) : State :=
  let tree := s.barrierTree c
  if !s.inStep c || !s.subtreeArrived c tree r then s else
  match tree[r]? with
  | none => s
  | some p =>
    if p = 0xFF then
      (((s.modFabric fun b => { b with arrive := b.arrive.filter fun k => k % 64 != c }).queueBarrier (7744 + r) 8 0 (2 ^ c)).sendRelease c tree r)
    else if p < 64 then s.queueBarrier (7744 + r) (dirTo r p) (2 ^ c) 0
    else s

/-- The region's service router sees a core's arrival (R82, R106). -/
def State.coreCame (s : State) (c l : Nat) : State :=
  (s.modFabric fun b => { b with came := insertNew l b.came }).climb c (l / 120)

/-- A region's service router passes RELEASE to its cores' routers, which free the cores; at the root the barrier has closed
(R106). -/
def State.freeRegion (s : State) (c r : Nat) : State :=
  let s := s.modFabric fun b => { b with came := b.came.filter fun l => l / 120 != r }
  let s := (List.range 120).foldl (fun s i => s.modCore (s.phys (r * 120 + i)) fun k => { k with arrived := false }) s
  if (s.barrierTree c)[r]? = some 0xFF then s.barrierEnds c else s

/-- A barrier arrival once it is issued (R106): a core of a context with a step in progress sets its context's bit at its router;
`ends` is the step program's mark. -/
def State.runBarrier (s : State) (core : Fin 7680) (ends : Bool) : State :=
  let k := s.phys core
  match s.coreCtx core with
  | none => s
  | some c =>
    if (s.core k).arrived then s else
    let s := ((s.issued k).modCore k fun x => { x with arrived := true }).modStep c fun st => { st with mark := st.mark || ends }
    s.queueBarrier core.val 8 (2 ^ c) 0

/-- BARRIER_ARRIVE (R106). -/
def execBarrierArrive (core : Fin 7680) (ends : Bool) (s : State) : Out :=
  .next (s.issue (s.phys core) (.barrier ends) [] fun s => s.runBarrier core ends)

/-! The regions' power in a loss (R513, R514). -/

/-- The ramps and waiting ramps, as the registers show them. -/
def State.showRamps (s : State) : State :=
  let s := s.setRegFld POWER_STATUS 13 2 (min 3 s.power.ramps.length)
  (List.range 64).foldl (fun s r =>
    (s.setRegFld (REGION_POWER r) 16 1 (if s.power.ramps.any fun e => e.1 == r then 1 else 0)).setRegFld (REGION_POWER r) 17 1
      (if s.power.rampQ.any fun q => q.region == r && q.deferred then 1 else 0)) s

/-- A region's cellar is wiped (R304): zeros, without poisoned marks. -/
def State.wipeCellar (s : State) (r : Nat) : State :=
  let base := r * 10 * 262144 * 65536
  let size := 10 * 262144 * 65536
  { s with cellar := s.cellar.clear base size, cellarBad := spDrop (inWin (base / 32) (size / 32)) s.cellarBad }

/-- A region enters RETAIN, or OFF, which loses what R513 lists; its cores' counters return to reset (R565). -/
def State.sleepRegion (s : State) (r : Nat) (off : Bool) : State :=
  let s := s.modPower fun p => { p with
    ramps := p.ramps.filter fun e => e.1 != r, rampQ := p.rampQ.filter fun q => q.region != r }
  let s := (s.setPower r (if off then 3 else 2)).modRegionCores r fun k => k.asleep off
  let s := (s.stopRouters r true).resetRegs (coreWindows r)
  (if off then s.wipeCellar r else s).showRamps

/-! Region loss. -/

/-- The row of a cause in R401's table. -/
def causeNo : DarkCause → Nat
  | .notServiceable => 0
  | .power => 1
  | .unitFault => 2
  | .serviceCores => 3
  | .riskLevel => 4
  | .thermal => 5

/-- The micro-batches of the step that have been started, and of which `gone` does not hold. -/
def State.startedMbs (s : State) (c : Nat) (gone : StepRun → Nat → Bool) : List Nat :=
  match (s.ctx c).step with
  | none => []
  | some st => (((st.prog.slots.take (st.slotNo + (if st.running then 1 else 0))).map (·.mb)).eraseDups).filter fun m => !gone st m

/-- The micro-batches in flight: started, and without a verdict. -/
def State.flying (s : State) (c : Nat) : List Nat := s.startedMbs c fun st m => st.judged.contains m

/-- The micro-batches that the loss of a region withholds (R402): while passes run, every one that the region has computed; in
SEALING those of which it still owes a sum (R35, R340); once the step is sealed, none (assumption 66). -/
def State.owing (s : State) (c r : Nat) : List Nat :=
  s.startedMbs c fun st m => decide (5 ≤ s.phase c) || s.phase c == 4 && st.judged.contains m && (s.shards c).all fun h => (List.range h.ntiles).all fun i =>
    (st.sums.any fun q => q.tile == h.first + i && q.mb == m && (q.sent || q.inputs.any fun e => e.1 == .region r))

/-- Micro-batches are withheld. -/
def State.withholdEach (s : State) (c r : Nat) (mbs : List Nat) : State := mbs.foldl (fun s mb => s.withhold c mb r) s
/-- Every micro-batch in flight is withheld. -/
def State.withholdFlying (s : State) (c r : Nat) : State := s.withholdEach c r (s.flying c)

/-- The copies of the scale ledger and of the crate map that lay in a lost region (R186, R289, R290). -/
def State.loseCopies (s : State) (c r : Nat) : State :=
  let x := s.ctx c
  let left := x.scaleAt.filter (· ≠ r)
  let s :=
    if left.length = x.scaleAt.length then s else
    match left with
    | [] => (s.modCtx c fun x => { x with scaleA := [], scaleB := [], scaleAt := [] }).setRegFld (CTX_SCALE_STATUS c) 24 1 0
    | a :: _ =>
      let s := s.modCtx c fun x => { x with
        scaleA := if x.scaleAt.head? = some r then x.scaleB else x.scaleA, scaleB := [], scaleAt := [a] }
      (s.setRegFld (CTX_SCALE_STATUS c) 8 6 a).setRegFld (CTX_SCALE_STATUS c) 24 1 1
  let maps := x.mapAt.filter (· ≠ r)
  s.modCtx c fun x => { x with mapAt := maps, noMap := x.noMap || (maps.isEmpty && !x.mapAt.isEmpty) }

/-- The crates of a context in a region's cellar. -/
def State.cratesIn (s : State) (c r : Nat) : Nat := ((s.ctx c).map.filter fun e => meTier e.2 == 1 && nfld (meLoc e.2) 0 6 == r).length

/-- What the loss of a region means for the context that holds it (R402 to R404). -/
def State.darkInCtx (s : State) (c r : Nat) : State :=
  let tree := s.barrierTree c
  let s := (s.withholdEach c r (s.owing c r)).loseCopies c r
  let n := s.cratesIn c r
  let s := if n = 0 then s else (s.orReg HEALTH_FLAGS 0x20).postEvent c 0x108 0xFFFFFFFF#32 (w32 n) 0#32
  match tree[r]? with
  | none => s
  | some p =>
    if p = 0xFF ∨ treeKids tree r ≠ [] then (if p = 0xFE then s else s.modCtx c fun x => { x with haltDue := true })
    else if p < 64 then s.climb c p else s

/-- A region goes dark (R402): its clocks and routers stop, and it stays dark until the next bring-up (R401, R546). A fuse or
a thermal shutdown has taken it to OFF, failed phases to RETAIN (R514). -/
def State.goDark (s : State) (r : Nat) (cause : DarkCause) : State :=
  if s.isDark r then s else
  let owner := (s.region r).owner
  let s := s.modRegion r fun x => { x with
    dark := some cause, darkDue := false, newDead := [], refetch := false, restores := [], retest := true, proven := false }
  let s := s.modBoot fun b => { b with invDue := true }
  let s := s.stopRouters r false
  let s := match cause with
    | .thermal => s.sleepRegion r true
    | .power => s.sleepRegion r (s.regBit (REGION_POWER r) 19)
    | .notServiceable | .unitFault | .serviceCores | .riskLevel =>
      (if s.powerOf r = 0 then s.setPower r 1 else s).modPower fun p => { p with rampQ := p.rampQ.filter fun q => q.region != r }
  let s := { s with foreman := { s.foreman with standbys := s.foreman.standbys.filter (· ≠ r) } }
  let s := (s.orReg HEALTH_FLAGS 1).postAll 0x103 (w32 r) (w32 (causeNo cause)) 0#32
  match owner with
  | some c => s.darkInCtx c r
  | none => s

/-- REGION_DARK (R401, R402): the lasting fault of a unit that the region has only one of is counted (R398). -/
def execRegionDark (region : Fin 64) (cause : DarkCause) (s : State) : Out :=
  if s.isDark region then .next s else
  .next ((if cause = .unitFault then s.lasting else s).goDark region cause)

/-- SCALE_COPY_REBUILD (R186). -/
def execScaleCopyRebuild (ctx : Fin 64) (s : State) : Out :=
  let c := ctx.val
  match (s.ctx c).scaleAt with
  | [a] =>
    let b := otherRow ((s.ctxRegions c).filter fun r => !s.isDark r) a
    let s := s.modCtx c fun x => { x with scaleB := x.scaleA, scaleAt := [a, b] }
    .next ((s.setRegFld (CTX_SCALE_STATUS c) 16 6 b).setRegFld (CTX_SCALE_STATUS c) 24 1 0)
  | _ => .next s

/-- CRATE_MAP_COPY_REBUILD (R289). -/
def execCrateMapCopyRebuild (ctx : Fin 64) (s : State) : Out :=
  let c := ctx.val
  match (s.ctx c).mapAt with
  | [a] => .next (s.modCtx c fun x => { x with mapAt := [a, otherRow ((s.ctxRegions c).filter fun r => !s.isDark r) a] })
  | _ => .next s

/-- CRATE_MAP_LOST (R290): both copies of the map are lost, and the context is torn down. -/
def execCrateMapLost (ctx : Fin 64) (s : State) : Out :=
  let c := ctx.val
  if (s.ctx c).noMap = false ∨ s.ctxState c ≠ 1 then .next s else
  let n := ((s.ctx c).map.filter fun e => meTier e.2 != 0).length
  let s := (s.orReg HEALTH_FLAGS 0x20).postEvent c 0x108 0xFFFFFFFF#32 (w32 n) 0#32
  .next (s.teardown c false none)

/-! The foreman (R63, R64, R409 to R411). -/

/-- No foreman runs (R64): every STEP completes ENDED and the module is reported failed. -/
def State.noForeman (s : State) : State :=
  let s := { s with foreman := { s.foreman with active := false, takeover := none, lost := none } }
  let s := (s.setRegFld HEALTH_FOREMAN 6 1 1).reportFailed
  s.existing.foldl (fun s c => match (s.ctx c).step with
    | none => s
    | some st =>
      let s := (s.haltSchedule c).complete c st.desc 2 0x23
      (s.modCtx c fun x => { x with step := none, doubt := [], told := [] }).setPhase c 0) s |>.settleAp

/-- The standby that takes over: in the lowest-numbered serviceable entry region. -/
def State.nextStandby (s : State) : Option Nat :=
  entryRegions.find? fun r => s.foreman.standbys.contains r && !s.isDark r && decide (s.powerOf r ≤ 1)

/-- The instance that runs, or that is taking over, stands in a region that is lost. -/
def State.foremanRegionLost (s : State) : Bool :=
  let r := s.foreman.takeover.getD (s.regFld HEALTH_FOREMAN 0 6)
  s.isDark r || decide (2 ≤ s.powerOf r)

/-- FOREMAN_LOST (R409, R411): 64 wall epochs without a MIRROR frame, or the region lost. -/
def execForemanLost (s : State) : Out :=
  let silent := s.foreman.takeover.isNone && decide (64 ≤ (s.epoch + 2 ^ 48 - s.foreman.mirror) % 2 ^ 48)
  if !s.foreman.active || !(silent || s.foremanRegionLost) then .next s else
  let lost := s.foreman.lost.getD (s.regFld HEALTH_FOREMAN 0 6)
  match s.nextStandby with
  | some t => .next { s with foreman := { s.foreman with
      lost := some lost, takeover := some t, standbys := s.foreman.standbys.filter (· ≠ t) } }
  | none => .next s.noForeman

/-- FOREMAN_TAKEOVER (R409, R410): the standby is active. An instance whose region is still serviceable comes back as a
standby, and a commit in its apply is walked (R368). -/
def execForemanTakeover (s : State) : Out :=
  match s.foreman.takeover with
  | none => .next s
  | some t =>
    if s.foremanRegionLost then .next s else
    let back := match s.foreman.lost with
      | some r => if s.isDark r || decide (4 ≤ (s.region r).svcFailed) || decide (2 ≤ s.powerOf r) then [] else [r]
      | none => []
    let s := { s with foreman := { s.foreman with
      takeover := none, lost := none, standbys := s.foreman.standbys ++ back, mirror := s.epoch } }
    let n := s.regFld HEALTH_FOREMAN 16 16
    let s := (s.setRegFld HEALTH_FOREMAN 0 6 t).setRegFld HEALTH_FOREMAN 16 16 (min 65535 (n + 1))
    let s := (s.orReg HEALTH_FLAGS 2).postAll 0x106 (w32 t) 0#32 0#32
    .next (s.existing.foldl (fun s c =>
      if s.inStep c && s.phase c == 5 then
        ((s.orReg (STREAM_LEDGER_FLAGS c) 0x20).setRegFld (STREAM_LEDGER_STATUS c) 0 3 4).modStep c fun st => { st with applied := 0 }
      else s) s)

/-! One of many units (R412, R414). -/

def State.die (s : State) (n : Nat) : BaseDie := spGet (fun _ => ⟨false, false⟩) s.dies n
/-- The unit of a base die has failed. -/
def BaseDie.failed (d : BaseDie) : BaseDieUnit → Bool
  | .ledgerUpdate => d.update
  | .tally => d.tally
def BaseDie.fail (d : BaseDie) : BaseDieUnit → BaseDie
  | .ledgerUpdate => { d with update := true }
  | .tally => { d with tally := true }

/-- The stack whose unit serves stack `n`: its own, or the next that still works (R414). -/
def State.unitServer (s : State) (n : Nat) (u : BaseDieUnit) : Nat :=
  (((List.range s.stackCount).map fun i => (n + i) % s.stackCount).find? fun m => !(s.die m).failed u).getD n

/-- BASE_DIE_UNIT_FAIL (R412, R414). -/
def execBaseDieUnitFail (stack : Fin 48) (unit : BaseDieUnit) (s : State) : Out :=
  let n := stack.val
  if s.stackCount ≤ n ∨ (s.die n).failed unit = true then .next s else
  -- every stack that the unit served moves on
  let moved := (List.range s.stackCount).filter fun m => s.unitServer m unit == n
  let s := { s.lasting with dies := spSet (fun _ => ⟨false, false⟩) s.dies n ((s.die n).fail unit) }
  .next (moved.foldl (fun s m => s.postAll 0x10A (w32 ((m <<< 4) + (s.unitServer m unit <<< 12))) 0#32 0#32) (s.orReg HEALTH_FLAGS 4))

/-- SERVICE_CORE_FAIL (R401, R412): with all four lost, the region is. -/
def execServiceCoreFail (region : Fin 64) (count : Fin 5) (s : State) : Out :=
  let r := region.val
  let n := min 4 ((s.region r).svcFailed + count.val)
  let new := n - (s.region r).svcFailed
  if new = 0 then .next s else
  let s := (s.bump HEALTH_FAULTS_LASTING new).modRegion r fun x => { x with svcFailed := n }
  .next (if n = 4 then s.goDark r .serviceCores else s)

end Sys2Proof.Machine
end

