-- ==== Sys2Proof/Machine/Fabric.lean ====
section
/-! DEFINITION. The scheduled fabric (R69 to R113): wall epochs and holds, control slots and their frames, segments and hop
entries, the modes; and a region's micro-batch boundary with its repairs (R50 to R54). -/

namespace Sys2Proof.Machine

/-! Schedule time (R77, R78, R96, R97). -/

/-- MOD_FABRIC_STATUS MODE (R109). -/
def State.fabricMode (s : State) : Nat := s.regFld MOD_FABRIC_STATUS 0 2
/-- The schedule epoch: the live epochs since the fabric started (R78, R97). -/
def State.schedEpoch (s : State) : Nat := s.fabric.liveN
/-- A schedule is running for the context's step. -/
def State.anyStep (s : State) : Bool := (List.range 64).any s.inStep

/-- The regulator group that feeds a physical core (R510). -/
def phaseGroup (k : Nat) : Nat :=
  let p := k % 143 / 13
  2 * (if p ≤ 2 then 0 else if p ≤ 5 then 1 else if p ≤ 8 then 2 else 3) + (if k % 13 ≤ 6 then 0 else 1)
/-- Core cycles of a physical core in an epoch, at its region's step (R520) and under its group's cap (R512). -/
def State.epochCycles (s : State) (k : Nat) : Nat :=
  let r := regionOfPhys k
  if s.powerOf r ≠ 0 then 0 else
  let c := 16 * s.regFld (REGION_POWER r) 2 5
  if s.regBit (REGION_POWER r) (8 + phaseGroup k) then c * 3 / 4 else c
/-- The core's context waits at a gate, or its region's benches are being refetched (R53, R101). -/
def State.coreWaits (s : State) (k : Nat) : Bool :=
  let r := s.region (regionOfPhys k)
  r.refetch || (match r.owner with
    | some c => s.inStep c && s.phase c == 1
    | none => false)

/-- A request holds a wall epoch (R95); wall epochs wrap at 2^48 (R77). -/
def HoldReq.covers (q : HoldReq) (w : Nat) : Bool :=
  let d := (w + 2 ^ 48 - q.epoch) % 2 ^ 48
  decide (2 ≤ d ∧ d < 2 + q.len)
/-- A wall epoch is `e` or comes after it. -/
def notPast (e w : Nat) : Bool := decide ((w + 2 ^ 48 - e) % 2 ^ 48 < 2 ^ 47)
/-- A request may still hold an epoch from `e` on. -/
def HoldReq.lasts (q : HoldReq) (e : Nat) : Bool := notPast e ((q.epoch + 1 + q.len) % 2 ^ 48)

/-- The longest of a list of requests that hold wall epoch `w`; 0 when none does. -/
def holdLenAt (l : List HoldReq) (w : Nat) : Nat := (l.filter fun q => q.covers w).foldl (fun m q => max m q.len) 0
/-- Wall epoch `w` is held (R95). -/
def State.heldAt (s : State) (w : Nat) : Bool := s.fabric.latched.any fun q => q.covers w
/-- The holds that a router has latched. -/
def State.latchedBy (s : State) (router : Nat) : List HoldReq := (s.router router).odd.getD s.fabric.latched
/-- A router takes the present epoch as held. -/
def State.heldFor (s : State) (router : Nat) : Bool := match (s.router router).odd with
  | none => s.fabric.held
  | some l => l.any fun q => q.covers s.epoch
/-- The latched hold length of a router for the present epoch; 0 in a live one (R98). -/
def State.holdLen (s : State) (router : Nat) : Nat := if s.heldFor router then holdLenAt (s.latchedBy router) s.epoch else 0

/-! Holds (R93 to R102). -/

/-- A sequencer's time after an epoch of `n` core cycles (R93, R623): slack within a segment is at most what is left to do in it,
and what is over at its end stays. -/
def SeqTime.pass (t : SeqTime) (n : Nat) (held : Bool) : SeqTime :=
  let due := if held then t.due else t.due.drop 1
  let v := t.slack + n - (if held then 0 else (t.due.headD 0 : Int))
  { t with due := due, slack := if due = [] then v else min v (due.foldl (· + ·) 0 : Nat) }

/-- The slack that a sequencer of `n` core cycles an epoch predicts for the end of the epoch two after `e`; it knows the latched
holds, and its own requests (R93, R102). -/
def SeqTime.predict (t : SeqTime) (n e : Nat) (held : Nat → Bool) : Int :=
  ((List.range 3).foldl (fun (a : Int × List Nat) i =>
    let w := (e + i) % 2 ^ 48
    if held w || t.own.contains w then (a.1 + n, a.2)
    else (a.1 + n - (a.2.headD 0 : Int), a.2.drop 1)) (t.slack, t.due)).1

/-- The length of the hold request for a predicted slack; none while it is not negative. -/
def holdFor (p : Int) (n : Nat) : Option Nat :=
  if 0 ≤ p ∨ n = 0 then none else some (min 15 (((-p).toNat + n - 1) / n))

/-- A request enters the network, and its epochs a sequencer's own. -/
def SeqTime.request (t : SeqTime) (e h : Nat) : SeqTime :=
  { t with own := t.own ++ (List.range h).map fun i => (e + 2 + i) % 2 ^ 48 }
def State.askHold (s : State) (r e h : Nat) : State :=
  (s.modFabric fun b => { b with reqs := b.reqs ++ [⟨e, h⟩] }).bump (REGION_HOLD_REQ r) 1

/-- The regions whose cores run a step's program. -/
def State.stepRegions (s : State) : List Nat :=
  (s.contexts.filter s.inStep).flatMap fun c => (s.ctxRegions c).filter fun r => !s.isDark r
/-- Their cores, as physical cores: an unused site is none of them (R57). -/
def State.stepCores (s : State) : List Nat :=
  s.stepRegions.flatMap fun r => (List.range 120).map fun i => s.phys (r * 120 + i)

/-- The core cycles of an epoch that a core can use: none of those in which it waits with work due (R101, R623). -/
def State.usable (s : State) (k : Nat) : Nat :=
  if s.coreWaits k && (s.core k).time.due != [] then 0 else s.epochCycles k
/-- The service core's cycles in an epoch: it runs on the fabric clock (R520). -/
def State.svcCycles (s : State) (r : Nat) : Nat := if 2 ≤ s.powerOf r then 0 else 256

/-- A multicast crate that has not landed falls due within three epochs at an entry core (R326): a send entry of its stream lies
in one of the schedule epochs predicted live. -/
def State.crateLate (s : State) (k e : Nat) : Bool :=
  match s.logical k, (s.region (regionOfPhys k)).owner with
  | some l, some c => match (s.ctx c).step with
    | none => false
    | some st =>
      let r := s.router l
      let due (n : Nat) : Bool := r.live && r.run.entries.any fun h =>
        heIn h == 8 && heEpoch h == (s.schedEpoch + n - r.start) % max 1 r.run.period &&
        st.prog.entries.zipIdx.any fun x => !x.1.wave1 && x.1.stream == heStream h && st.opened.contains x.1.pos &&
          !st.landed.contains x.2 && nfld (st.prog.groups.getD x.1.group default).regions (l / 120) 1 == 1 &&
          ((st.prog.groups.getD x.1.group default).cores (l / 120)).contains l
      ((List.range 3).foldl (fun (a : Bool × Nat) i =>
        let w := (e + i) % 2 ^ 48
        if s.heldAt w || (s.core k).time.own.contains w then a else (a.1 || due a.2, a.2 + 1)) (false, 0)).1
  | _, _ => false

/-- A core raises its hold request at the start of epoch `e` (R93, R326). -/
def State.raiseHold (s : State) (k e : Nat) : State :=
  let t := (s.core k).time
  let n := s.epochCycles k
  let p := t.predict (s.usable k) e s.heldAt
  match holdFor (if s.crateLate k e then min p (-1) else p) n with
  | none => s
  | some h => ((s.modCore k fun c => { c with time := t.request e h }).askHold (regionOfPhys k) e h).event k 0x15 1

/-- So does the service core that loads a column router's banks (R84). -/
def State.raiseSvc (s : State) (r e : Nat) : State :=
  let t := (s.region r).svc
  match holdFor (t.predict (s.svcCycles r) e s.heldAt) (s.svcCycles r) with
  | none => s
  | some h => (s.modRegion r fun x => { x with svc := t.request e h }).askHold r e h

/-- The cores that have a counter configured (R561). -/
def State.countingCores (s : State) : List Nat :=
  let ks := ((s.regs.filter fun e => decide (0x1000000 ≤ e.1)).map fun e => (e.1 - 0x1000000) / 256).eraseDups
  ks.filter fun k => (s.logical k).isSome && !(s.region (regionOfPhys k)).dead.contains (k % 143)

/-- The events of a core in an epoch (R567): a core in RUN whose context is in a pass runs, any other is gated. -/
def State.epochEvents (s : State) (k : Nat) (held : Bool) : State :=
  let r := regionOfPhys k
  let n := s.epochCycles k
  let inPass := match (s.region r).owner with
    | some c => s.inStep c && (s.phase c == 2 || s.phase c == 3) && !(s.core k).arrived
    | none => false
  let s := if inPass then s.event k 0x01 n else s.event k 0x02 n
  let s := if s.coreWaits k then s.event k 0x13 256 else s
  if held then s.event k 0x14 1 else s

/-- The context's cores waited at a gate in the epoch, or a held epoch passed while a crate of an open position was
outstanding (R325, R326). -/
def State.starved (s : State) (c : Nat) (held : Bool) : Bool :=
  match (s.ctx c).step with
  | none => false
  | some st => s.phase c == 1 || (s.ctx c).waited || (held && st.issued.any fun i =>
      !st.landed.contains i && st.opened.contains (st.prog.entries.getD i default).pos)

/-- The record of a physical core in a snapshot at the start of an epoch (R594). -/
def State.snapRecord (s : State) (k : Nat) : W512 :=
  let asleep := decide (2 ≤ s.powerOf (regionOfPhys k))
  let n := (if asleep then 0 else s.epoch * 256 % 2 ^ 56)
    + (List.range 8).foldl (fun a i => a + ((s.reg (CORE_PMC k i)).toNat <<< (64 + 32 * i))) 0
    + (s.regFld (CORE_PERF_STATUS k) 0 11 <<< 320) + (((s.logical k).getD 0x1FFF) <<< 336)
    + bitN asleep 349 + bitN ((s.region (regionOfPhys k)).dead.contains (k % 143)) 350
  BitVec.ofNat 512 n

/-- FREEZE takes effect, and a snapshot asked for is copied, at a wall epoch boundary (R566). -/
def State.perfBoundary (s : State) : State :=
  let s := s.setRegFld PERF_STATUS 0 1 (s.regFld PERF_CONTROL 0 1)
  if !s.snap.asked then s else
  { s with snap := { s.snap with
      taken := sparseFrom 0#512 0 ((List.range 9152).map s.snapRecord), epoch := s.epoch, asked := false } }

/-- A mode change takes two epochs (R109). -/
def State.modeBoundary (s : State) : State :=
  match s.fabric.change with
  | none => s
  | some (m, n) =>
    if n ≤ 1 then (s.modFabric fun b => { b with change := none }).setRegFld MOD_FABRIC_STATUS 0 2 m
    else s.modFabric fun b => { b with change := some (m, n - 1) }

/-- The sequencers' time passes by the epoch that ends (R93). -/
def State.passTime (s : State) : State :=
  let s := s.stepCores.foldl (fun s k => s.modCore k fun x => { x with time := x.time.pass (s.usable k) s.fabric.held }) s
  s.stepRegions.foldl (fun s r => s.modRegion r fun x => { x with svc := x.svc.pass (s.svcCycles r) s.fabric.held }) s

/-- A router that has latched another hold than the rest runs ahead of them, or falls behind (R98). -/
def Router.turn (r : Router) (e : Nat) (held : Bool) : Router :=
  match r.odd with
  | none => r
  | some l =>
    let own := l.any fun q => q.covers e
    { r with odd := some (l.filter fun q => q.lasts e), skew := r.skew + (if own = held then 0 else if held then 1 else -1) }

/-- The wall epoch `e` begins in the routers and on the hold network (R77, R78, R96, R97). -/
def State.turnEpoch (s : State) (e : Nat) : State :=
  let held := s.heldAt e
  (s.modFabric fun b => { b with
    epoch := e, held := held, heldN := b.heldN + (if held then 1 else 0), liveN := b.liveN + (if held then 0 else 1)
    ackSent := false, acking := false, wire := []
    latched := b.latched.filter fun q => q.lasts e
    routers := b.routers.map fun x => (x.1, x.2.turn e held) }).setRegFld MOD_FABRIC_STATUS 2 1 (if held then 1 else 0)

/-- Own requests whose epochs have passed are dropped, and a region counts the epoch that a request of its own holds (R102,
R416). -/
def State.countOwn (s : State) (e : Nat) : State :=
  let held := s.fabric.held
  let own := ((s.cores.filter fun x => held && x.2.time.own.contains e).map fun x => regionOfPhys x.1) ++
    (s.regions.filter fun x => held && x.2.svc.own.contains e).map (·.1)
  let s := own.eraseDups.foldl (fun s r => s.modRegion r fun x => { x with heldN := x.heldN + 1 }) s
  let s := (s.cores.filter fun x => x.2.time.own != []).foldl (fun s x =>
    s.modCore x.1 fun k => { k with time := { k.time with own := k.time.own.filter (notPast e) } }) s
  (s.regions.filter fun x => x.2.svc.own != []).foldl (fun s x =>
    s.modRegion x.1 fun k => { k with svc := { k.svc with own := k.svc.own.filter (notPast e) } }) s

/-- The service packets whose time has come are delivered (R110). -/
def State.deliverPackets (s : State) : State :=
  s.modFabric fun b =>
    let here (q : Packet) : Bool := decide (q.at_ ≤ b.epoch * 256)
    { b with flying := b.flying.filter fun q => !here q, packets := b.packets ++ b.flying.filter here }

/-- What the epoch's turn means for a context's step: a halt that was due (R403), the gates of verdicts taken back (R25, R345),
and a layer that waited for a live epoch (R34). -/
def State.turnStep (s : State) (c : Nat) : State :=
  let s := s.modCtx c fun x => { x with waited := false }
  let s := if (s.ctx c).stopDue then (s.modCtx c fun x => { x with stopDue := false }).haltSchedule c else s
  let s := if (s.ctx c).haltDue then (s.modCtx c fun x => { x with haltDue := false }).sealEarly c else s
  (s.settleRecalled c).startLayer c

/-- EPOCH_START (R77, R93 to R97, R102, R109, R403, R566): the present wall epoch ends and the next begins. -/
def execEpochStart (s : State) : Out :=
  if s.fabricMode = 0 then .next s else
  let was := s.fabric.held
  let s := s.countingCores.foldl (fun s k => s.epochEvents k was) s
  let s := s.contexts.foldl (fun s c => if s.starved c was then s.modCtx c fun x => { x with starve := (x.starve + 1) % 2 ^ 64 } else s) s
  let e := (s.epoch + 1) % 2 ^ 48
  let s := ((s.passTime.turnEpoch e).countOwn e).deliverPackets.modeBoundary.perfBoundary
  let s := s.contexts.foldl (fun s c => s.turnStep c) s
  let s := s.stepCores.foldl (fun s k => s.raiseHold k e) s
  .next (s.stepRegions.foldl (fun s r => s.raiseSvc r e) s)

/-- HOLD_LATCH (R94, R95, R98): at cycle 240 of an epoch the routers latch the requests stamped with the one before it. -/
def execHoldLatch (copyB : Option (Fin 16)) (odd : List (RouterId × Fin 16)) (s : State) : Out :=
  if s.fabricMode = 0 then .next s else
  let e := (s.epoch + 2 ^ 48 - 1) % 2 ^ 48
  let mine := s.fabric.reqs.filter fun q => q.epoch == e
  let a : Nat := mine.foldl (fun m q => max m q.len) 0
  let b : Nat := match copyB with
    | some n => n.val
    | none => a
  let s := if a = b then s else s.orReg MOD_FABRIC_FAULT 0x10
  let put (h : Nat) (l : List HoldReq) : List HoldReq := if h = 0 then l else l ++ [⟨e, h⟩]
  let own (n : Nat) : Option Nat := (odd.find? fun x => routerNo x.1 == n).map (·.2.val)
  let s := odd.foldl (fun s x =>
    let n := routerNo x.1
    s.setRouter n { s.router n with odd := some (s.latchedBy n) }) s
  .next (s.modFabric fun f => { f with
    reqs := f.reqs.filter fun q => q.epoch == s.epoch
    latched := put (max a b) f.latched
    routers := f.routers.map fun x => (x.1, { x.2 with odd := x.2.odd.map (put ((own x.1).getD (max a b))) }) })

/-- A hold disagreement (R98, R398): every micro-batch in flight on the module is doubtful. -/
def State.holdDisagree (s : State) : State :=
  let s := (s.orReg MOD_FABRIC_FAULT 1).lasting.modFabric fun b => { b with realign := true }
  s.contexts.foldl (fun s c => s.withholdFlying c 0x3F) s

/-- A context stands between two micro-batches (R51): no pass runs, and the next slot is of another micro-batch than the last
(assumption 60). -/
def State.atBoundary (s : State) (c : Nat) : Bool :=
  match (s.ctx c).step with
  | none => true
  | some st => !st.running && (st.slotNo == 0 || match st.prog.slots[st.slotNo - 1]?, st.prog.slots[st.slotNo]? with
    | some a, some b => a.mb != b.mb
    | _, _ => true)

/-- SCHEDULE_REALIGN (R98): between micro-batches the schedules are halted, every router is aligned to the wall epoch counter
again, and they resume. -/
def execScheduleRealign (s : State) : Out :=
  if !s.fabric.realign || !s.contexts.all s.atBoundary then .next s
  else .next (s.modFabric fun b => { b with
    realign := false, links := [], routers := b.routers.map fun x => (x.1, { x.2 with odd := none, skew := 0 }) })

/-! Control slots (R79 to R82, R98, R106, R409). -/

/-- A router runs (R62, R402): a service router unless its region is in RETAIN or OFF, any other unless its region is dark too. -/
def State.routerOn (s : State) (n : Nat) : Bool :=
  decide (s.powerOf (routerRegion n) ≤ 1) && (decide (7744 ≤ n) || !s.isDark (routerRegion n))

/-- A frame that waits is the next one of its link: none is of a better type, nor as good and earlier. -/
def ctlFirst (l : List CtlFrame) (f : CtlFrame × Nat) : Bool :=
  !l.zipIdx.any fun g => g.1.router == f.1.router && g.1.link == f.1.link &&
    (decide (fld g.1.frame 0 4 < fld f.1.frame 0 4) || (fld g.1.frame 0 4 == fld f.1.frame 0 4 && decide (g.2 < f.2)))

/-- A frame as it goes out: its router's own receives EPOCH and CRC (R80). -/
def CtlFrame.sent (f : CtlFrame) (epoch : Nat) : CtlFrame :=
  if f.own then { f with frame := stampCtl epoch f.frame, own := false } else f

/-- The foreman's MIRROR frames go toward the other entry regions every 16 wall epochs (R409); their payload is a free
value (assumption 2). -/
def State.sendMirror (s : State) : State :=
  let r := s.regFld HEALTH_FOREMAN 0 6
  let (n, s) := s.free
  (((entryRegions.filter (· ≠ r)).map (hopDir r)).eraseDups).foldl (fun s d =>
    s.queueFrame (7744 + r) d (ctlFrame 5 0 (0x8000 + r) 0 0 n) true) s

/-- Whether `r` lies on the way of frames from region `x` to region `e`. -/
def onWay (e r : Nat) : Nat → Nat → Bool
  | 0, x => x == r
  | fuel + 1, x => x == r || (x != e && (match neighbour x (hopDir x e) with
      | some y => onWay e r fuel y
      | none => false))

/-- The region of a frame's SOURCE (R80). -/
def frameRegion (f : W256) : Nat := if bitAt f 31 then fld f 16 6 else fld f 16 13 / 120

/-- A frame for the entry regions goes on along the ways from its source. -/
def State.passOn (s : State) (r : Nat) (f : W256) : State :=
  ((entryRegions.filter fun e => e != r && onWay e r 24 (frameRegion f)).map (hopDir r)).eraseDups.foldl
    (fun s d => s.queueFrame (7744 + r) d f false) s

/-- The contexts whose bits are set in a field of a frame, from bit `lo` on. -/
def frameCtxs (f : W256) (lo : Nat) : List Nat := (List.range 64).filter fun c => bitAt f (lo + c)

/-- One bit of a BARRIER frame goes on toward a region that is not a neighbour of its source, in a frame of its own. -/
def State.passBarrier (s : State) (r dest bit : Nat) (f : W256) : State :=
  let one : W256 := BitVec.ofNat 256 (fld f 0 104 + 2 ^ (104 + bit))
  s.queueFrame (7744 + r) (hopDir r dest) (ctlCrc one) false

/-- A BARRIER frame of a service router at a region: arrivals of a child, releases of the parent (R106). -/
def State.barrierFrame (s : State) (r : Nat) (f : W256) : State :=
  let q := frameRegion f
  let s := (frameCtxs f 104).foldl (fun s c =>
    match (s.barrierTree c)[q]? with
    | none => s
    | some p =>
      if p = r then (s.modFabric fun b => { b with arrive := insertNew (q * 64 + c) b.arrive }).climb c r
      else if p < 64 then s.passBarrier r p c f else s) s
  (frameCtxs f 168).foldl (fun s c =>
    let tree := s.barrierTree c
    let s := if tree[r]? = some q then (s.queueBarrier (7744 + r) 8 0 (2 ^ c)).sendRelease c tree r else s
    ((treeKids tree q).filter fun y => y != r && onWay y r 24 q).foldl (fun s y => s.passBarrier r y (64 + c) f) s) s

/-- A FAULT frame reaches a region (R104, R409): the foreman withholds its micro-batch. -/
def State.faultFrameAt (s : State) (r : Nat) (f : W256) : State :=
  let c := fld f 96 8
  if s.foremanOn && s.regFld HEALTH_FOREMAN 0 6 == r && decide (c < 64) && s.inStep c then
    s.withhold c (fld f 80 16) (frameRegion f % 64) else s

/-- A SERVICE frame reaches a region (R113): it is taken by the region that it is for, and passed on by others. -/
def State.noteFrameAt (s : State) (r : Nat) (f : W256) : State :=
  if fld f 104 8 = r then s.modFabric fun b => { b with notes := b.notes ++ [(r, fld f 112 128)] }
  else s.queueFrame (7744 + r) (hopDir r (fld f 104 8 % 64)) f false

/-- A region's service router sees a frame (R82). -/
def State.regionSees (s : State) (r : Nat) (f : W256) : State :=
  match fld f 0 4 with
  | 1 =>
    if bitAt f 31 then s.barrierFrame r f
    else (frameCtxs f 104).foldl (fun s c =>
      if (s.region r).owner = some c ∧ fld f 16 13 / 120 = r then s.coreCame c (fld f 16 13) else s) s
  | 3 => (s.faultFrameAt r f).passOn r f
  | 4 => s.noteFrameAt r f
  | 5 =>
    let s := if s.foreman.standbys.contains r then { s with foreman := { s.foreman with mirror := s.epoch } } else s
    s.passOn r f
  | _ => s

/-- A frame that goes between a region's routers and its service router is there in the slot in which it is sent (R82). -/
def State.withinRegion (s : State) (f : CtlFrame) : State :=
  let r := routerRegion f.router
  if f.router < 7744 then s.regionSees r f.frame
  else match fld f.frame 0 4 with
    | 1 => (frameCtxs f.frame 168).foldl (fun s c => s.freeRegion c r) s
    | 3 => s.faultFrameAt r f.frame
    | _ => s

/-- CONTROL_SLOT (R79 to R82, R98): each link carries the waiting frame of highest priority. In the first slot of a held epoch in
which no BARRIER frame waits, every router sends HOLD_ACK. -/
def execControlSlot (slot : Fin 4) (s : State) : Out :=
  if s.fabricMode = 0 then .next s else
  let s := if s.foremanOn && slot.val == 0 && s.epoch % 16 == 0 then s.sendMirror else s
  let l := s.fabric.ctl.filter fun f => s.routerOn f.router
  if s.fabric.held && !s.fabric.ackSent && !l.any fun f => fld f.frame 0 4 == 1 then
    .next (s.modFabric fun b => { b with wire := [], acking := true, ackSent := true })
  else
    let sent := ((l.zipIdx.filter fun f => ctlFirst l f).map (·.1)).map fun f => f.sent s.epoch
    let kept := (l.zipIdx.filter fun f => !ctlFirst l f).map (·.1)
    let s := s.modFabric fun b => { b with
      ctl := (b.ctl.filter fun f => !s.routerOn f.router) ++ kept, wire := sent, acking := false }
    .next ((sent.filter fun f => f.link == 8).foldl (fun s f => s.withinRegion f) s)

/-- The router at the other end of a link, and its own number for the link. -/
def linkPartner (router link : Nat) : Option (Nat × Nat) :=
  let back := if link < 4 then (link + 2) % 4 else 4 + (link + 2) % 4
  if router < 7744 then (portPartner router link).map fun q => (q.1, back)
  else (neighbour (router - 7744) link).map fun x => (7744 + x, back)

/-- The frame that a router has sent on a link in the latest control slot (R80, R98): HOLD_ACK with the length that it has
latched, the frame that waited, or IDLE. -/
def State.slotFrame (s : State) (router link : Nat) : Option W256 :=
  if !s.routerOn router || (linkPartner router link).isNone then none
  else if s.fabric.acking then some (stampCtl s.epoch (ctlFrame 2 (s.holdLen router) (sourceOf router) 0 0 0))
  else match s.fabric.wire.find? fun f => f.router == router && f.link == link with
    | some f => some f.frame
    | none => some (stampCtl s.epoch (ctlFrame 0 0 (sourceOf router) 0 0 0))

/-- A BARRIER or FAULT frame that arrives broken is sent again in the next slot (R81): its sender's link queues it once more. -/
def State.repeatFrame (s : State) (router link : Nat) : State :=
  match linkPartner router link with
  | none => s
  | some (q, l) => match s.fabric.wire.find? fun f => f.router == q && f.link == l with
    | none => s
    | some f => match fld f.frame 0 4 with
      | 1 => if fld f.frame 16 16 = sourceOf q then s.queueBarrier q l (fld f.frame 104 64) (fld f.frame 168 64)
        else s.queueFrame q l f.frame false
      | 3 => s.queueFrame q l f.frame false
      | _ => s

/-- CONTROL_FRAME_RECEIVE (R81, R82, R98, R106, R409): a frame that a router of a region receives is seen by its service
router. -/
def execControlFrameReceive (at_ : RouterId) (link : Fin 8) (frame : W256) (s : State) : Out :=
  let n := routerNo at_
  if s.fabricMode = 0 || !s.routerOn n then .next s else
  let good := fld frame 240 16 == (crcMsb 16 0x1021#16 0xFFFF#16 (leBytes 30 frame.toNat)).toNat
  let type_ := fld frame 0 4
  if !good then .next ((s.orReg MOD_FABRIC_FAULT 8).repeatFrame n link.val)
  else if 6 ≤ type_ then .next (s.orReg MOD_FABRIC_FAULT 8)
  else if type_ = 2 then .next (if fld frame 4 12 = s.holdLen n then s else s.holdDisagree)
  else .next (if s.routerOn (7744 + routerRegion n) then s.regionSees (routerRegion n) frame else s)

/-! Segments (R83, R84). -/

/-- The bank of a table's segment, when the table has it. -/
def HopTable.bank (t : HopTable) (seg : Nat) : Option Bank := t.segs[seg]?.map (bankOf seg)

/-- The hop tables of the variant in use. -/
def State.hopTables (s : State) (c : Nat) : List HopTable :=
  match (s.ctx c).step with
  | none => []
  | some st => match st.variant.bind fun n => st.prog.variants[n]? with
    | some v => v.hops
    | none => []

/-- Loading a bank that no earlier segment has had loaded takes its cycles from the sequencer that loads it (R84). -/
def State.loadBank (s : State) (seg : Nat) (cores : List SegCore) (cols : List SegColumn) (t : HopTable) : State :=
  let r := s.router t.router
  match t.bank seg with
  | none => s
  | some b =>
    if r.load.loaded && r.load.seg == seg then s else
    let s := s.setRouter t.router { r with load := { b with loaded := true } }
    if t.router < 7680 then
      s.delay (s.phys t.router) (((cores.find? fun q => q.core.val == t.router).map (·.load)).getD 0)
    else
      let n := ((cols.find? fun q => q.region.val == t.router - 7680).map (·.load)).getD 0
      s.modRegion (t.router - 7680) fun x => { x with svc := { x.svc with slack := x.svc.slack - (n : Int) } }

/-- The sequencer that loads a router's banks has done so: it has no work outstanding. -/
def State.bankReady (s : State) (t : HopTable) : Bool :=
  if t.router < 7680 then decide (0 ≤ (s.core (s.phys t.router)).time.slack) else decide (0 ≤ (s.region (t.router - 7680)).svc.slack)

/-- The banks swap (R83); the next segment's bank is loaded as the work of this one (R84). -/
def State.swapBank (s : State) (t : HopTable) (seg : Nat) : State :=
  let r := s.router t.router
  s.setRouter t.router { r with
    run := r.load, live := true, start := s.schedEpoch
    load := match t.bank (seg + 1) with
      | some b => { b with loaded := true }
      | none => Bank.reset }

/-- A sequencer enters a segment with the slack that it holds (R623). -/
def SeqTime.enter (t : SeqTime) (work : List Nat) : SeqTime :=
  { t with due := work, slack := min t.slack (work.foldl (· + ·) 0 : Nat) }

/-- SEGMENT_START (R83, R84, R88, R99, R109, R623): a segment of a running pass starts in a live epoch of the scheduled mode, once
every router's bank is loaded. -/
def execSegmentStart (ctx : Fin 64) (seg : Nat) (cores : List SegCore) (cols : List SegColumn) (s : State) : Out :=
  let c := ctx.val
  let tabs := (s.hopTables c).filter fun t => (t.bank seg).isSome && !s.isDark (routerRegion t.router)
  let passing := (s.ctx c).step.any (·.running)
  if s.fabricMode ≠ 2 ∨ s.fabric.held = true ∨ passing = false ∨ tabs = [] then .next s else
  let s := tabs.foldl (fun s t => s.loadBank seg cores cols t) s
  if !tabs.all s.bankReady then .next s else
  let s := tabs.foldl (fun s t => s.swapBank t seg) s
  let s := cores.foldl (fun s q =>
    if s.coreCtx q.core = some c then s.modCore (s.phys q.core) fun k => { k with
      time := k.time.enter q.work, streams := q.binds.map fun b => ⟨b, 0, false⟩ }
    else s) s
  .next (cols.foldl (fun s q =>
    if (s.region q.region).owner = some c then s.modRegion q.region fun x => { x with svc := x.svc.enter q.work } else s) s)

/-! Hop entries (R85 to R92, R103, R104). -/

/-- Data cycles before schedule cycle `t`: control slots are skipped and not counted (R71, R85). -/
def dataIndex (t : Nat) : Nat := t - (t + 63) / 64

/-- A word launched earlier is at the end of its link in cycle `t` (R73). -/
def LinkWord.due (w : LinkWord) (t : Nat) : Bool :=
  decide (w.at_ + w.lat ≤ t) && decide (dataIndex t ≤ dataIndex w.at_ + w.lat)

/-- The key of an input port's link: a column router's express taps are on the track of its region's tap core (R74). -/
def inKey (router port : Nat) : Nat := (if 7680 ≤ router ∧ 4 ≤ port then tapCore (router - 7680) else router) * 16 + port

def State.linkWords (s : State) (key : Nat) : List LinkWord := spGet (fun _ => []) s.fabric.links key

/-- A word enters a link; words that nobody took are gone. -/
def State.pushWord (s : State) (key : Nat) (w : LinkWord) : State :=
  let l := (s.linkWords key).filter fun x => decide (dataIndex w.at_ ≤ dataIndex x.at_ + x.lat)
  s.modFabric fun b => { b with links := spSet (fun _ => []) b.links key (l ++ [w]) }

/-- A word as a router takes it: its lanes and sideband bits (R72), and how many late faults the taking met (R103). -/
structure Taken where
  lanes  : List W32
  valid  : Bool
  poison : Bool
  sat    : Bool
  late   : Nat
  home   : List (Option (Nat × Nat)) := []
deriving DecidableEq, Repr

/-- A word with VALID and POISON set and all data bits zero (R103); SAT stays (R91). -/
def Taken.bad (late : Nat) (sat : Bool := false) : Taken := ⟨[], true, true, sat, late, []⟩
def Taken.none : Taken := ⟨[], false, false, false, 0, []⟩

/-- The word at an input link in cycle `t`; one that a track collision has kept from its launch is a late fault (R87, R103). -/
def State.takeLink (s : State) (router port t : Nat) (uncorr : Bool) : Taken :=
  let l := (s.linkWords (inKey router port)).filter fun w => w.due t
  if l.any fun w => !w.valid then .bad 1 else
  match l with
  | w :: _ => if w.poison || uncorr then .bad 1 w.sat else ⟨w.lanes, true, false, w.sat, 0, w.home⟩
  | [] => match portPartner router port with
    | some (q, _) => if s.isDark (routerRegion q) then .bad 1 else .none
    | none => .none

/-- The next word of a core's send stream (R88); a stream that is not bound, is used up, or whose core has not caught up is not
ready (R93, R103). A poisoned granule is sent with POISON. -/
def State.takeCore (s : State) (router stream bytes : Nat) : Taken × State :=
  let k := s.phys router
  let c := s.core k
  match c.streams.find? fun b => b.spec.send && b.spec.stream.val == stream with
  | none => (.bad 1, s)
  | some b =>
    let on := s.modCore k fun c => { c with streams := c.streams.map fun x =>
      if x.spec.send && x.spec.stream.val == stream then { x with pos := x.pos + bytes } else x }
    if c.time.slack < 0 ∨ b.spec.grans * 32 < b.pos + bytes then (.bad 1, on)
    else
      let a := b.spec.first.toNat * 32 + b.pos
      if c.poisoned (a / 32) ((bytes + 31) / 32) then (.bad 0, on.doubtRegion (router / 120) b.spec.mb.toNat (some router))
      else (⟨(List.range (bytes / 4)).map fun i => BitVec.ofNat 32 (c.bench.readNat (a + 4 * i) 4), true, false, false, 0,
        (List.range (bytes / 32)).map fun i => c.homeOf (a / 32 + i)⟩, on)

/-- Two words combine lane by lane (R90 to R92); the flag says that a lane of this INT32 add has saturated. A combine with an
operand that is not VALID is one late fault, each word that arrives poisoned another (R103). -/
def combine (op : Nat) (a b : Taken) : Taken × Bool :=
  let late := a.late + b.late + (if a.valid && b.valid then 0 else 1)
  if !a.valid || !b.valid || a.poison || b.poison then (.bad late (a.sat || b.sat), false) else
  let n := max a.lanes.length b.lanes.length
  let es := (List.range n).map fun i =>
    let x := a.lanes.getD i 0#32
    let y := b.lanes.getD i 0#32
    if op = 1 then addI32 x y else ((addF32 x y).1, false)
  let sat := es.any (·.2)
  (⟨es.map (·.1), true, false, a.sat || b.sat || sat, late, []⟩, sat)

/-- A launch onto an express track finds it occupied (R87): a word passes the tap in that cycle, ⌈3i/8⌉ data cycles after its
launch `i` positions back (assumption 25). -/
def State.trackTaken (s : State) (router dir t : Nat) : Bool :=
  let rc := coreRC (if router < 7680 then router else tapCore (router - 7680))
  (List.range 8).any fun i => match shiftRC rc dir (8 - i) with
    | none => false
    | some dest => match coreAt dest.1 dest.2 with
      | none => false
      | some l => (s.linkWords (l * 16 + 4 + (dir + 2) % 4)).any fun w => w.valid && dataIndex w.at_ + (3 * i + 7) / 8 == dataIndex t

/-- A word leaves on an output link. -/
def State.driveLink (s : State) (router port t : Nat) (w : Taken) : State :=
  match portPartner router port with
  | none => s
  | some (q, lat) =>
    if s.isDark (routerRegion q) then s else
    let key := q * 16 + (if port < 4 then (port + 2) % 4 else 4 + (port + 2) % 4)
    let word : LinkWord := ⟨if port < 4 then w.lanes else w.lanes.take 8, true, w.poison, w.sat, t, lat, if port < 4 then w.home else w.home.take 1⟩
    if 4 ≤ port ∧ s.trackTaken router (port - 4) t = true then
      let s := (s.orReg MOD_FABRIC_FAULT 2).orReg (REGION_FAB_STATUS (routerRegion router)) 8
      s.pushWord key { word with lanes := [], valid := false }
    else s.pushWord key word

/-- A word is delivered to a core's receive stream (R88, R104). -/
def State.driveCore (s : State) (router stream bytes : Nat) (w : Taken) : State :=
  let k := s.phys router
  let r := regionOfPhys k
  let bind := (s.core k).streams.find? fun b => !b.spec.send && b.spec.stream.val == stream
  let s := match bind with
    | none => s
    | some b =>
      let a := b.spec.first.toNat * 32 + b.pos
      let data := (wordsBytes (w.lanes ++ List.replicate (bytes / 4 - w.lanes.length) 0#32)).take bytes
      s.modCore k fun c =>
        let c := if b.spec.grans * 32 < b.pos + bytes then c else
          let gs := (List.range ((bytes + 31) / 32)).map fun i => a / 32 + i
          let c := (w.home.zipIdx).foldl (fun (c : Core) e => match e.1 with
            | some (crate, g) => c.home (a / 32 + e.2) 1 crate g
            | none => c) (c.unhome (a / 32) ((bytes + 31) / 32))
          { c with bench := c.bench.write a data,
                   poison := if w.poison then c.poison ++ gs else c.poison.filter fun g => !gs.contains g }
        { c with streams := c.streams.map fun x =>
          if !x.spec.send && x.spec.stream.val == stream then { x with pos := x.pos + bytes, sat := x.sat || w.sat } else x }
  let s := if b_flit bytes bind then s.event k 0x12 1 else s
  if !w.poison then s else
  let mb := match bind with
    | some b => b.spec.mb.toNat
    | none => (s.core k).mb
  ((s.orReg (REGION_FAB_STATUS r) 2).event k 0x16 1).doubtRegion r mb (some router)
where
  /-- A word ends a flit: every word of 128 B, every fourth of 32 B (R71). -/
  b_flit (bytes : Nat) (b : Option StreamBind) : Bool :=
    decide (128 ≤ bytes) || (match b with | some b => decide ((b.pos + bytes) % 128 = 0) | none => false)

/-- One data cycle of a hop entry at a router, at schedule cycle `t` (R85, R89 to R92). -/
def State.runHop (s : State) (router : Nat) (e : W64) (t : Nat) (uncorr uncorr2 : Bool) : State :=
  let outs := heOuts e
  let bytes := if outs.all fun p => decide (4 ≤ p ∧ p < 8) then 32 else 128
  let region := routerRegion router
  let take (s : State) (p : Nat) (uncorr : Bool) : Taken × State :=
    if p = 8 then
      let bind := (s.core (s.phys router)).streams.find? fun b => b.spec.send && b.spec.stream.val == heStream e
      let (w, s) := s.takeCore router (heStream e) bytes
      (w, s.event (s.phys router) 0x11 (if State.driveCore.b_flit bytes bind then 1 else 0))
    else if p = 15 then (.none, s) else (s.takeLink router p t uncorr, s)
  let (a, s) := take s (heIn e) uncorr
  let (w, sat, s) := if heOp e = 0 then (a, false, s) else
    let (b, s) := take s (heIn2 e) uncorr2
    let (w, sat) := combine (heOp e) a b
    (w, sat, s)
  let s := if w.late = 0 then s else
    ((s.bump (REGION_LATE region) w.late).orReg (REGION_FAB_STATUS region) 1).bump HEALTH_FAULTS_LASTING w.late
  let s := if sat then s.orReg (REGION_FAB_STATUS region) 4 else s
  if !w.valid then s else
  let width := match heIn e with
    | 8 => bytes
    | p => if 4 ≤ p ∧ p < 8 then 32 else 128
  outs.foldl (fun s p => if p = 8 then s.driveCore router (heStream e) width w else s.driveLink router p t w) s

/-- The schedule epoch of a router's segment that it runs now (R78, R98). -/
def State.segEpoch (s : State) (no : Nat) : Nat :=
  let r := s.router no
  (((s.schedEpoch : Int) + r.skew - r.start) % (max 1 r.run.period : Nat)).toNat

/-- HOP_ENTRY_RUN (R85, R96, R103, R105): data cycle `n` of an entry's run, in a live epoch of the scheduled mode. -/
def execHopEntryRun (at_ : RouterId) (entry : Fin 4096) (n corr : Nat) (uncorr uncorr2 : Bool) (s : State) : Out :=
  let no := routerNo at_
  let r := s.router no
  match r.run.entries[entry.val]? with
  | none => .next s
  | some e => match (runCycles (heCycle e) (heLen e))[n]? with
    | none => .next s
    | some cyc =>
      if s.fabricMode ≠ 2 ∨ s.heldFor no = true ∨ r.live = false ∨ s.isDark (routerRegion no) = true ∨ s.segEpoch no ≠ heEpoch e then
        .next s
      else .next ((s.bump (REGION_LINK_CORR (routerRegion no)) corr).runHop no e (s.schedEpoch * 256 + cyc) uncorr uncorr2)

/-! Modes (R109 to R113). -/

/-- FABRIC_MODE_CHANGE (R109): to scheduled mode when a pass has started, whose first segment falls due, and no service packet is
in flight; to service mode when no context has a step in progress. -/
def execFabricModeChange (scheduled : Bool) (s : State) : Out :=
  let ok := if scheduled then s.fabricMode == 1 && s.contexts.any (fun c => (s.ctx c).step.any (·.running)) && s.fabric.flying.isEmpty
    else s.fabricMode == 2 && !s.anyStep
  if ok then .next (s.changeMode (if scheduled then 2 else 1)) else .next s

/-- The centre of a region, where its service router joins the express layer (R62, assumption 58). -/
def centreCore (r : Nat) : Nat := r * 120 + 5 * 12 + 6

/-- The core whose express taps a router uses. -/
def expressCore (n : Nat) : Nat := if n < 7680 then n else if n < 7744 then tapCore (n - 7680) else centreCore (n - 7744)

/-- The cycles that a service packet takes (R110): along the row track first, then along the column track, three for every eight
positions and one for every seam. -/
def packetCycles (a b : Nat) : Nat :=
  let p := coreRC (expressCore a)
  let q := coreRC (expressCore b)
  let gap (x y : Nat) : Nat := max x y - min x y
  3 * ((gap p.2 q.2 + 7) / 8) + gap (p.2 / 12) (q.2 / 12) + 3 * ((gap p.1 q.1 + 7) / 8) + gap (p.1 / 10) (q.1 / 10)

/-- The SERVICE frames of a firmware message (R80, R113): 128 bits of it each, behind the number of the region that it is for
(assumption 58). -/
def State.sendNotes (s : State) (src dst : Nat) (flits : List W512) : State :=
  flits.foldl (fun s w => (List.range 4).foldl (fun s i =>
    s.queueFrame (7744 + src) (if src = dst then 8 else hopDir src dst)
      (ctlFrame 4 0 (0x8000 + src) 0 (((s.region src).owner).getD 0) (dst + (fld w (128 * i) 128 <<< 8))) true) s) s

/-- SERVICE_PACKET (R110, R112, R113): in service mode a packet of 1 to 63 flits of 128 B, each given as two words, travels to its
router; one that goes further than R112 allows is noted, and has no bound. In scheduled mode a message goes in SERVICE frames. -/
def execServicePacket (src : Fin 64) (dst : RouterId) (sender : ServiceSender) (flits : List W512) (s : State) : Out :=
  let d := routerNo dst
  let r := routerRegion d
  if !s.routerOn (7744 + src.val) || !s.routerOn d || flits.length < 2 || 126 < flits.length || flits.length % 2 != 0 then .next s
  else if s.fabricMode = 2 then .next (s.sendNotes src.val r flits)
  else if s.fabricMode ≠ 1 then .next s else
  let near := src.val == r || (neighbours src).contains r ||
    (sender != .region && (entryRegions.contains src.val || entryRegions.contains r))
  let (n, s) := if near then (0, s) else s.free
  let s := if near then s else s.orReg MOD_FABRIC_FAULT 4
  let at_ := s.epoch * 256 + packetCycles (7744 + src.val) d + n
  .next (s.modFabric fun b => { b with flying := b.flying ++ [(⟨7744 + src.val, d, flits, at_⟩ : Packet)] })

/-! A region's micro-batch boundary (R49 to R54, R59). -/

/-- A region's repair state: its skip row, its skip columns by physical row, and its dead cores. -/
structure RepairMap where
  skipRow : Nat
  skipCol : List Nat
  dead    : List Nat
deriving DecidableEq, Repr

def State.repairMap (s : State) (r : Nat) : RepairMap :=
  ⟨s.regFld (REGION_ROWMAP r) 0 4, (List.range 11).map fun i => s.regFld (REGION_COLMAP r i) 0 4, (s.region r).dead⟩

/-- The dead cores of a physical row. -/
def RepairMap.inRow (m : RepairMap) (p : Nat) : List Nat := m.dead.filter fun k => k / 13 == p
/-- The physical site of a logical core of the region (R47, R48). -/
def RepairMap.site (m : RepairMap) (i : Nat) : Nat :=
  let p := if i / 12 < m.skipRow then i / 12 else i / 12 + 1
  p * 13 + (if i % 12 < m.skipCol.getD p 12 then i % 12 else i % 12 + 1)

/-- The table of R50 for one core: the state after it and whether a skip column (1) or the skip row (2) was set; none for a
region loss. -/
def RepairMap.fault (m : RepairMap) (k : Nat) : Option (RepairMap × Nat) :=
  let p := k / 13
  let m' := { m with dead := insertNew k m.dead }
  if p = m.skipRow then some (m', 0)
  else if m.inRow p = [] then some ({ m' with skipCol := m.skipCol.set p (k % 13) }, 1)
  else if m.skipRow = 10 ∧ (m.inRow 10).length ≤ 1 then
    some ({ m' with skipRow := p, skipCol := match m.inRow 10 with
      | [d] => m.skipCol.set 10 (d % 13)
      | _ => m.skipCol }, 2)
  else none

/-- The smallest of a list and the rest. -/
def popLeast (l : List Nat) : Option (Nat × List Nat) :=
  match l with
  | [] => none
  | a :: t => let m := t.foldl min a; some (m, l.filter (· ≠ m))

/-- Apply the table to every recorded fault in ascending order, then to the spare sites that fail their test (R52, R54). The
list of answers names the cores repaired and how; the flag says whether the region can go on. -/
def RepairMap.settle (old : RepairMap) (failed : List Nat) : Nat → RepairMap → List Nat → List (Nat × Nat) → RepairMap × List (Nat × Nat) × Bool
  | 0, m, _, done => (m, done, true)
  | fuel + 1, m, todo, done =>
    match popLeast todo with
    | some (k, rest) => match m.fault k with
      | some (m, how) => settle old failed fuel m rest (if how = 0 then done else done ++ [(k, how)])
      | none => ({ m with dead := (todo.foldl (fun d x => insertNew x d) m.dead) }, done, false)
    | none =>
      let taken := ((List.range 120).filter fun i => m.site i != old.site i).map m.site
      match failed.filter fun k => taken.contains k && !m.dead.contains k with
      | [] => (m, done, true)
      | bad => settle old failed fuel m bad done

/-- Show a repair state in the region's registers (R59). -/
def State.showMap (s : State) (r : Nat) (m : RepairMap) : State :=
  let s := (s.setRegFld (REGION_ROWMAP r) 0 4 m.skipRow).setRegFld (REGION_ROWMAP r) 8 8 m.dead.length
  (List.range 11).foldl (fun s p =>
    let col := m.skipCol.getD p 12
    s.setReg (REGION_COLMAP r p) (w32 (col + bitN (m.dead.contains (p * 13 + col)) 4 + bitN (decide (2 ≤ (m.inRow p).length)) 5))) s

/-- A physical core takes up the work of a logical core at a repair (R53, R149, R240): its bench, accumulators and cluster
state are wiped; its counters stay (R565). -/
def Core.takeUp (new old : Core) : Core :=
  { Core.reset with time := old.time, streams := old.streams, sgen := new.sgen, countdown := new.countdown, records := new.records, tagged := new.tagged
                    mb := old.mb, pos := old.pos, pass := old.pass, obs := old.obs }

/-- The repairs of a region (R50 to R54). -/
def State.repairRegion (s : State) (r : Nat) (failed : List Nat) : State :=
  let old := s.repairMap r
  let todo := (s.region r).newDead
  if todo = [] then s else
  let (m, done, ok) := old.settle failed 400 old (todo.filter fun k => !old.dead.contains k) []
  let s := (s.modRegion r fun x => { x with newDead := [], dead := m.dead }).modBoot fun b => { b with invDue := true }
  if !ok then (s.showMap r { old with dead := m.dead }).goDark r .notServiceable else
  let moved := (List.range 120).filter fun i => m.site i != old.site i
  let s0 := s
  let s := s.showMap r m
  let s := moved.foldl (fun s i =>
    s.setCore (r * 143 + m.site i) ((s0.core (r * 143 + m.site i)).takeUp (s0.core (r * 143 + old.site i)))) s
  let s := if done = [] then s else
    (s.setRegFld (REGION_MAPGEN r) 0 16 (s.regFld (REGION_MAPGEN r) 0 16 + 1)).modRegion r fun x => { x with
      refetch := decide (moved ≠ [])
      restores := moved.flatMap fun i => (s0.core (r * 143 + old.site i)).homes.map fun h => (r * 120 + i, h) }
  match s0.region r |>.owner with
  | none => s
  | some c => done.foldl (fun s e => s.postEvent c 0x102 (w32 (r * 143 + e.1)) (w32 (e.2 - 1)) 0#32) s

/-- MICRO_BATCH_BOUNDARY (R51, R418): between two micro-batches of its context, the region's recorded faults are repaired, and a region
that the health monitor has given up goes dark. -/
def execMicroBatchBoundary (region : Fin 64) (failed : List (Fin 143)) (s : State) : Out :=
  let r := region.val
  let x := s.region r
  let busy := match x.owner with
    | some c => !s.atBoundary c
    | none => false
  if busy || s.isDark r then .next s
  else if x.darkDue then .next (s.goDark r .riskLevel)
  else .next (s.repairRegion r (failed.map (·.val)))

/-- A core's bench granules are filled again from their crate: poisoned where it is, and altogether when it can no longer be
read. -/
def State.restoreBench (s : State) (c l : Nat) (h : BenchHome) : State :=
  let p := meplace (s.entry c h.crate)
  let lost := s.crateRetired c h.crate
  let bad := (List.range h.grans).filter fun n => lost || s.placeBad p (h.gran + n) 1
  let bs := if lost then List.replicate (32 * h.grans) 0#8 else s.placeRead p (32 * h.gran) (32 * h.grans)
  (s.foremanReads c (h.crate * 65536) 1).modCore (s.phys l) fun k =>
    let k := (k.writeBench h.first bs).home h.first h.grans h.crate h.gran
    { k with poison := k.poison ++ bad.map (h.first + ·) }

/-- REPAIR_REFETCH_COMPLETE (R53, R268): the crates that the region's benches held are in them again. The refetch waits for the
repair of a crate (R331). -/
def execRepairRefetchComplete (region : Fin 64) (s : State) : Out :=
  let r := region.val
  let x := s.region r
  let repairing (c : Nat) : Bool := (s.ctx c).step.any fun st => st.repairs.any fun q => x.restores.any fun e => e.2.crate == q.crate
  if !x.refetch || x.owner.any repairing then .next s else
  let s := s.modRegion r fun x => { x with refetch := false, restores := [] }
  .next (match x.owner with
    | none => s
    | some c => x.restores.foldl (fun s e => s.restoreBench c e.1 e.2) s)

end Sys2Proof.Machine
end

