-- ==== Sys2Proof/Machine/Tiers.lean ====
section
/-! DEFINITION. The memory tiers at work: cellar transfers (R270 to R272), uncorrectable reads (R268, R274, R277), late requests
(R278), the rebuild of retired crates (R280, R413, R415), and migration (R291 to R294). -/

namespace Sys2Proof.Machine

/-! Cellar transfers (R270). -/

/-- A cellar transfer command as its word gives it (R270): legal when it uses no reserved field or value, and stays within one
crate and the bench. -/
def cellarXfer (w : BitVec 128) : CellarXfer :=
  let bench := fld w 32 16
  let len := fld w 48 12
  let addr := fld w 64 48
  let ok := decide (fld w 0 2 ≤ 1) && fld w 3 5 == 0 && fld w 27 5 == 0 && fld w 60 4 == 0 && fld w 112 16 == 0 &&
    decide (1 ≤ len ∧ len ≤ 2048) && addr % 32 == 0 && decide (addr % 65536 / 32 + len ≤ 2048) && decide (bench + len ≤ benchGrans)
  ⟨ok, fld w 0 2 == 0, bitAt w 2, fld w 8 16, fld w 24 3, bench, len, addr⟩

/-- Scalar register `n` receives an end code and the granules moved. -/
def State.transferEnds (s : State) (k n code moved : Nat) : State :=
  let s := (s.modCore k fun c => c.setSreg n (w32 (code + (moved <<< 16)))).event k 0x0F moved
  if code = 0 then s else s.event k 0x10 1

/-- A cellar transfer once it is issued: it starts, and ends in issue order (R270). -/
def State.runCellar (s : State) (core : Fin 7680) (w : BitVec 128) : State :=
  let k := s.phys core
  if (s.coreCtx core).isNone then s else
  ((s.issued k).event k 0x0E 1).modCore k fun c => { c with xfers := c.xfers ++ [cellarXfer w] }

/-- CELLAR_TRANSFER (R270). -/
def execCellarTransfer (core : Fin 7680) (w : BitVec 128) (s : State) : Out :=
  .next (s.issue (s.phys core) (.cellar w) [] fun s => s.runCellar core w)

/-- Granules of the bench that a transfer of the core did not deliver arrive poisoned (R302). -/
def State.benchPoison (s : State) (k g n : Nat) : State :=
  s.modCore k fun c =>
    let c := c.writeBench g (List.replicate (32 * n) 0#8)
    { c with poison := c.poison ++ (List.range n).map (g + ·) }

/-- The first `n` granules of a transfer from the cellar to the bench; a poisoned mark travels with its granule. -/
def State.cellarLoad (s : State) (c k : Nat) (x : CellarXfer) (n : Nat) : State × Bool :=
  let e := s.entry c (x.addr / 65536)
  let p := meplace e
  let g := x.addr % 65536 / 32
  let bad := (List.range n).filter fun i => s.placeBad p (g + i) 1
  let bs := s.placeRead p (g * 32) (32 * n)
  (s.modCore k fun y =>
    let y := y.writeBench x.bench bs
    let y := if meTier e = 0 then y else y.home x.bench n (x.addr / 65536) g
    { y with poison := y.poison ++ bad.map (x.bench + ·) }, !bad.isEmpty)

/-- The first `n` granules of a transfer from the bench to the cellar. -/
def State.cellarStore (s : State) (c k : Nat) (x : CellarXfer) (n : Nat) : State × Bool :=
  let p := meplace (s.entry c (x.addr / 65536))
  let g := x.addr % 65536 / 32
  let y := s.core k
  let bad := (List.range n).filter fun i => y.poisoned (x.bench + i) 1
  let s := s.placeWrite p (g * 32) (y.bench.read (x.bench * 32) (32 * n))
  (s.placePoison p (bad.map (g + ·)), !bad.isEmpty)

/-- The crate lies in the row-bay of the core's own logical row (R270, R291). -/
def State.inBay (s : State) (c core crate : Nat) : Bool :=
  let e := s.entry c crate
  meTier e == 1 && nfld (meLoc e) 0 6 == core / 120 && nfld (meLoc e) 6 4 == core % 120 / 12

/-- A place for a crate that a transfer writes (R287, R289), in the home tier that the tensor table gives, else anywhere near. -/
def State.mapForWrite (s : State) (c core crate : Nat) : State × Nat :=
  match s.tensorOf c crate with
  | some t => s.placeForWrite c crate t.home t.hregion t.hbay t.pin t.bound false
  | none => s.placeForWrite c crate 0 (core / 120) (core % 120 / 12) false false false

/-- The transfer writes granules of a staging crate of this handoff. -/
def Handoff.stored (h : Handoff) (r : ChanRec) (x : CellarXfer) : Handoff :=
  let n := x.addr / 65536
  let first := r.crate h.q
  let mask := (2 ^ x.len - 1) <<< (x.addr % 65536 / 32)
  if r.recv = false ∧ first ≤ n ∧ n < first + r.slotc then
    { h with wrote := spSet (fun _ => 0) h.wrote (n - first) (spGet (fun _ => 0) h.wrote (n - first) ||| mask) }
  else h

/-- A transfer to a staging crate has ended: its granules are written, however it ended (R378, R382; assumption 65). -/
def State.stagingWrote (s : State) (c : Nat) (x : CellarXfer) : State :=
  s.modStep c fun st => { st with handoffs := st.handoffs.map fun h => h.stored (st.prog.chans.getD h.chan default) x }

/-- The oldest transfer of a core ends after `n` of its granules, with `code` for the rest (R302). An illegal one moves nothing
and makes its micro-batch doubtful (R270). -/
def State.endTransfer (s : State) (core k c : Nat) (x : CellarXfer) (n code : Nat) : State :=
  let s := s.modCore k fun y => { y with xfers := y.xfers.drop 1 }
  let crate := x.addr / 65536
  let g := x.addr % 65536 / 32
  let doubt (s : State) : State := s.doubtRegion (core / 120) x.mb (some core)
  if !x.legal then doubt (s.transferEnds k x.sreg 0xF 0)
  else if x.toBench then
    let gone := s.crateRetired c crate
    let e := s.entry c crate
    if gone ∨ (meTier e ≠ 0 ∧ s.inBay c core crate = false) then
      let code := if gone then 6 else 7
      ((s.benchPoison k x.bench x.len).noteEnd c code).transferEnds k x.sreg code 0
    else
      let s := if meTier e = 0 then s.orReg (CTX_MEM_STATUS c) 8 else s.countAccess c crate
      let (s, bad) := s.cellarLoad c k x n
      let s := if n < x.len then s.benchPoison k (x.bench + n) (x.len - n) else s
      let code := if code ≠ 0 then code else if bad then 8 else 0
      (s.noteEnd c code).transferEnds k x.sreg code n
  else
    let (s, short) := (s.stagingWrote c x).mapForWrite c core crate
    if short = 6 then (s.noteEnd c 6).transferEnds k x.sreg 6 0
    else if short ≠ 0 then (doubt (s.noteEnd c short)).transferEnds k x.sreg short 0
    else if s.inBay c core crate = false then
      let s := s.placePoison (meplace (s.entry c crate)) ((List.range x.len).map (g + ·))
      (s.noteEnd c 7).transferEnds k x.sreg 7 0
    else
      let s := s.countAccess c crate
      let (s, bad) := s.cellarStore c k x n
      let s := if bad then doubt s else s
      let s := s.placePoison (meplace (s.entry c crate)) ((List.range (x.len - n)).map (g + n + ·))
      -- a write to the source of a migration restarts its copy, which is made at the switch (R293)
      let code := if code ≠ 0 then code else if bad then 8 else 0
      (s.noteEnd c code).transferEnds k x.sreg code n

/-- The context for which a region's cores work. -/
def State.ownerOf (s : State) (core : Nat) : Option Nat :=
  if s.isDark (core / 120) then none else (s.region (core / 120)).owner.filter fun c => s.ctxState c == 1

/-- CELLAR_TRANSFER_END (R270): its lateness comes out of the core's slack (R272). -/
def execCellarTransferEnd (core : Fin 7680) (late : Nat) (s : State) : Out :=
  let k := s.phys core
  match (s.core k).xfers, s.ownerOf core with
  | x :: _, some c => .next ((s.delay k late).endTransfer core k c x x.len 0)
  | _, _ => .next s

/-- CELLAR_TRANSFER_LATE (R272, R302): it has moved fewer granules than it was to move. -/
def execCellarTransferLate (core : Fin 7680) (moved late : Nat) (s : State) : Out :=
  let k := s.phys core
  match (s.core k).xfers, s.ownerOf core with
  | x :: _, some c => if x.legal ∧ moved < x.len then .next ((s.delay k late).endTransfer core k c x moved 5) else .next s
  | _, _ => .next s

/-! Reads that end (R268, R274, R277 to R279). -/

/-- A micro-batch that an ended request served is withheld. -/
def State.doubtFor (s : State) (c : Nat) (mb : Option (BitVec 16)) : State :=
  match mb with
  | some m => if s.inStep c then s.withhold c m.toNat 0x3F else s
  | none => s

/-- The bench granules that an ended request was to fill arrive poisoned (R279, R302). -/
def State.poisonDest (s : State) (dest : List BenchSpan) : State :=
  dest.foldl (fun s d => s.benchPoison (s.phys d.core) d.first.toNat (min d.grans (benchGrans - d.first.toNat))) s

/-- STOCKROOM_REQUEST_LATE (R277 to R279): 100 µs have passed, or a transfer of the request has failed all four repeats, which is
a lasting fault (R397, R398). -/
def execStockroomRequestLate (ctx : Fin 64) (crate : W32) (link : Bool) (mb : Option (BitVec 16)) (dest : List BenchSpan) (s : State) :
    Out :=
  let c := ctx.val
  if meTier (s.entry c crate.toNat) ≠ 2 || s.crateRetired c crate.toNat then .next s else
  let s := if link then (s.bump QUOTA_LINK_RETRY 4).lasting else s
  .next ((((s.countAccess c crate.toNat).noteEnd c 5).poisonDest dest).doubtFor c mb)

/-- STOCKROOM_UNCORR_READ (R277, R279, R280): a second read that succeeds leaves a transient fault; when it fails too, the crate
awaits rebuild. -/
def execStockroomUncorrRead (ctx : Fin 64) (crate : W32) (again : Bool) (mb : Option (BitVec 16)) (dest : List BenchSpan) (s : State) :
    Out :=
  let c := ctx.val
  let n := crate.toNat
  if meTier (s.entry c n) ≠ 2 || s.crateRetired c n then .next s
  else if !again then .next ((s.countAccess c n).transient)
  else .next (((((s.countAccess c n).noteEnd c 4).tierUncorr c n 0).poisonDest dest).doubtFor c mb)

/-- The core whose oldest transfer reads a granule of a crate for a micro-batch. -/
def State.readerOf (s : State) (c crate granule mb : Nat) : Option (Nat × Nat × CellarXfer) :=
  s.cores.findSome? fun e => match e.2.xfers with
    | x :: _ =>
      let g := x.addr % 65536 / 32
      match s.logical e.1 with
      | some l =>
        if x.legal ∧ x.toBench ∧ x.addr / 65536 = crate ∧ x.mb = mb ∧ g ≤ granule ∧ granule < g + x.len ∧ s.ownerOf l = some c then
          some (l, e.1, x) else none
      | none => none
    | [] => none

/-- CELLAR_UNCORR_READ (R274, R302, R398): the granule is marked poisoned, the request that read it ends, and at the next step
boundary the crate moves to another slot. -/
def execCellarUncorrRead (ctx : Fin 64) (crate : W32) (granule : Fin 2048) (mb : BitVec 16) (s : State) : Out :=
  let c := ctx.val
  let n := crate.toNat
  let e := s.entry c n
  if meTier e ≠ 1 || s.crateRetired c n then .next s else
  let s := s.tierUncorr c n granule.val
  let s := match s.readerOf c n granule mb.toNat with
    | some (l, k, x) => s.endTransfer l k c x (granule.val - x.addr % 65536 / 32) 4
    | none => s.noteEnd c 4
  .next (s.doubtFor c (some mb))

/-- The micro-batch of a bench read: the reading instruction's core's, the stream's, or the transfer's (R268). -/
def Core.readMb (k : Core) : BenchReader → Nat
  | .engine => k.mb
  | .stream n => ((k.streams.find? fun b => b.spec.stream == n).map fun b => b.spec.mb.toNat).getD k.mb
  | .transfer => (k.xfers.head?.map (·.mb)).getD k.mb

/-- BENCH_UNCORR_READ (R268): the granule is poisoned and the reader's micro-batch becomes doubtful; a second error of the same
word within the step is a lasting fault of the core. A granule of a crate with a home is fetched again (R53). -/
def execBenchUncorrRead (core : Fin 7680) (granule : BitVec 16) (again : Bool) (reader : BenchReader) (s : State) : Out :=
  let k := s.phys core
  let g := granule.toNat
  let r := core.val / 120
  if (s.coreCtx core).isNone then .next s else
  let x := s.core k
  let twice := again && x.uncorr.contains g
  let s := s.modCore k fun x => { x with poison := insertNew g x.poison, uncorr := insertNew g x.uncorr }
  let s := (if twice then s.lastingCore k else s.lasting).doubtRegion r (x.readMb reader) (some core.val)
  .next (match x.homes.find? fun h => decide (h.first ≤ g ∧ g < h.first + h.grans) with
    | some h => s.modRegion r fun y => { y with refetch := true, restores := insertNew (core.val, h) y.restores }
    | none => s)

/-! Rebuild (R280, R413, R415). -/

/-- CRATE_REBUILD (R280): the crate is rewritten into a spare physical crate and carries no poisoned mark. -/
def execCrateRebuild (ctx : Fin 64) (crate : W32) (contents : List Byte) (s : State) : Out :=
  let c := ctx.val
  let n := crate.toNat
  if !(s.ctx c).awaiting.contains n || (s.ctx c).noMap || contents.length ≠ 65536 then .next s else
  match s.rehome c n with
  | (s, false) => .next s
  | (s, true) => .next (s.placeWrite (meplace (s.entry c n)) 0 contents)

/-- The pieces of a physical stockroom crate that lie on retired channels (R276). -/
def State.lostPieces (s : State) (p : Nat) : List Nat :=
  (List.range 16).filter fun i => s.retiredChans.contains ((p + i) % s.stackCount, (i + p / s.stackCount) % 16)

/-- CHANNEL_REBUILD (R413, R415): the pieces that are left and those that a replica supplies, when its crate carries the step's
tag, are written into a spare physical crate. A poisoned mark of a piece that is left stays with it (R399). -/
def execChannelRebuild (ctx : Fin 64) (crate : W32) (answer : PeerAnswer) (s : State) : Out :=
  let c := ctx.val
  let n := crate.toNat
  let x := s.ctx c
  let p := meLoc (x.entry n)
  let lost := s.lostPieces p
  if x.noMap || !x.awaiting.contains n || meTier (x.entry n) ≠ 2 || lost.isEmpty then .next s else
  let s := match s.replicas c with
    | [] => s
    | m :: _ => lost.foldl (fun s i => s.sendFetch c m 3 4 n i (.piece n)) s
  match answer with
  | .data tag bs =>
    if tag.toNat ≠ s.tag c ∨ bs.length ≠ 4096 * lost.length then .next (s.crateLost c n) else
    let kept := pieces (s.placeRead (.stock (stockBase p)) 0 65536)
    let whole := (List.range 16).flatMap fun i => match lost.idxOf? i with
      | some j => (bs.drop (4096 * j)).take 4096
      | none => kept.getD i []
    let bad := (List.range 2048).filter fun g => !lost.contains (g / 128) && s.placeBad (.stock (stockBase p)) g 1
    match s.rehome c n with
    | (s, false) => .next s
    | (s, true) =>
      let at_ := meplace (s.entry c n)
      .next ((s.placeWrite at_ 0 whole).placePoison at_ bad)
  | .refuses => .next (s.crateLost c n)
  | .silent => .next (s.crateLost c n)

/-! Migration (R292, R293). -/

/-- Where a free slot of a crate's home row-bay is. -/
def State.homeSlot (s : State) (c : Nat) (e : W64) : Option Nat :=
  if (s.region (meHRegion e)).owner == some c && !s.isDark (meHRegion e) && decide (meHBay e < 10) then
    (s.freeSlot (meHRegion e) (meHBay e)).map (cellarLoc (meHRegion e) (meHBay e))
  else none

/-- The prefetch schedule of the step in progress names the crate and has not fetched it (assumption 26). -/
def State.staged? (s : State) (c n : Nat) : Bool :=
  (s.ctx c).step.any fun st => st.prog.entries.zipIdx.any fun e => e.1.crate == n && !st.issued.contains e.2

/-- The closed ready gate waits for the crate. -/
def State.gateWants (s : State) (c n : Nat) : Bool :=
  s.phase c == 1 && (s.ctx c).step.any fun st => st.issued.any fun i =>
    (st.prog.entries.getD i default).crate == n && !st.landed.contains i

/-- A trigger of R292 holds for the crate: where it is to move; `n` is its number. -/
def State.trigger (s : State) (c n : Nat) : Option Bool :=
  let e := s.entry c n
  let on := s.effFld (CTX_MIG_CONTROL c) 8 1 == 1
  match meHome e, meTier e with
  | 1, 2 => if on then some true else none
  | 2, 1 => if on then some false else none
  | 0, 2 => if s.staged? c n || (on && decide (16 ≤ meCount e)) then some true else none
  | 0, 1 =>
    if on && meCount e == 0 && decide (15 * s.regFld (CTX_QUOTA_CELLAR c) 0 28 < 16 * s.useCellar c) then some false else none
  | _, _ => none

/-- MIGRATION_START (R292): the copy begins; from now on the crate counts in both tiers. -/
def execMigrationStart (ctx : Fin 64) (crate : W32) (s : State) : Out :=
  let c := ctx.val
  let n := crate.toNat
  let e := s.entry c n
  if !s.ctxOn c || !s.foremanOn || mePin e || meBound e || s.crateRetired c n || (s.ctx c).migrations.any (fun m => m.crate == n)
    || s.gateWants c n then .next s else
  let begin_ (toCellar : Bool) (loc : Option Nat) : State := match loc with
    | some l => { s with fresh := s.fresh + 1 }.modCtx c fun x => { x with migrations := x.migrations ++ [(⟨n, toCellar, l⟩ : Migration)] }
    | none => s
  match s.trigger c n with
  | some true => .next (if 0 < s.cellarRoom c then begin_ true (s.homeSlot c e) else s)
  | some false => .next (if 0 < s.stockRoom c then begin_ false s.freeStock else s)
  | none => .next s

/-- A request to the crate is outstanding. -/
def State.requested (s : State) (c n : Nat) : Bool :=
  ((s.ctx c).step.any fun st => st.issued.any fun i =>
    (st.prog.entries.getD i default).crate == n && !st.landed.contains i) ||
  s.cores.any fun e => (s.region (regionOfPhys e.1)).owner == some c && e.2.xfers.any fun x => x.addr / 65536 == n

/-- MIGRATION_SWITCH (R293, R306): the entry names the copy, poisoned marks included; the source is wiped and freed. -/
def execMigrationSwitch (ctx : Fin 64) (crate : W32) (s : State) : Out :=
  let c := ctx.val
  let n := crate.toNat
  let e := s.entry c n
  match (s.ctx c).migrations.find? fun m => m.crate == n with
  | none => .next s
  | some m =>
    let drop (s : State) : State := s.modCtx c fun x => { x with migrations := x.migrations.filter fun q => q.crate ≠ n }
    if s.crateRetired c n || (if m.toCellar then s.isDark (nfld m.loc 0 6) else s.stockRetired m.loc) then .next (drop s)
    else if meBound e || s.requested c n then .next s else
    let src := meplace e
    let new := setFld (setFld e 0 2 (if m.toCellar then 1 else 2)) 32 28 m.loc
    let dst := meplace new
    let bad := (List.range 2048).filter fun g => s.placeBad src g 1
    let s := (s.placeWrite dst 0 (s.placeRead src 0 65536)).placePoison dst bad
    .next (drop ((s.placeWipe src).setEntry c n new))

end Sys2Proof.Machine
end

