-- ==== Sys2Proof/Machine/Health.lean ====
section
/-! DEFINITION. The health monitor (R416 to R418, R430): rates and levels of regions, stockroom channels and caravan ports, the
module's risk, and what level 7 calls for, the retirement of a channel (R281) among it. -/

namespace Sys2Proof.Machine

/-! Rates (R416). Units are numbered: region r, channel 64 + stack × 16 + channel, port 832 + p; 848 is the count of wall
epochs. -/

def State.monitor (s : State) (u : Nat) : Monitor := spGet (fun _ => Monitor.reset) s.monitors u
def State.setMonitor (s : State) (u : Nat) (m : Monitor) : State :=
  { s with monitors := spSet (fun _ => Monitor.reset) s.monitors u m }

/-- A list without the zero entries at its end: what lies beyond the window's oldest entry is nothing. -/
def trimZeros (l : List (List Nat)) : List (List Nat) := (l.reverse.dropWhile fun e => e.all (· == 0)).reverse

/-- One more evaluation of a unit whose input counters stand at `now`; the window holds `n` evaluations. -/
def Monitor.observe (m : Monitor) (n : Nat) (now : List Nat) : Monitor :=
  let delta := now.zipIdx.map fun e => (e.1 + 2 ^ 32 - m.last.getD e.2 0 % 2 ^ 32) % 2 ^ 32
  { m with last := if now.all (· == 0) then [] else now, counts := trimZeros ((delta :: m.counts).take n) }

/-- Input `i` over the unit's window. -/
def Monitor.rate (m : Monitor) (i : Nat) : Nat := m.counts.foldl (fun t e => t + e.getD i 0) 0

/-- The level of a rate `num / den` against the limit `lim`. -/
def rateLevel (num den lim : Nat) : Nat :=
  if den = 0 ∨ 8 * num < den * lim then 0 else min 7 (Nat.log2 (8 * num / (den * lim)) + 1)

/-- The level of a junction temperature. -/
def tempLevel (t : Nat) : Nat :=
  if t < 85 then 0 else if t < 90 then 2 else if t < 95 then 4 else if t < 100 then 5 else if t < 105 then 6 else 7

/-- Disabled phases in group `g` of a region (R510). -/
def State.groupFailed (s : State) (r g : Nat) : Nat :=
  popCount ((s.reg (if g < 4 then REGION_PHASE_LO r else REGION_PHASE_HI r)).toNat >>> (8 * (g % 4)) % 256) 8

/-- The level of a region's failed phases: none in any group, one, or two and more in one group. -/
def State.phaseLevel (s : State) (r : Nat) : Nat :=
  match (List.range 8).foldl (fun m g => max m (s.groupFailed r g)) 0 with
  | 0 => 0
  | 1 => 4
  | _ => 6

/-- A limit register in effect; 0 is taken as 1 (R430). -/
def State.limit (s : State) (a : Nat) : Nat := max 1 (s.eff a).toNat

/-- The levels of a unit's inputs, in the order of R416's table, each with its row. -/
def State.inputLevels (s : State) (u : Nat) : List (Nat × Nat) :=
  let m := s.monitor u
  if u < 64 then
    let epochs := (s.monitor 848).rate 0
    [(0, rateLevel (m.rate 0) 1 (s.limit HEALTH_LIMIT_CORR)), (1, rateLevel (m.rate 1) 1 (s.limit HEALTH_LIMIT_CHECK)),
     (2, rateLevel (1024 * m.rate 2) epochs (s.limit HEALTH_LIMIT_HOLD)),
     (3, tempLevel (max (s.regFld (REGION_TEMP u) 0 8) (s.regFld (REGION_TEMP u) 8 8))), (4, s.phaseLevel u)]
  else if u < 832 then [(5, rateLevel (16 * m.rate 0) 1 (s.limit HEALTH_LIMIT_CORR))]
  else [(6, rateLevel (m.rate 0) 1 (s.limit HEALTH_LIMIT_RETRAIN))]

/-- A unit's level after an evaluation (R417): it rises at once, and falls by one after 10 s of lower values. -/
def Monitor.settle (m : Monitor) (value : Nat) : Monitor :=
  if m.level ≤ value then { m with level := value, lower := 0 }
  else if m.lower + 1 < 10000 then { m with lower := m.lower + 1 }
  else { m with level := m.level - 1, lower := 0 }

/-! Actions (R418). -/

/-- A channel is retired with every physical crate that has a piece on it; the tensor crates among them await rebuild (R281,
R413). -/
def State.retireChannel (s : State) (stack chan : Nat) : State :=
  if s.retired.contains (.channel stack chan) then s else
  let s := (s.retire (.channel stack chan)).orReg QUOTA_MEM_STATUS 2
  let s := s.existing.foldl (fun s c =>
    ((s.ctx c).map.filter fun e => meTier e.2 == 2 && crateOn s.stackCount (meLoc e.2) stack chan).foldl
      (fun s e => s.awaitRebuild c e.1) s) s
  (s.refillSpares.checkSpares).postAll 0x107 (w32 (stack + (chan <<< 8))) 0#32 0#32

/-- What level 7 calls for in a unit. -/
def State.atSeven (s : State) (u : Nat) : State :=
  if u < 64 then
    if s.isDark u || s.effFld HEALTH_CONTROL 4 1 == 0 then s
    else if (s.region u).owner.any s.inStep then s.modRegion u fun x => { x with darkDue := true }
    else s.goDark u .riskLevel
  else if u < 832 then s.retireChannel ((u - 64) / 16) ((u - 64) % 16)
  else if s.portState (u - 832) = 0 then s else s.portDown (u - 832)

/-- The units of the module. -/
def State.units (s : State) : List Nat :=
  List.range 64 ++ (List.range (16 * s.stackCount)).map (64 + ·) ++ (List.range s.ports).map (832 + ·)

/-- HEALTH_RISK (R430): the first unit with the module's level, and the first of its inputs that has it. Where no input of the
unit has its level any more (R417), which one is named is open: a free value (assumption 2). -/
def State.showRisk (s : State) : State :=
  let levels := s.units.map fun u => (u, (s.monitor u).level)
  let worst := levels.foldl (fun (a b : Nat × Nat) => if a.2 < b.2 then b else a) (0, 0)
  let u := worst.1
  let kind := if u < 64 then 0 else if u < 832 then 1 else 2
  let unit := if u < 64 then u else if u < 832 then u - 64 else u - 832
  let (input, s) := match (s.inputLevels u).find? fun e => e.2 == worst.2 with
    | some e => (e.1, s)
    | none => let (n, s) := s.free; (n % 16, s)
  let risk := w32 (worst.2 + (kind <<< 8) + (unit <<< 10) + (input <<< 20))
  let old := s.regFld HEALTH_RISK 0 3
  let s := s.setReg HEALTH_RISK risk
  let s := (List.range 8).foldl (fun s i =>
    s.setReg (HEALTH_REGION_RISK i) (w32 ((List.range 8).foldl (fun v j => v + ((s.monitor (8 * i + j)).level <<< (4 * j))) 0))) s
  let s := if worst.2 = old then s else s.postAll 0x100 risk 0#32 0#32
  -- below SEC_RISK a context may secure on risk again (R421)
  if worst.2 < max 1 (s.effFld HEALTH_CONTROL 0 3) then
    s.existing.foldl (fun s c => s.modCtx c fun x => { x with riskDone := false }) s
  else s

/-- Corrections reported since the last evaluation go into their counters (R268, R274, R277, R241). -/
def State.noteCorrections (s : State) (bench cellar lane : List (Fin 64 × Nat)) (chans : List (Fin 768 × Nat × Nat)) : State :=
  let s := bench.foldl (fun s e => s.bump (REGION_BENCH_CORR e.1) e.2) s
  let s := cellar.foldl (fun s e => s.bump (REGION_CELLAR_CORR e.1) e.2) s
  let s := lane.foldl (fun s e => s.bump (REGION_LANE_CORR e.1) e.2) s
  chans.foldl (fun s e => (s.bump QUOTA_LINK_RETRY e.2.2).bump HEALTH_FAULTS_TRANSIENT e.2.2) s

/-- The input counters of a unit as they stand. A channel's are what the evaluation brings on top of those it has had. -/
def State.inputs (s : State) (u : Nat) (chans : List (Fin 768 × Nat × Nat)) : List Nat :=
  if u < 64 then
    [(s.reg (REGION_BENCH_CORR u)).toNat + (s.reg (REGION_CELLAR_CORR u)).toNat + (s.reg (REGION_ACC_CORR u)).toNat
      + (s.reg (REGION_LANE_CORR u)).toNat + (s.reg (REGION_LINK_CORR u)).toNat, (s.region u).checks, (s.region u).heldN]
  else if u < 832 then
    [(s.monitor u).last.getD 0 0 + (chans.filter fun e => e.1.val == u - 64).foldl (fun t e => t + e.2.1 + e.2.2) 0]
  else if u < 848 then [(s.reg (CARAVAN_PORT_RETRAINS (u - 832))).toNat]
  else [s.epoch]

/-- HEALTH_EVALUATE (R416 to R418, R430), which the foreman's service cores run each 1 ms. -/
def execHealthEvaluate (bench cellar lane : List (Fin 64 × Nat)) (chans : List (Fin 768 × Nat × Nat)) (s : State) : Out :=
  if !s.foremanOn then .next s else
  let s := s.applyStaged fun a => inWin 0x400000 0x100 a
  let s := s.noteCorrections bench cellar lane chans
  let s := (848 :: s.units).foldl (fun s u =>
    s.setMonitor u ((s.monitor u).observe (if 832 ≤ u ∧ u < 848 then 60000 else 1000) (s.inputs u chans))) s
  let before := s
  let s := s.units.foldl (fun s u =>
    s.setMonitor u ((s.monitor u).settle ((s.inputLevels u).foldl (fun m e => max m e.2) 0))) s
  let s := s.showRisk
  let seven := s.units.filter fun u => (s.monitor u).level == 7
  let s := if seven.all fun u => (before.monitor u).level == 7 then s else s.orReg HEALTH_FLAGS 0x10
  .next (seven.foldl (fun s u => s.atSeven u) s)

end Sys2Proof.Machine
end

