-- ==== Sys2Proof/Machine/Frames.lean ====
section
/-! DEFINITION. Caravan frames as they arrive (R477 to R500): which are accepted, forwarded or discarded, acknowledgements,
order and resending, transfers, and what each type of frame does. -/

namespace Sys2Proof

open Sys2Proof.Machine

/-! The caravan header (R479). -/

def Frame.cls (f : Frame) : Nat := fld f.hdr 4 2
def Frame.type_ (f : Frame) : Nat := fld f.hdr 8 8
def Frame.job (f : Frame) : Nat := fld f.hdr 16 16
def Frame.src (f : Frame) : Nat := fld f.hdr 32 17
def Frame.dst (f : Frame) : Nat := fld f.hdr 64 17
def Frame.seq (f : Frame) : Nat := fld f.hdr 96 24
def Frame.part (f : Frame) : Nat := fld f.hdr 120 4
def Frame.npart (f : Frame) : Nat := fld f.hdr 124 4
def Frame.xid (f : Frame) : Nat := fld f.hdr 160 32

end Sys2Proof

namespace Sys2Proof.Machine

/-- The classes that a frame type may travel in; none for a reserved type. -/
def typeClasses (t : Nat) : List Nat :=
  if 1 ≤ t ∧ t ≤ 6 then [0] else
  match t with
  | 0x10 | 0x11 => [1]
  | 0x20 => [2]
  | 0x21 => [2, 3]
  | 0x22 | 0x23 => [1, 2, 3]
  | _ => []

/-- The subheader's bits that R481 and R497 fix at 0. -/
def subGood (f : Frame) : Bool :=
  match f.type_ with
  | 0x01 => fld f.sub 37 11 == 0 && fld f.sub 160 96 == 0
  | 0x20 => fld f.sub 52 12 == 0 && fld f.sub 82 6 == 0 && fld f.sub 97 159 == 0
  | _ => true

/-- R482's checks of the frame itself: version, reserved fields, type, class and PCP, length and CRC. -/
def State.frameGood (s : State) (f : Frame) : Bool :=
  let h := f.hdr
  fld h 0 4 == 1 && fld h 6 2 == 0 && fld h 53 11 == 0 && fld h 81 15 == 0 && fld h 141 19 == 0 && fld h 192 32 == 0 &&
  (typeClasses f.type_).contains f.cls && f.pcp.toNat == s.pcp f.cls && fld h 128 13 == f.data.length &&
  decide (f.data.length ≤ 4096) && decide (f.part ≤ f.npart) && subGood f && fld h 224 32 == (frameCrc h f.sub f.data).toNat

/-- A frame is discarded and counted (R482). -/
def State.discard (s : State) : State := s.bump CARAVAN_DISCARDS 1

/-- A frame for another module is forwarded in direct topology (R489, R490). -/
def State.forward (s : State) (f : Frame) : State :=
  let ps := s.allowed f.dst
  match ps[Config.flowHash f.src f.dst f.cls f.job % ps.length]? with
  | some p => s.emit (.frame p f)
  | none => s.discard.orReg CARAVAN_FLAGS 0x10

/-! Acknowledgements (R493, R494). -/

/-- The subheader of an ACK of a flow, chosen: [0] set, class in [5:4], the next SEQ expected in [31:8], [32] a frame is missing;
that of a class 0 frame is 0 (assumption 16). -/
def ackSub (cls next : Nat) (gap : Bool) : W256 := BitVec.ofNat 256 (1 + (cls <<< 4) + (next <<< 8) + bitN gap 32)

/-- An ACK for a frame leaves; no frame acknowledges it. -/
def State.sendAck (s : State) (f : Frame) (port : Option Nat) (sub : W256) : State :=
  let p := port.or (s.flowPort f.job f.src 0)
  s.launch p (s.mkFrame 0 0x02 f.job (p.getD 0) f.src 0 0 0 f.xid sub [])

/-! Delivery. -/

/-- A class 0 frame is delivered once and acknowledged each time (R494). -/
def State.expressIn (s : State) (f : Frame) (take : State → State) : State :=
  let s := if s.caravan.seen.contains (f.src, f.xid) then s
    else take (s.modCaravan fun v => { v with seen := v.seen ++ [(f.src, f.xid)] })
  s.sendAck f none 0#256

def State.modRx (s : State) (f : Frame) (g : RxFlow → RxFlow) : State :=
  s.modCaravan fun v => { v with rx := v.rx.map fun r => if r.job == f.job && r.src == f.src && r.cls == f.cls then g r else r }

/-- A frame of a flow is delivered in its order; a duplicate is dropped, and so is a frame after a gap, which the ACK names
(R493). A flow for which no state is free waits. The receiver acknowledges each 32nd frame and the last of a transfer. -/
def State.flowIn (s : State) (f : Frame) (take : State → State) : State :=
  let known := s.caravan.rx.find? fun r => r.job == f.job && r.src == f.src && r.cls == f.cls
  if known.isNone && decide (16384 ≤ s.caravan.tx.length + s.caravan.rx.length) then s else
  let s := if known.isSome then s else s.modCaravan fun v => { v with rx := v.rx ++ [(⟨f.job, f.src, f.cls, 0, 0⟩ : RxFlow)] }
  let r := known.getD ⟨f.job, f.src, f.cls, 0, 0⟩
  let next := (r.expect + 1) % 2 ^ 24
  if f.seq = r.expect then
    let ack := decide (32 ≤ r.since + 1) || f.part == f.npart
    let s := s.modRx f fun r => { r with expect := next, since := if ack then 0 else r.since + 1 }
    let s := take s
    if ack then s.sendAck f none (ackSub f.cls next false) else s
  else
    let behind := decide ((r.expect + 2 ^ 24 - f.seq) % 2 ^ 24 < 2 ^ 23)
    s.sendAck f none (ackSub f.cls r.expect (!behind))

/-- A frame arrives at a port, as a command of type `ty` says: it is for another module, or it passes the checks of R478, R482
and R483 and `take` delivers it to its context. -/
def State.frameIn (s : State) (p ty : Nat) (f : Frame) (take : State → Nat → State) : State :=
  if !s.ready || !s.portUp p || f.etype.toNat != s.regFld CARAVAN_ETHERTYPE 0 16 then s
  else if f.dst ≠ s.moduleId ∧ s.switched = false then (if s.frameGood f then s.forward f else s.discard)
  else if f.dmac ≠ macOf s.moduleId p then s
  else if f.type_ ≠ ty then (if typeClasses f.type_ = [] then s.discard else s)
  else if !s.frameGood f || f.dst != s.moduleId || !s.caravan.peers.any (fun e => e.module == f.src) then s.discard
  else match s.jobCtx f.job with
    | none => s.discard
    | some c => if f.cls = 0 then s.expressIn f fun s => take s c else s.flowIn f fun s => take s c

/-! HELLO and ACK. -/

/-- HELLO (R497): the sender is admitted, or the port or peer is refused. In switched topology a new peer is answered with this
module's own HELLO. -/
def execHello (port : Fin 16) (frame : Frame) (s : State) : Out :=
  let p := port.val
  let st := s.portState p
  let open_ := st == 2 || st == 4 || (st == 1 && s.regFld (CARAVAN_PORT_STATUS p) 4 4 != 0)
  if !s.ready || !open_ || frame.etype.toNat != s.regFld CARAVAN_ETHERTYPE 0 16 then .next s
  else if s.switched ∧ frame.dmac ≠ macOf s.moduleId p then .next s
  else if frame.type_ ≠ 1 then .next (if typeClasses frame.type_ = [] then s.discard else s)
  else if !s.frameGood frame || (s.switched && frame.dst != s.moduleId) then .next s.discard
  else
    let m := fld frame.sub 16 17
    let new := !s.caravan.peers.any fun e => e.module == m
    let s := if s.caravan.seen.contains (frame.src, frame.xid) then s
      else (s.modCaravan fun v => { v with seen := v.seen ++ [(frame.src, frame.xid)] }).admitPeer p frame.sub
    let good := s.caravan.peers.any fun e => e.module == m
    let s := if good then s.sendAck frame (some p) 0#256 else s
    .next (if s.switched ∧ new = true ∧ good = true then s.sendHello p (some m) else s)

/-- HELLO_RESEND (R497): once a second a port, or in switched topology a peer, that is not admitted is sent HELLO and nothing
else. -/
def execHelloResend (port : Fin 16) (s : State) : Out :=
  let p := port.val
  if s.portState p = 4 then .next (s.sendHello p none)
  else if s.switched ∧ s.portUp p = true then .next (s.caravan.refused.foldl (fun s m => s.sendHello p (some m)) s)
  else .next s

/-- CARAVAN_RETRY_COUNT in effect. -/
def State.retryCount (s : State) : Nat := clampNat 1 15 (s.eff CARAVAN_RETRY_COUNT).toNat

/-- The unacknowledged frames of a flow leave again (R493, R495). -/
def State.resendFlow (s : State) (x : TxFlow) : State :=
  let s := x.unacked.foldl (fun s f =>
    let p := if f.type_ = 0x10 then s.tallyPort (fld f.hdr 49 4) else x.port
    (if p < 16 then s.bump (CARAVAN_PORT_RESENDS p) 1 else s).launchFlow x f) s
  s.modTx x.job x.dst x.cls fun y => { y with tries := y.tries + 1 }

/-- An acknowledgement of a flow: the frames before the SEQ that it names are done; a missing one is sent again, with those after
it (R493). -/
def State.flowAck (s : State) (job m cls next : Nat) (gap : Bool) : State :=
  match s.txFlow job m cls with
  | none => s
  | some x => match x.unacked with
    | [] => s
    | f :: _ =>
      let done := (next + 2 ^ 24 - f.seq) % 2 ^ 24
      if x.unacked.length < done then s else
      -- a resend has brought the frame through: the fault was transient (R397, R398)
      let s := if done ≠ 0 ∧ x.tries ≠ 0 then s.transient else s
      let s := s.modTx job m cls fun y => { y with unacked := y.unacked.drop done, tries := if done = 0 then y.tries else 0 }
      let s := match s.txFlow job m cls with
        | some y => if gap && !y.unacked.isEmpty && decide (y.tries < s.retryCount) then s.resendFlow y else s
        | none => s
      s.pumpFlow job m cls

/-- ACK (R493, R494): of a class 0 frame by its transfer identifier, or of a flow. -/
def execAck (port : Fin 16) (frame : Frame) (s : State) : Out :=
  let p := port.val
  let f := frame
  if !s.ready || !(s.portState p == 1 || s.portUp p) || f.etype.toNat != s.regFld CARAVAN_ETHERTYPE 0 16 then .next s
  else if f.dst ≠ s.moduleId ∧ s.switched = false then .next (if s.frameGood f then s.forward f else s.discard)
  else if f.dmac ≠ macOf s.moduleId p then .next s
  else if f.type_ ≠ 2 then .next (if typeClasses f.type_ = [] then s.discard else s)
  else
    let mine (e : Express) : Bool := e.xid == f.xid && (fld e.frame.hdr 64 17 == f.src || e.frame.type_ == 1)
    let hello := s.caravan.express.any fun e => mine e && e.frame.type_ == 1
    if !s.frameGood f || f.dst != s.moduleId ||
        (!hello && (!s.caravan.peers.any (fun e => e.module == f.src) || (s.jobCtx f.job).isNone)) then .next s.discard
    else if bitAt f.sub 0 then .next (s.flowAck f.job f.src (fld f.sub 4 2) (fld f.sub 8 24) (bitAt f.sub 32))
    else
      let s := if s.caravan.express.any fun e => mine e && e.tries != 0 then s.transient else s
      .next (s.modCaravan fun v => { v with express := v.express.filter fun e => !mine e })

/-! Transfers (R480). -/

/-- A frame of a transfer arrives; the frames of the whole transfer, in order, once every PART is here. -/
def State.collect (s : State) (f : Frame) : State × Option (List Frame) :=
  let same (q : Partial) : Bool := q.src == f.src && q.xid == f.xid && q.type_ == f.type_
  let old := match s.caravan.partials.find? same with
    | some q => q.parts
    | none => []
  let parts := (old.filter fun e => e.1 != f.part) ++ [(f.part, f)]
  let rest := s.caravan.partials.filter fun q => !same q
  if (List.range (f.npart + 1)).all fun i => parts.any fun e => e.1 == i then
    (s.modCaravan fun v => { v with partials := rest },
      some ((List.range (f.npart + 1)).filterMap fun i => (parts.find? fun e => e.1 == i).map (·.2)))
  else (s.modCaravan fun v => { v with partials := rest ++ [(⟨f.src, f.xid, f.type_, parts⟩ : Partial)] }, none)

/-- The data of a transfer. -/
def dataOf (fs : List Frame) : List Byte := fs.flatMap (·.data)

/-! Class 0 frames of a job. -/

/-- VERDICT (R344, R345): it belongs to the step in progress, or to the next one. -/
def execVerdict (port : Fin 16) (frame : Frame) (s : State) : Out :=
  .next (s.frameIn port 0x03 frame fun s c =>
    let mb := fld frame.sub 0 16
    let clean := bitAt frame.sub 16
    let tag := fld frame.sub 24 8
    if tag = s.tag c then s.noteVerdict c frame.src mb clean
    else if s.inStep c ∧ tag = (s.tag c + 1) % 256 then s.modCtx c fun x => { x with early := x.early ++ [(mb, frame.src, clean)] }
    else s)

/-- BEACON (R364, R365). -/
def execBeacon (port : Fin 16) (frame : Frame) (s : State) : Out :=
  .next (s.frameIn port 0x04 frame fun s c => s.takeBeacon c frame.sub)

/-- NORM (R359). -/
def execNorm (port : Fin 16) (frame : Frame) (s : State) : Out :=
  .next (s.frameIn port 0x05 frame fun s c => s.noteNorm c frame.src (fld frame.sub 0 32) (w32 (fld frame.sub 32 32)))

/-- A notice of a code: `take` gets its module and micro-batch. -/
def State.noticeIn (s : State) (p code : Nat) (f : Frame) (take : State → Nat → Nat → Nat → State) : State :=
  if fld f.sub 0 8 = code ∨ f.type_ ≠ 0x06 then
    s.frameIn p 0x06 f fun s c => take s c (fld f.sub 32 17) (fld f.sub 64 16)
  else s

/-- JOIN (R499): the module joins the commit set at the next step boundary. -/
def execJoin (port : Fin 16) (frame : Frame) (s : State) : Out :=
  .next (s.noticeIn port 2 frame fun s c m _ => s.modCtx c fun x => { x with joining := insertNew m x.joining })

/-- COMMIT_REMOVED (R499): the module leaves the commit set at the next step boundary. -/
def execCommitRemoved (port : Fin 16) (frame : Frame) (s : State) : Out :=
  .next (s.noticeIn port 1 frame fun s c m _ => s.modCtx c fun x => { x with leaving := insertNew m x.leaving })

/-- WITHHOLD (R347): the micro-batches that the failed sum contained are withheld: the one that the notice names, else every
clean one of the step. -/
def execWithhold (port : Fin 16) (frame : Frame) (s : State) : Out :=
  .next (s.noticeIn port 3 frame fun s c _ mb =>
    match (s.ctx c).step with
    | none => s
    | some st =>
      ((List.range st.prog.tokens.length).filter fun b => mb == 0xFFFF || b == mb).foldl (fun s b => s.withhold c b 0x3F) s)

/-! Sums (R337, R340, R480). -/

/-- A transfer of type SUM: a sealed tile on its way down (its frames name no micro-batch and end with the sealed word), or a sum
for a tally unit. -/
def State.sumIn (s : State) (c : Nat) (fs : List Frame) : State :=
  match fs with
  | [] => s
  | f :: _ =>
    let n := fs.length
    let bs := dataOf fs
    let h := f.sub
    if n = 3 ∨ n = 5 then
      let w := if n = 3 then 2 else 4
      let word : W256 := BitVec.ofNat 256 (leNat (bs.drop (4096 * w)))
      if bs.length = 4096 * w + 32 ∧ s.inStep c = true ∧ recGood word.toNat = true ∧ swTAG word = s.tag c then
        s.takeSealed c (shTILE h) ⟨word, (chunks w 4096 (bs.take (4096 * w))).map fun b => sext (8 * w) (leNat b)⟩
      else s
    else
      let w := if shWIDE h then 8 else 4
      let elems := if shNULL h || bs.isEmpty then [] else (chunks w 4096 bs).map fun b => sext (8 * w) (leNat b)
      s.modCtx c fun x => { x with delivered := x.delivered ++ [(⟨f.src, ⟨h, elems⟩⟩ : Delivered)] }

/-- SUM (R341, R480), and the request to send one again (R347). -/
def execSum (port : Fin 16) (frame : Frame) (s : State) : Out :=
  if frame.type_ = 0x11 then
    .next (s.frameIn port 0x11 frame fun s c => s.resendSum c (fld frame.sub 0 32) (fld frame.sub 32 16))
  else .next (s.frameIn port 0x10 frame fun s c =>
    match s.collect frame with
    | (s, some fs) => s.sumIn c fs
    | (s, none) => s)

/-! Bulk frames. -/

/-- HANDOFF (R380, R481): a piece from the channel's peer lands; any other is not expected. -/
def execHandoff (port : Fin 16) (frame : Frame) (s : State) : Out :=
  .next (s.frameIn port 0x20 frame fun s c =>
    let h := frame.sub
    let ch := fld h 0 8
    let peer := (s.ctx c).step.any fun st => (st.prog.chans.getD ch default).peer == frame.src
    if peer && frame.data.length == 4096 then
      s.landPiece c ch (fld h 8 24) (fld h 32 16) (fld h 48 4) (fld h 64 16) (fld h 80 2) (fld h 88 8) (bitAt h 96) frame.data
    else s.orReg (CTX_PIPE_FLAGS c) 2)

/-- The subheader of a DATA frame, chosen: the content tag in [7:0], refusal in [8], the number asked for in [63:32]
(assumption 16). -/
def dataSub (tag n : Nat) (refused : Bool) : W256 := BitVec.ofNat 256 (tag + bitN refused 8 + (n <<< 32))

/-- A refusal of a request. -/
def State.refuse (s : State) (c : Nat) (f : Frame) (n : Nat) : State :=
  s.sendFrames c f.src f.cls 0x23 none [(dataSub (s.tag c) n true, [])] (some f.xid)

/-- PUT (R391, R420): a piece of a crate of this context, which is mapped in the stockroom, or of a secured image that this
module keeps. -/
def execPut (port : Fin 16) (frame : Frame) (s : State) : Out :=
  .next (s.frameIn port 0x21 frame fun s c =>
    let h := frame.sub
    if bitAt h 48 then
      let size := fld h 128 64
      if s.keepRoom frame.src size then s.keepPiece frame.src size (bitAt h 49) (fld h 64 64) frame.data else s.refuse c frame 0
    else
      let n := fld h 0 32
      let off := fld h 32 16
      if 65536 < off + frame.data.length then s.refuse c frame n else
      let (s, code) := s.writeCrate c n off frame.data 2 0 0 false false
      if code = 0 then s else s.refuse c frame n)

/-- A reply in transfers of at most sixteen frames. -/
def State.sendData (s : State) (c : Nat) (f : Frame) (n : Nat) (parts : List (List Byte)) : State :=
  (chunks 16 (parts.length / 16 + 1) parts).foldl (fun s ps =>
    s.sendParts c f.src f.cls 0x23 none (dataSub (s.tag c) n false) ps (some f.xid)) s

/-- What this module answers to a FETCH: 0 a crate (R328), 1 a sealed tile, 2 a ledger tile (R366, R368, R393), 3 a secured image
that it keeps (R459), 4 a piece of a crate (R413), 5 a ledger tile for a rebuild, with its directory record and its scale entry
(R425), 6 a weight-gradient entry (R185). It refuses what it cannot read whole. -/
def State.answerFetch (s : State) (c : Nat) (f : Frame) : State :=
  let n := fld f.sub 32 32
  let cut (bs : List Byte) : List (List Byte) := chunks 4096 (bs.length / 4096 + 1) bs
  match fld f.sub 0 8 with
  | 0 =>
    if (s.ctx c).step.any fun st => st.repairs.any fun r => r.crate == n then s.refuse c f n else
    let (bs, code, s) := s.readCrate c n 0 65536
    if code = 0 then s.sendData c f n (pieces bs) else (s.noteEnd c code).refuse c f n
  | 1 => match (s.ctx c).sealedTile n with
    | some q => s.sendData c f n (sealedParts (s.gmode c) q)
    | none => s.refuse c f n
  | 2 =>
    if s.tiles c ≤ n ∨ s.tileLost c n = true then s.refuse c f n else
    let d := s.dir c n
    s.sendData c f n (cut (s.tensorRead c (d.addr n) (tileSize d.wide)))
  | 3 => match s.keptImage f.src n with
    | some bs => s.sendData c f n (cut bs)
    | none => s.refuse c f n
  | 4 =>
    let piece := fld f.sub 64 4
    let (bs, code, s) := s.readCrate c n (4096 * piece) 4096
    if code = 0 then s.sendData c f n [bs] else (s.noteEnd c code).refuse c f n
  | 5 =>
    if s.tiles c ≤ n ∨ s.tileLost c n = true then s.refuse c f n else
    let d := s.dir c n
    let e := ((s.weightEntry c n).bind fun i => (s.ctx c).scaleEntry i).map (·.1)
    s.sendData c f n (cut (s.tensorRead c (s.dirAddr c n) 32 ++ s.tensorRead c (d.addr n) (tileSize d.wide)
      ++ leBytes 32 (e.getD 0#256).toNat))
  | 6 => match (s.ctx c).scaleEntry n with
    | some (e, _) => if fld e 144 4 = 2 then s.sendData c f n [leBytes 32 e.toNat] else s.refuse c f n
    | none => s.refuse c f n
  | _ => s.refuse c f n

/-- FETCH (R328, R366, R413, R425). -/
def execFetch (port : Fin 16) (frame : Frame) (s : State) : Out :=
  .next (s.frameIn port 0x22 frame fun s c => s.answerFetch c frame)

/-- A peer's answer to what this module has fetched. -/
def State.fetched (s : State) (q : FetchOut) (a : PeerAnswer) : State :=
  let s := s.modCaravan fun v => { v with fetches := v.fetches.filter fun e => e.xid != q.xid }
  match q.for_ with
  | .repair crate => s.peerAnswers q.ctx crate a
  | .secureTile t => s.secureAnswer q.ctx t (match a with | .data _ bs => some bs | .refuses => none | .silent => none)
  | .scale i => match a with
    | .data _ bs => if bs.length = 32 then s.takeScale q.ctx i (BitVec.ofNat 256 (leNat bs)) else s
    | .refuses => s
    | .silent => s
  | .sealedTile _ | .ledgerTile _ | .piece _ | .swatchTile _ => s

/-- The destination of a securing, or of a swatch, refuses what this module puts there (R394, R420, R422). -/
def State.putRefused (s : State) (c m reason : Nat) : State :=
  if (s.ctx c).secure.any fun q => q.dest == 1 && q.peer == m then s.secureFails c reason
  else if (s.ctx c).swatch.any fun w => spDEST w.plan == 1 && fld w.plan 128 17 == m then s.endSwatch c 2 0 0x22
  else s

/-- DATA (R479): the reply to a FETCH once it is whole, or a refusal. -/
def execData (port : Fin 16) (frame : Frame) (s : State) : Out :=
  .next (s.frameIn port 0x23 frame fun s c =>
    match s.collect frame with
    | (s, none) => s
    | (s, some fs) =>
      match s.caravan.fetches.find? fun e => e.xid == frame.xid with
      | some q =>
        s.fetched q (if bitAt frame.sub 8 then .refuses else .data (BitVec.ofNat 8 (fld frame.sub 0 8)) (dataOf fs))
      | none => if bitAt frame.sub 8 then s.putRefused c frame.src 4 else s)

/-! Retry (R494, R495). -/

/-- A transfer ends after its last resend, a lasting fault (R398, R495). What its receiver makes of it is the receiver's. -/
def State.sendEnds (s : State) (f : Frame) : State :=
  let s := s.lasting.orReg CARAVAN_FLAGS 8
  match f.type_ with
  | 0x22 => match s.caravan.fetches.find? fun e => e.xid == f.xid with
    | some q => s.fetched q .silent
    | none => s
  | 0x21 => match s.jobCtx f.job with
    | some c => s.putRefused c f.dst 1
    | none => s
  | _ => s

/-- The frames after an ended transfer take up the flow's numbers from its first unacknowledged frame on. -/
def renumber : Nat → List Frame → List Frame
  | _, [] => []
  | n, f :: fs => frameOnPort { f with hdr := setFld f.hdr 96 24 n } (fld f.hdr 49 4) :: renumber ((n + 1) % 2 ^ 24) fs

/-- The time passes for a class 0 frame: it leaves again, on another UP port when one exists; HELLO belongs to its port. -/
def State.expressTime (s : State) (e : Express) : State :=
  if s.retryCount ≤ e.tries then
    (s.modCaravan fun v => { v with express := v.express.filter fun x => x.xid != e.xid }).sendEnds e.frame
  else
    let p := if e.frame.type_ = 1 then e.port
      else ((s.allowed e.frame.dst).find? (· ≠ e.port)).getD e.port
    let f := frameOnPort e.frame p
    let s := (s.modCaravan fun v => { v with
      express := v.express.map fun x => if x.xid = e.xid then { x with port := p, frame := f, tries := x.tries + 1 } else x }).bump
      (CARAVAN_PORT_RESENDS p) 1
    if e.frame.type_ = 1 then (if s.portState p = 0 ∨ s.portState p = 3 then s else s.emit (.frame p f)) else s.launch (some p) f

/-- The time passes for the first unacknowledged frame of a flow. -/
def State.flowTime (s : State) (x : TxFlow) (f : Frame) : State :=
  if x.tries < s.retryCount then s.resendFlow x else
  let rest := (x.unacked ++ x.waiting).filter fun g => g.xid != f.xid
  let s := s.modTx x.job x.dst x.cls fun y => { y with
    unacked := [], waiting := renumber f.seq rest, next := (f.seq + rest.length) % 2 ^ 24, tries := 0 }
  (s.sendEnds f).pumpFlow x.job x.dst x.cls

/-- CARAVAN_RETRY_TIME (R494, R495): no acknowledgement has come for the frame with this transfer identifier. -/
def execCaravanRetryTime (xid : W32) (s : State) : Out :=
  match s.caravan.express.find? fun e => e.xid == xid.toNat with
  | some e => .next (s.expressTime e)
  | none =>
    match s.caravan.tx.findSome? fun x => match x.unacked with
      | f :: _ => if f.xid = xid.toNat then some (x, f) else none
      | [] => none with
    | some (x, f) => .next (s.flowTime x f)
    | none => .next s

/-- FLOW_IDLE_RELEASE (R493): an idle flow's state is released, and a flow that has waited for one goes on. -/
def execFlowIdleRelease (job : BitVec 16) (src dst : Fin 131072) (cls : BitVec 2) (s : State) : Out :=
  let s := s.modCaravan fun v => { v with
    tx := v.tx.filter fun x => !(src.val == s.moduleId && x.job == job.toNat && x.dst == dst.val && x.cls == cls.toNat
      && x.unacked.isEmpty && x.waiting.isEmpty)
    rx := v.rx.filter fun x => !(dst.val == s.moduleId && x.job == job.toNat && x.src == src.val && x.cls == cls.toNat) }
  .next (s.caravan.tx.foldl (fun s x => if x.waiting.isEmpty then s else s.pumpFlow x.job x.dst x.cls) s)

end Sys2Proof.Machine
end

