-- ==== Sys2Proof/Machine/Power.lean ====
section
/-! DEFINITION. Power, clocks and cooling (R504 to R529, R603 to R605, R624): the input states, region stages and regulator
phases, ramps, clock steps, the power cap, temperatures and coolant, and the reference oscillators. -/

namespace Sys2Proof.Machine

/-! Pins. -/

/-- MOD_FAULT# is driven low (R604). -/
def State.modFault (s : State) : Bool := s.power.offForce || s.power.failed || s.bringup == 5
/-- SMBALERT# is asserted (R611). -/
def State.smbAlert (s : State) : Bool := s.modFault || decide (max 1 (s.effFld HEALTH_CONTROL 0 3) ≤ s.regFld HEALTH_RISK 0 3)

/-! Input states (R506): 0 UNPOWERED, 1 AUX, 2 PRECHARGE, 3 CONVERTER_ON. -/

def State.input (s : State) : Nat := s.regFld POWER_STATUS 0 3
def State.setInput (s : State) (n : Nat) : State := s.setRegFld POWER_STATUS 0 3 n
def State.ilk (s : State) : Bool := s.regBit POWER_STATUS 3
def State.setVin (s : State) (v : Nat) : State := (s.modPower fun p => { p with vin := v }).setRegFld POWER_INPUT 16 14 v

/-- The loss or the start of the auxiliary supply (R506, R588): every register and every memory of the module is as after
power-on. What outlasts it is in awning flash and one-time-programmable memory, or lies outside the module. -/
def State.powerCycle (s : State) (input : Nat) : State :=
  let x : State := { State.reset with
    variant := s.variant, stepping := s.stepping, serial := s.serial, host0 := s.host0, host1 := s.host1, dies := s.dies
    caravan := s.caravan.afterReset, fresh := s.fresh, out := s.out, pending := s.pending
    boot := { Boot.reset with
      invA := s.boot.invA, invB := s.boot.invB, revoked := s.boot.revoked, cold := s.boot.cold, owner := s.boot.owner
      fw := s.boot.fw.map fun e => (e.1, { e.2 with running := none }) }
    power := { Power.reset with vin := s.power.vin, oscA := s.power.oscA, oscB := s.power.oscB } }
  let x := x.setReg MOD_LIFECYCLE (s.reg MOD_LIFECYCLE)
  let x := ((x.setInput input).setRegFld POWER_STATUS 3 2 (s.regFld POWER_STATUS 3 2)).setRegFld POWER_STATUS 5 1 (bitN (!s.power.oscA) 0)
  (List.range 16).foldl (fun x p =>
    if (spGet (fun _ => none) x.caravan.osfp p).isSome then x.setRegFld (CARAVAN_PORT_STATUS p) 16 1 1 else x) x

/-- Pre-charge begins in AUX with the loop closed and VIN in range (R506). -/
def State.tryPrecharge (s : State) : State :=
  if s.input = 1 ∧ s.ilk ∧ ¬ s.power.preFail ∧ 7000 ≤ s.power.vin ∧ s.power.vin ≤ 8800 then s.setInput 2 else s

/-- The converter stops (R506, R507): the regions lose every domain, the host ports and the stockroom their supply; the
steward logs the cause. -/
def State.converterStop (s : State) (cause : Nat) : State :=
  let abandoned := s.bringingUp
  let resetting := s.boot.inReset
  let s := ({ s with ctxs := [] }).wipeOut
  let s := (List.range 64).foldl (fun s r =>
    ((s.setPower r 3).setRegFld (REGION_POWER r) 16 2 0).modRegion r fun x => { x with proven := false }) s
  let s := s.modPower fun p => { p with ramps := [], rampQ := [], samples := [], stepWait := 0, below := 0, above := 0 }
  let s := ((s.setRegFld POWER_STATUS 13 2 0).setInput 1).setRegFld MOD_STATUS 3 2 0
  let s := if abandoned then s.setRegFld MOD_BRINGUP_STATUS 0 3 6 else s
  let s := if resetting then s.setRegFld MOD_STATUS 0 3 0 else s
  let s := { s with foreman := { Foreman.reset with turn := s.foreman.turn } }
  (s.modBoot fun b => { b with inReset := false, busy := false }).emit (.log cause)

/-- VIN_UP (R506): the auxiliary supply starts at 400 V; VIN coming into range starts a pre-charge. -/
def execVinUp (vin : BitVec 14) (s : State) : Out :=
  let s := s.setVin vin.toNat
  if vin.toNat < 4000 then .next s else
  .next (if s.input = 0 then (s.powerCycle 1).setVin vin.toNat else s).tryPrecharge

/-- VIN_LOST (R506): VIN is below 400 V. -/
def execVinLost (s : State) : Out := .next (if s.input = 0 then s else (s.setVin 0).powerCycle 0)

/-- ILK_CLOSE (R506). -/
def execIlkClose (s : State) : Out := .next (s.setRegFld POWER_STATUS 3 1 1).tryPrecharge

/-- ILK_OPEN (R506): the converter stops, or the pre-charge ends with no PRECHARGE_FAIL. -/
def execIlkOpen (s : State) : Out :=
  let s := (s.setRegFld POWER_STATUS 3 1 0).modPower fun p => { p with preFail := false }
  .next (if s.input = 3 then s.converterStop 0x10 else if s.input = 2 then s.setInput 1 else s)

/-- PRECHARGE_COMPLETE (R506, R507, R526): the converter runs, and a bring-up begins unless the module is switched off.
Coolant that has been out of limits for 1 s acts on entry. -/
def execPrechargeComplete (s : State) : Out :=
  if s.input ≠ 2 then .next s else
  let s := (s.setInput 3).modPower fun p => { p with samples := [], stepWait := 0, below := 0, above := 0 }
  let s := if s.boot.off then s else s.restart
  .next (if 1000 ≤ s.power.coolBad then s.stewardOff else s)

/-- PRECHARGE_FAIL (R506). -/
def execPrechargeFail (s : State) : Out :=
  if s.input ≠ 2 then .next s else
  .next (((s.setInput 1).orReg POWER_FLAGS 0x20).modPower fun p => { p with preFail := true })

/-- VIN_HARD_LIMIT (R506): VIN below 600 V or above 900 V. -/
def execVinHardLimit (vin : BitVec 14) (s : State) : Out :=
  let s := s.setVin vin.toNat
  .next (if s.input = 3 ∧ (vin.toNat < 6000 ∨ 9000 < vin.toNat) then s.converterStop 0x11 else s)

/-- INPUT_RANGE (R506): VIN out of 700 to 880 V for 1 ms, or the input current at 46 A for 10 ms. -/
def execInputRange (_why : InputFault) (s : State) : Out :=
  .next (if s.input = 3 then (s.orReg POWER_FLAGS 0x10).stewardOff else s)

/-- COOL_READY_LOST (R506, R605): deasserted for 100 µs; outside CONVERTER_ON it has no effect but on the pin's bit. -/
def execCoolReadyLost (s : State) : Out :=
  let s := s.setRegFld POWER_STATUS 4 1 0
  .next (if s.input = 3 then s.stewardOff else s)

/-- COOL_READY_RESTORED (R506, R508): a POWER_OFF in force stays in force. -/
def execCoolReadyRestored (s : State) : Out := .next (s.setRegFld POWER_STATUS 4 1 1)

/-! Region stages and phases (R509 to R512). -/

/-- A region that is lost for its power, or that is dark already, goes to RETAIN or OFF without a ramp (R514, R515). -/
def State.dropRegion (s : State) (r : Nat) (cause : DarkCause) (off : Bool) : State :=
  let s := (s.modRegion r fun x => { x with retest := true }).modBoot fun b => { b with invDue := true }
  if s.isDark r then s.sleepRegion r off else s.goDark r cause

/-- FUSE_TRIP (R509): the stage's fuse opens, above 600 A or after 100 µs above 380 A. -/
def execFuseTrip (region : Fin 64) (_cause : FuseCause) (s : State) : Out :=
  let r := region.val
  if s.powerOf r = 3 ∨ s.input ≠ 3 then .next s else
  let s := ((s.setRegFld (REGION_POWER r) 19 1 1).orReg (REGION_POWER_FLAGS r) 0x10).orReg POWER_FLAGS 0x200
  .next (s.dropRegion r .power true)

/-- The CAPPED bits of a region: the groups with two disabled phases (R511, R512). -/
def State.showCaps (s : State) (r : Nat) : State :=
  s.setRegFld (REGION_POWER r) 8 8 (maskOf ((List.range 8).filter fun g => decide (2 ≤ s.groupFailed r g)))

/-- A phase is disabled (R511): a lasting fault. -/
def State.disablePhase (s : State) (r k : Nat) : State :=
  let s := (s.orReg (if k < 32 then REGION_PHASE_LO r else REGION_PHASE_HI r) (2 ^ (k % 32))).lasting
  let s := (s.orReg (REGION_POWER_FLAGS r) 1).orReg POWER_FLAGS 0x400
  let s := (s.modRegion r fun x => { x with retest := true }).modBoot fun b => { b with invDue := true }
  if s.groupFailed r (k / 8) = 2 then (s.showCaps r).orReg (REGION_POWER_FLAGS r) 2 else s

/-- The phases of a region that are disabled, bit k for phase k. -/
def State.phasesOff (s : State) (r : Nat) : W64 := (s.reg (REGION_PHASE_HI r)) ++ (s.reg (REGION_PHASE_LO r))

/-- PHASE_FAIL (R511): overcurrent, loss of regulation or a failed switching check. A group's third takes the region to
RETAIN and dark. -/
def execPhaseFail (region phase : Fin 64) (_why : PhaseFault) (s : State) : Out :=
  let r := region.val
  if 2 ≤ s.powerOf r ∨ s.input ≠ 3 ∨ bitAt (s.phasesOff r) phase.val = true then .next s else
  let s := s.disablePhase r phase.val
  .next (if 3 ≤ s.groupFailed r (phase.val / 8) then s.dropRegion r .power false else s)

/-! Ramps (R515 to R517, R624). -/

/-- A neighbour of the region draws more than 425 A on VLOG. -/
def State.loadedBeside (s : State) (r : Nat) : Bool :=
  (neighbours r).any fun x => decide (425 < s.regFld (REGION_CURRENT x) 0 10)

/-- The power manager's check of one waiting ramp (R517); a ramp down is never deferred (R624). -/
def State.checkRamp (s : State) (q : RampWait) : State × RampWait :=
  if !q.up || q.late then (s, q) else
  let busy := s.loadedBeside q.region
  if busy && !q.deferred then
    (((s.bump POWER_RAMP_DEFERS 1).orReg POWER_FLAGS 0x800).orReg (REGION_POWER_FLAGS q.region) 0x20, { q with deferred := true })
  else (s, { q with deferred := busy })

/-- The check of every waiting ramp. -/
def State.checkRamps (s : State) : State :=
  let x : State × List RampWait := s.power.rampQ.foldl (fun (x : State × List RampWait) q =>
    let (s, q) := x.1.checkRamp q
    (s, x.2 ++ [q])) (s, [])
  (x.1.modPower fun p => { p with rampQ := x.2 }).showRamps

/-- The ramp is one that R514 calls for: up for an assigned region in RETAIN, down for an unassigned one in DOZE that hosts
no foreman. -/
def State.rampWanted (s : State) (r : Nat) (up : Bool) : Bool :=
  let x := s.region r
  !s.isDark r && (if up then x.owner.isSome && s.powerOf r == 2 else x.owner.isNone && s.powerOf r == 1 && !s.hostsForeman r)

/-- RAMP_REQUEST (R516). -/
def execRampRequest (region : Fin 64) (up : Bool) (s : State) : Out :=
  .next (if s.rampWanted region.val up then (s.askRamp region.val up).checkRamps else s)

/-- RAMP_GRANT (R516, R517): the first waiting ramp that is not deferred, or has been for 10 ms, takes a free slot. Requests
that R514 no longer calls for are dropped. -/
def execRampGrant (s : State) : Out :=
  let s := s.modPower fun p => { p with rampQ := p.rampQ.filter fun q => s.rampWanted q.region q.up }
  let s := s.checkRamps
  if 2 ≤ s.power.ramps.length then .next s else
  match s.power.rampQ.find? fun q => !q.deferred || q.late with
  | none => .next s
  | some q => .next (s.modPower fun p => { p with
      ramps := p.ramps ++ [(q.region, q.up)], rampQ := p.rampQ.filter fun x => x.region != q.region }).showRamps

/-- RAMP_DEFER_TIMEOUT (R517). -/
def execRampDeferTimeout (region : Fin 64) (s : State) : Out :=
  .next (s.modPower fun p => { p with
    rampQ := p.rampQ.map fun q => if q.region = region.val ∧ q.deferred then { q with late := true } else q })

/-- RAMP_COMPLETE (R517, R624): the region is in DOZE, or in RETAIN. When it has been released or assigned meanwhile, the
ramp back is requested. -/
def execRampComplete (region : Fin 64) (s : State) : Out :=
  let r := region.val
  match s.power.ramps.find? fun e => e.1 == r with
  | none => .next s
  | some (_, up) =>
    let s := s.modPower fun p => { p with ramps := p.ramps.filter fun e => e.1 != r }
    let s := if up then s.setPower r 1 else s.sleepRegion r false
    .next (if s.rampWanted r (!up) then s.askRamp r (!up) else s).showRamps

/-! Clock steps and the cap (R520 to R522). -/

/-- CLOCK_STEP_CHANGE (R520, R521): the region's step becomes the smallest of its three values. -/
def execClockStepChange (region : Fin 64) (s : State) : Out :=
  let r := region.val
  .next (if s.powerOf r ≤ 1 && !s.vlogHeld r then s.setRegFld (REGION_POWER r) 2 5 (s.stepOf r) else s)

def State.ceiling (s : State) : Nat := s.regFld POWER_STATUS 6 5

/-- The ceiling falls by `n`, to 4 at least. -/
def State.lowerCeiling (s : State) (n flag limit : Nat) : State :=
  (((s.setRegFld POWER_STATUS 6 5 (max 4 (s.ceiling - n))).setRegFld POWER_STATUS 11 2 limit).bump POWER_CAP_STEPS 1).orReg
    POWER_FLAGS flag

/-- How long a condition on the 1 ms average has held, in samples: the first average that meets it covers ten. The count is
kept one higher than the samples, so that 0 says that the condition does not hold. -/
def runLength (n : Nat) (holds : Bool) : Nat := if !holds then 0 else if n = 0 then 11 else n + 1

/-- The rules of R522, at a sample. -/
def State.capRules (s : State) (watts : Nat) : State :=
  let e := s.effCap
  let n := s.power.samples.length
  let sum := (s.power.samples.take 10).foldl (· + ·) 0
  let above := decide (10 ≤ n) && decide (10 * e < sum)
  let s := s.modPower fun p => { p with stepWait := p.stepWait - 1 }
  let s := if 11 * e < 10 * watts ∧ 4 < s.ceiling then s.lowerCeiling 4 2 2 else s
  let s := if above ∧ s.power.stepWait = 0 ∧ 4 < s.ceiling then
      (s.lowerCeiling 1 1 1).modPower fun p => { p with stepWait := 10 } else s
  let low := runLength s.power.below (decide (10 ≤ n) && decide (1000 * sum < 9700 * e))
  let high := min 1002 (runLength s.power.above (above && s.ceiling == 4))
  let s := s.modPower fun p => { p with below := if 101 ≤ low then 1 else low, above := high }
  let s := if high = 1001 then (s.orReg POWER_FLAGS 4).setRegFld POWER_STATUS 11 2 3 else s
  let s := if 101 ≤ low ∧ s.ceiling < 16 then s.setRegFld POWER_STATUS 6 5 (s.ceiling + 1) else s
  if s.ceiling = 16 then s.setRegFld POWER_STATUS 11 2 0 else s

/-- POWER_SAMPLE (R522): each 100 µs in CONVERTER_ON. -/
def execPowerSample (watts : Nat) (vin : BitVec 14) (s : State) : Out :=
  if s.input ≠ 3 then .next s else
  let s := (s.modPower fun p => { p with samples := (watts :: p.samples).take 1000 }).setVin vin.toNat
  let last := s.power.samples.take 10
  let s := s.setRegFld POWER_INPUT 0 16 (min 65535 (last.foldl (· + ·) 0 / last.length))
  .next (s.capRules watts)

/-! Temperatures (R273, R523, R524). -/

/-- The refresh window of a layer, in ms, from the one before: it changes upward at a boundary and downward 2 °C below it. -/
def refreshWindow (old t : Nat) : Nat :=
  if 85 < t then 32
  else if old = 32 ∧ 83 < t then 32
  else if 70 ≤ t then 48
  else if old ≤ 48 ∧ 68 < t then 48
  else 64

/-- The throttle of a region's thermal ceiling: −1 at each sample with a sensor at its throttle, +1 after ten with all below
the release. -/
def State.throttle (s : State) (r : Nat) (hot cool : Bool) : State :=
  let s := if hot then
      ((s.modRegion r fun x => { x with thermal := max 4 (x.thermal - 1), cool := 0 }).orReg POWER_FLAGS 0x80).orReg (REGION_POWER_FLAGS r) 4
    else s.modRegion r fun x =>
      if !cool then { x with cool := 0 }
      else if 9 ≤ x.cool then { x with cool := 0, thermal := min 16 (x.thermal + 1) }
      else { x with cool := x.cool + 1 }
  s.setRegFld (REGION_POWER r) 18 1 (bitN (decide ((s.region r).thermal < 16)) 0)

/-- One region's reading. -/
def State.regionTemp (s : State) (r : Nat) (t : Reading) : State :=
  if s.powerOf r = 3 then s else
  let hottest := t.cellar.foldl max 0
  let layer := t.cellar.findIdx fun x => x == hottest
  let s := s.setReg (REGION_TEMP r) (w32 (min 255 t.logic + (min 255 hottest <<< 8) + ((layer % 8) <<< 16)))
  let s := s.modRegion r fun x => { x with
    refresh := x.refresh.zipIdx.map fun e => match t.cellar[e.2]? with
      | some c => refreshWindow e.1 c
      | none => e.1 }
  let j := max t.logic hottest
  if 110 ≤ j ∨ 125 ≤ t.stage then
    ((s.orReg POWER_FLAGS 0x100).orReg (REGION_POWER_FLAGS r) 8).dropRegion r .thermal true
  else s.throttle r (decide (100 ≤ j ∨ 115 ≤ t.stage)) (decide (j < 97 ∧ t.stage < 112))

/-- One stack's reading. -/
def State.stackTemp (s : State) (n t : Nat) : State :=
  let s := if 100 ≤ t then s.orReg POWER_FLAGS 0x80 else s
  s.modPower fun p => { p with
    hotStacks := if 100 ≤ t then insertNew n p.hotStacks else if t < 97 then p.hotStacks.filter (· ≠ n) else p.hotStacks }

/-- THERMAL_SAMPLE (R273, R523, R524), each 1 ms. A region in OFF has no sensor that runs. -/
def execThermalSample (regions : List Reading) (temps : List Nat) (converter : Nat) (vlog : List Nat) (s : State) : Out :=
  if s.input ≠ 3 then .next s else
  let s := (vlog.take 64).zipIdx.foldl (fun s e => s.setRegFld (REGION_CURRENT e.2) 0 10 (min 1023 e.1)) s
  let s := (regions.take 64).zipIdx.foldl (fun s e => s.regionTemp e.2 e.1) s
  let temps := temps.take s.stackCount
  let s := temps.zipIdx.foldl (fun s e => s.stackTemp e.2 e.1) s
  let s := s.modPower fun p => { p with
    stackTemps := temps, hotConv := decide (115 ≤ converter) || (p.hotConv && decide (112 ≤ converter)) }
  let s := if 115 ≤ converter then s.orReg POWER_FLAGS 0x80 else s
  let s := s.checkRamps
  .next (if (temps.any fun t => decide (110 ≤ t)) = true ∨ 125 ≤ converter then (s.orReg POWER_FLAGS 0x100).stewardOff else s)

/-! Coolant (R525, R526). -/

/-- A coolant circuit's register. -/
def coolWord (sup ret flow : Nat) : W32 := w32 (min 255 sup + (min 255 ret <<< 8) + (min 4095 flow <<< 16))

/-- COOLANT_SAMPLE (R526), each 1 ms while the auxiliary supply runs. -/
def execCoolantSample (supA retA flowA supB retB flowB : Nat) (s : State) : Out :=
  if s.input = 0 then .next s else
  let s := (s.setReg POWER_COOL_A (coolWord supA retA flowA)).setReg POWER_COOL_B (coolWord supB retB flowB)
  let bad := flowA < 300 ∨ flowB < 100 ∨ 45 < max supA supB
  let s := s.modPower fun p => { p with cooled := true, coolBad := if bad then p.coolBad + 1 else 0 }
  .next (if flowA < 600 ∨ flowB < 200 ∨ 40 < max supA supB then s.orReg POWER_FLAGS 8 else s)

/-- COOLANT_LIMIT (R526): out of limits for 1 s. -/
def execCoolantLimit (s : State) : Out := .next (if s.input = 3 ∧ 1000 ≤ s.power.coolBad then s.stewardOff else s)

/-! The reference (R519). -/

/-- Neither oscillator runs: every region goes to OFF, and the module is reported failed. -/
def State.noReference (s : State) : State :=
  let s := if s.bringingUp then s.setRegFld MOD_BRINGUP_STATUS 0 3 6 else s
  let s := (List.range 64).foldl (fun s r => s.sleepRegion r true) s
  s.reportFailed

/-- OSCILLATOR_FAIL (R98, R398, R519): the failure of A switches the reference to B, which counts as a hold disagreement
while the fabric runs. -/
def execOscillatorFail (a : Bool) (s : State) : Out :=
  if s.input = 0 ∨ (if a then s.power.oscA else s.power.oscB) = false then .next s else
  let s := s.lasting.modPower fun p => if a then { p with oscA := false } else { p with oscB := false }
  if !s.power.oscA && !s.power.oscB then .next s.noReference
  else if !a then .next s
  else
    let s := (s.orReg POWER_FLAGS 0x40).setRegFld POWER_STATUS 5 1 1
    .next (if s.fabricMode = 0 then s else s.holdDisagree)

end Sys2Proof.Machine
end

