-- ==== Sys2Proof/Machine/Bringup.lean ====
section
/-! DEFINITION. Bring-up and the inventory (R530 to R549): secure boot, the waves with their region tests and repair decisions,
the stockroom test, and the finish. -/

namespace Sys2Proof.Machine

/-! Firmware images (R533 to R536). -/

def State.fwSlots (s : State) (k : Nat) : FwSlots := spGet FwSlots.reset s.boot.fw k
def State.setFw (s : State) (k : Nat) (x : FwSlots) : State := s.modBoot fun b => { b with fw := spSet FwSlots.reset b.fw k x }
/-- The SVN counter. -/
def State.svn (s : State) : Nat := s.regFld MOD_LIFECYCLE 8 7

/-- A valid image (R533): its signature verifies against a key slot that is not revoked, and its SVN is not below the
counter. -/
def State.imageValid (s : State) (i : FwImage) : Bool :=
  i.signature && !s.boot.revoked.contains i.keySlot.val && decide (s.svn ≤ i.svn ∧ i.svn ≤ 64)

/-- One component boots from its active slot, or else from the other (R534); none when neither image is valid. -/
def State.bootOne (s : State) (k : Nat) : Option State :=
  let x := s.fwSlots k
  let good (i : Option FwImage) : Option FwImage := i.filter s.imageValid
  let (first, second) := if x.activeB then (x.b, x.a) else (x.a, x.b)
  match good first, good second with
  | some i, _ => some (s.setFw k { x with running := some i })
  | none, some i => some ((s.setFw k { x with running := some i }).orReg MOD_MGMT_FLAGS 8)
  | none, none => none

/-- Recovery (R535): no region is powered. -/
def State.enterRecovery (s : State) : State :=
  let s := (List.range 64).foldl (fun s r => s.setPower r 3) (s.setRegFld MOD_BRINGUP_STATUS 0 3 5)
  s.modBoot fun b => { b with booted := false, busy := false }

/-- The valid copy with the higher generation, and whether it is B (R544). -/
def State.latestInv (s : State) : Option (Inventory × Bool) :=
  let a := s.boot.invA
  let b := s.boot.invB
  if b.valid ∧ (¬ a.valid ∨ a.gen < b.gen) then some (b, true) else if a.valid then some (a, false) else none

/-- Show in MOD_INVENTORY the generation and the copy. -/
def State.showInv (s : State) (gen : Nat) (b : Bool) : State := s.setReg MOD_INVENTORY (w32 (gen % 65536 + bitN b 16))

/-- The inventory is read (R530, R544): every region's repair state, disabled phases and RETEST, and the retired locations. -/
def State.readInventory (s : State) : State :=
  let s := if s.boot.invA.valid && s.boot.invB.valid then s else s.orReg MOD_MGMT_FLAGS 4
  match s.latestInv with
  | none => s
  | some (inv, b) =>
    let s := (List.range 64).foldl (fun s r =>
      let x := spGet (fun _ => InvRegion.reset) inv.regions r
      let s := s.modRegion r fun y => { y with dead := x.dead, retest := x.retest, rows := x.rows, newDead := [] }
      let s := (s.setReg (REGION_PHASE_LO r) (x.phases.truncate 32)).setReg (REGION_PHASE_HI r) ((x.phases >>> 32).truncate 32)
      s.showMap r ⟨x.skipRow, x.skipCol, x.dead⟩) s
    let s := { s with retired := inv.retired.foldl (fun l x => insertNew x l) s.retired }
    s.refillSpares.showInv inv.gen b

/-- BOOT (R534, R535): the boot ROM verifies the steward's image; with a bring-up running, the steward verifies and loads the
other components and reads the inventory. -/
def execBoot (s : State) : Out :=
  if s.input = 0 ∨ s.bringup = 5 then .next s else
  match (if (s.fwSlots 0).running.isSome then some s else s.bootOne 0) with
  | none => .next s.enterRecovery
  | some s =>
    let s := if s.bringup = 0 ∧ ¬ s.boot.off then s.restart else s
    if s.bringup ≠ 1 ∨ s.boot.booted = true then .next s else
    match (s.bootOne 1).bind fun s => (s.bootOne 2).bind fun s => s.bootOne 3 with
    | none => .next s.enterRecovery
    | some s => .next (s.readInventory.modBoot fun b => { b with booted := true })

/-! Waves (R537 to R539). -/

def State.wave (s : State) : Nat := s.regFld MOD_BRINGUP_STATUS 3 4
def State.coldBringup (s : State) : Bool := s.regBit MOD_BRINGUP_STATUS 7

/-- The untested regions beside a proven one. -/
def State.nextWave (s : State) : List Nat :=
  (List.range 64).filter fun r => !s.boot.tested.contains r && (neighbours r).any s.boot.proven.contains

/-- The waves are over: one has proven no region, or it was wave 12, or no untested region can be reached. -/
def State.wavesOver (s : State) : Bool :=
  s.boot.gained == 0 || s.wave == 12 || s.nextWave.isEmpty

/-- A region gets the full test (R545, R546). -/
def State.fullTest (s : State) (r : Nat) : Bool := s.coldBringup || (s.region r).retest

/-- The tests of a wave begin: WAVE, TESTER and FULL of REGION_TEST. -/
def State.startTests (s : State) (wave : Nat) (rs : List Nat) : State :=
  let s := rs.foldl (fun s r =>
    let tester := if wave = 0 then 0x3F else ((neighbours r).find? s.boot.proven.contains).getD 0x3F
    (s.setReg (REGION_TEST r) (w32 (wave + (tester <<< 4) + bitN (s.fullTest r) 14))).setReg (REGION_TEST_TIME r) 0#32) s
  let s := (s.setRegFld MOD_BRINGUP_STATUS 0 3 2).setRegFld MOD_BRINGUP_STATUS 3 4 wave
  s.modBoot fun b => { b with testing := rs, gained := 0 }

/-- WAVE_START (R109, R537, R539). -/
def execWaveStart (s : State) : Out :=
  if s.input ≠ 3 ∨ s.boot.booted = false then .next s
  else if s.bringup = 1 then .next ((s.changeMode 1).startTests 0 entryRegions)
  else if s.bringup = 2 ∧ s.boot.testing = [] ∧ s.wavesOver = false then .next (s.startTests (s.wave + 1) s.nextWave)
  else .next s

/-! Region tests (R538, R542, R543, R547). -/

/-- The repair decisions (R542) from the skip columns that the inventory gives and the dead cores; none when the region is not
serviceable. -/
def decideRepair (old : RepairMap) : Option RepairMap :=
  let cols := (List.range 11).map fun p =>
    match old.inRow p with
    | [] => 12
    | [k] => k % 13
    | k :: ks =>
      let c := old.skipCol.getD p 12
      if old.dead.contains (p * 13 + c) then c else ks.foldl (fun m x => min m (x % 13)) (k % 13)
  match (List.range 11).filter fun p => decide (2 ≤ (old.inRow p).length) with
  | [] => some ⟨10, cols, old.dead⟩
  | [p] => some ⟨p, cols, old.dead⟩
  | _ => none

/-- The counts of proven and dark regions. -/
def State.showCounts (s : State) : State :=
  (s.setRegFld MOD_BRINGUP_STATUS 8 7 s.boot.proven.length).setRegFld MOD_BRINGUP_STATUS 15 7
    ((List.range 64).filter s.isDark).length

/-- The test of a region has ended. -/
def State.testEnds (s : State) (r millis : Nat) (good : Bool) : State :=
  let s := s.setReg (REGION_TEST_TIME r) (w32 millis)
  (s.modBoot fun b => { b with
    testing := b.testing.filter (· ≠ r), tested := insertNew r b.tested
    proven := if good then insertNew r b.proven else b.proven, gained := b.gained + (if good then 1 else 0) }).showCounts

/-- The test of a region fails at a step (0 for a timeout): the region is dark, in OFF after a fault of its supply, else in
RETAIN. -/
def State.testFails (s : State) (r millis step : Nat) (cause : DarkCause) (off : Bool) : State :=
  let s := s.setRegFld (REGION_TEST r) 11 3 step
  let s := s.modRegion r fun x => { x with dark := some cause, retest := true, proven := false }
  (s.sleepRegion r off).testEnds r millis false

/-- Step 1's finding on the VLOG phases: a full test decides on every phase anew; a warm one leaves disabled phases as they
are. -/
def State.testPhases (s : State) (r : Nat) (full : Bool) (failed : W64) : State :=
  let old := s.phasesOff r
  let s := if full then ((s.setReg (REGION_PHASE_LO r) 0#32).setReg (REGION_PHASE_HI r) 0#32) else s
  (List.range 64).foldl (fun s k =>
    if !bitAt failed k then s
    else if bitAt old k then s.orReg (if k < 32 then REGION_PHASE_LO r else REGION_PHASE_HI r) (2 ^ (k % 32))
    else s.disablePhase r k) s |>.showCaps r

/-- A proven region (R538, R546, R59): its cores and its cellar are wiped, and it goes to RETAIN, an entry region to DOZE. -/
def State.testPasses (s : State) (r : Nat) (full : Bool) (x : RegionTestResult) (m : RepairMap) : State :=
  let newPhase := (s.region r).retest && !full
  let s := (s.showMap r m).setReg (REGION_MAPGEN r) 0#32
  let s := x.badSlots.foldl (fun s n => s.retire (.slot r (n / 262144) (n % 262144))) s
  let s := s.modRegion r fun y => { y with
    dead := m.dead, newDead := [], proven := true, svcFailed := x.svcFailed, rows := y.rows + x.badRows, retest := newPhase }
  let s := ((s.wipeCellar r).modRegionCores r fun k => { Core.reset with sgen := k.sgen }).setRegFld (REGION_TEST r) 10 1 1
  -- a proven entry region hosts the foreman or a standby from the end of the bring-up on
  let s := if entryRegions.contains r then (s.setPower r 1).setRegFld (REGION_POWER r) 2 5 4 else s.setPower r 2
  s.testEnds r x.millis true

/-- The limit of a region's test, in ms (R539, R546). -/
def State.testLimit (s : State) (r : Nat) : Nat := if s.regBit (REGION_TEST r) 14 then 30000 else 4000

/-- The steps of a region test in order; the first that fails ends it. -/
def State.testRegion (s : State) (r : Nat) (x : RegionTestResult) : State :=
  let full := s.regBit (REGION_TEST r) 14
  let s := (s.setRegFld (REGION_POWER r) 19 1 0).testPhases r full x.phases
  let s := if x.fuseOpens then
      ((s.setRegFld (REGION_POWER r) 19 1 1).orReg (REGION_POWER_FLAGS r) 0x10).orReg POWER_FLAGS 0x200
    else s
  let phasesBad := (List.range 8).any fun g => decide (2 < s.groupFailed r g)
  let m := s.repairMap r
  let m := { m with dead := (x.deadCores.filter (· < 143)).foldl (fun d k => insertNew k d) m.dead }
  let n := x.millis
  if x.fuseOpens || !x.powerOk then s.testFails r n 1 .power true
  else if phasesBad then s.testFails r n 1 .power false
  else if !x.riserOk then s.testFails r n 2 .unitFault false
  else if 4 ≤ x.svcFailed then s.testFails r n 3 .serviceCores false
  else match decideRepair m with
    | none => ((s.modRegion r fun y => { y with dead := m.dead }).showMap r m).testFails r n 4 .notServiceable false
    | some m =>
      if !x.bayOk then s.testFails r n 6 .unitFault false
      else if !x.seamOk || !x.columnOk then s.testFails r n 7 .unitFault false
      else s.testPasses r full x m

/-- A test is cut off at its limit (R539). -/
def State.testTimesOut (s : State) (r : Nat) : State := s.testFails r (s.testLimit r) 0 .notServiceable false

/-- REGION_TEST (R538). -/
def execRegionTest (region : Fin 64) (result : RegionTestResult) (s : State) : Out :=
  let r := region.val
  .next (if !s.boot.testing.contains r then s
    else if s.testLimit r < result.millis then s.testTimesOut r
    else s.testRegion r result)

/-- REGION_TEST_TIMEOUT (R539). -/
def execRegionTestTimeout (region : Fin 64) (s : State) : Out :=
  .next (if s.boot.testing.contains region.val then s.testTimesOut region.val else s)

/-! The stockroom and the finish (R540, R541). -/

/-- STOCKROOM_TEST (R540, R281). -/
def execStockroomTest (failed : List (Fin 768)) (s : State) : Out :=
  if ¬ (s.bringup = 1 ∨ s.bringup = 2) ∨ s.boot.stockDone = true then .next s else
  let s := (failed.filter fun c => decide (c.val < 16 * s.stackCount)).foldl (fun s c => s.retireChannel (c.val / 16) (c.val % 16)) s
  .next (s.modBoot fun b => { b with stockDone := true })

/-- A region's record, as the module stands; its CRC is put in when it is written. -/
def State.invRegion (s : State) (r : Nat) : InvRegion :=
  let x := s.region r
  let m := s.repairMap r
  { skipRow := m.skipRow, dark := x.dark.isSome, cause := (x.dark.map causeNo).getD 0, retest := x.retest, dead := m.dead
    skipCol := m.skipCol, phases := s.phasesOff r, rows := x.rows
    slots := (s.retired.filter fun e => match e with | .slot q _ _ => q == r | _ => false).length, crc := InvRegion.reset.crc }

/-- The inventory is written (R544), to the copy with the lower generation or to an invalid one. -/
def State.writeInventory (s : State) : State :=
  let toB := match s.latestInv with
    | some (_, b) => !b
    | none => false
  let gen := (match s.latestInv with
    | some (i, _) => i.gen
    | none => 0) + 1
  let records := (sparseFrom InvRegion.reset 0 ((List.range 64).map s.invRegion)).map fun e => (e.1, e.2.sealed)
  let inv := Inventory.sealed ⟨gen, s.stepping, s.serial, 0#32, records, s.retired.take 4194304⟩
  (s.modBoot fun b => if toB then { b with invB := inv, invDue := false } else { b with invA := inv, invDue := false }).showInv gen toB

/-- The foreman starts, with standbys in the other proven entry regions; without any, the module is failed (R64, R541). -/
def State.startForeman (s : State) : State :=
  match entryRegions.filter fun r => (s.region r).proven with
  | [] => ({ s with foreman := { Foreman.reset with turn := s.foreman.turn } }.setReg HEALTH_FOREMAN 0x40#32).reportFailed
  | r :: rs => ({ s with foreman := { Foreman.reset with active := true, standbys := rs, turn := s.foreman.turn } }.setReg
      HEALTH_FOREMAN (w32 r)).modPower fun p => { p with failed := false }

/-- The SVN counter advances up to the SVN of the booted images (R536): the highest that each of them meets. -/
def State.advanceSvn (s : State) : State :=
  let low := (List.range 4).foldl (fun m k => match (s.fwSlots k).running with
    | some i => min m i.svn
    | none => m) 64
  s.setRegFld MOD_LIFECYCLE 8 7 (max s.svn low)

/-- BRINGUP_FINISH (R539, R541): regions left untested are dark; the epochs are aligned, the foreman starts, and the inventory is
written. READY follows once the wipes are complete. -/
def execBringupFinish (holdNetOk : Bool) (millis : W32) (s : State) : Out :=
  if s.bringup ≠ 2 ∨ s.boot.testing ≠ [] ∨ s.wavesOver = false ∨ s.boot.stockDone = false then .next s else
  let left := (List.range 64).filter fun r => !s.boot.tested.contains r
  let s := if s.wave = 12 ∧ left ≠ [] then s.orReg MOD_MGMT_FLAGS 0x10 else s
  let s := left.foldl (fun s r => s.modRegion r fun x => { x with dark := some .notServiceable, retest := true, proven := false }) s
  let s := if holdNetOk then s else s.orReg MOD_FABRIC_FAULT 0x10
  let s := { s with fabric := { Fabric.reset with change := s.fabric.change } }.startForeman.writeInventory
  let s := (s.advanceSvn.setReg MOD_BRINGUP_TIME millis).showCounts
  .next (s.setRegFld MOD_BRINGUP_STATUS 0 3 4).becomeReady

/-- INVENTORY_WRITE (R544), in service. -/
def execInventoryWrite (s : State) : Out := .next (if s.boot.invDue ∧ s.bringup = 4 then s.writeInventory else s)

end Sys2Proof.Machine
end

