-- ==== Sys2Proof/Machine/Manage.lean ====
section
/-! DEFINITION. Lifecycle, attestation, management interfaces and firmware update (R536, R550 to R559). -/

namespace Sys2Proof.Machine

/-! Who is answered (R535, R553, R556). Results are those of R592: 0 OK, 1 busy, 2 bad request, 4 refused. -/

/-- MOD_LIFECYCLE STATE: 0 BLANK, 1 PROVISIONED, 2 DEPLOYED, 3 SERVICE, 4 RETIRED. -/
def State.lifecycle (s : State) : Nat := s.regFld MOD_LIFECYCLE 0 3
def lifecycleNo : Lifecycle → Nat
  | .blank => 0
  | .provisioned => 1
  | .deployed => 2
  | .service => 3
  | .retired => 4

/-- The kinds of request that R535 and R553 tell apart. -/
inductive ReqKind where
  | monitor
  | update
  | spdm
  | other
deriving DecidableEq, Repr

/-- Whether a request is answered at all, and if so whether the module's state permits it: no steward in UNPOWERED; in RETIRED
monitoring alone; in recovery firmware update and SPDM alone, on SMB and MG. -/
def State.hears (s : State) (from_ : MgmtPort) (k : ReqKind) : Option Bool :=
  if s.input = 0 then none
  else if s.lifecycle = 4 then (if k = .monitor then some true else none)
  else if s.bringup = 5 then
    match from_ with
    | .smb | .mg => some (k == .update || k == .spdm)
    | .pcie _ | .mailbox _ => none
  else some true

/-- The transport carries the request (R556, R593): PLDM and SPDM on SMB and PCIe, Redfish on MG, both in the mailboxes; in
recovery R535 lets MG carry update and SPDM. -/
def State.carries (s : State) (from_ : MgmtPort) (k : ReqKind) : Bool :=
  match from_ with
  | .smb | .pcie _ => k != .other
  | .mg => k == .other || k == .update || s.bringup == 5
  | .mailbox _ => true

/-- MG serves some client in the present lifecycle state (R557). -/
def State.mgServes (s : State) : Bool := s.bringup == 5 || s.lifecycle == 0 || s.lifecycle == 2 || s.lifecycle == 3

def State.answer (s : State) (dest : MgmtPort) (result : Nat) (data : List Byte) : Out := .next (s.emit (.reply dest result data))

/-- A request passes to `f` when it is heard, carried and permitted. -/
def State.request (s : State) (from_ : MgmtPort) (k : ReqKind) (f : State → Out) : Out :=
  match s.hears from_ k with
  | none => .next s
  | some ok =>
    if ok && s.carries from_ k && (from_ != .mg || s.mgServes) then f s else s.answer from_ 4 []

/-! Lifecycle (R550 to R553). -/

/-- A transition of R551 and the authority that signs for it. -/
def mayTransit (now : Nat) (target : Lifecycle) (signer : Authority) : Bool :=
  match target with
  | .blank => false
  | .provisioned => (now == 0 && signer == .twirun) || (now == 2 && signer == .owner) || (now == 3 && signer == .twirun)
  | .deployed => now == 1 && signer == .twirun
  | .service => (now == 1 && signer == .twirun) || (now == 2 && signer == .owner)
  | .retired => (now == 2 && signer == .owner) || ((now == 1 || now == 3) && signer == .twirun)

/-- The wipe of every memory (R304): benches, accumulators and cluster state, cellar and stockroom with the secured state kept
for peers, the crate maps; READY is clear until it ends (R552). -/
def State.wipeAll (s : State) : State :=
  let s := { s with cores := [], cellar := [], cellarBad := [], stock := [], stockBad := [], keep := [] }
  let s := s.existing.foldl (fun s c => s.modCtx c fun x => { x with map := [], migrations := [], awaiting := [] }) s
  ((s.setRegFld QUOTA_WIPE_STATUS 0 3 7).setRegFld MOD_STATUS 5 1 0).modBoot fun b => { b with wiping := true }

/-- The new state is recorded (R551, R552). -/
def State.transit (s : State) (target : Lifecycle) : State :=
  let cold := s.lifecycle == 3 && target == .provisioned
  let s := (s.setRegFld MOD_LIFECYCLE 0 3 (lifecycleNo target)).setRegFld MOD_LIFECYCLE 16 16
    (min 65535 (s.regFld MOD_LIFECYCLE 16 16 + 1))
  let s := s.orReg MOD_MGMT_FLAGS 0x20
  let s := if cold then s.setRegFld MOD_BRINGUP_CONTROL 0 1 1 else s
  (s.modBoot fun b => { b with owner := target == .deployed, cold := b.cold || cold, busy := true }).wipeAll

/-- LIFECYCLE_REQUEST (R551, R552, R559): refused unless READY is set and no context is enabled. -/
def execLifecycleRequest (target : Lifecycle) (serial nonce : W64) (signer : Authority) (from_ : MgmtPort) (s : State) : Out :=
  s.request from_ .other fun s =>
    if s.boot.busy then s.answer from_ 1 []
    else if !(s.ready && s.contexts.isEmpty && serial == s.serial && s.boot.nonces.contains nonce
        && mayTransit s.lifecycle target signer) then s.answer from_ 4 []
    else ((s.modBoot fun b => { b with nonces := b.nonces.filter (· ≠ nonce) }).transit target).answer from_ 0 []

/-- NONCE_ISSUE (R551). -/
def execNonceIssue (nonce : W64) (s : State) : Out :=
  .next (if s.input = 0 ∨ s.lifecycle = 4 ∨ s.bringup = 5 then s
    else s.modBoot fun b => { b with nonces := insertNew nonce b.nonces })

/-! Firmware (R536, R558). -/

/-- An image goes into its component's inactive slot, which is marked active once the image is verified. -/
def State.writeImage (s : State) (i : FwImage) : State :=
  let x := s.fwSlots i.component.val
  let good := s.imageValid i
  s.setFw i.component.val (if x.activeB then { x with a := some i, activeB := !good } else { x with b := some i, activeB := good })

/-- FIRMWARE_UPDATE (R558). -/
def execFirmwareUpdate (images : List FwImage) (from_ : MgmtPort) (s : State) : Out :=
  s.request from_ .update fun s =>
    if s.boot.busy then s.answer from_ 1 []
    else (images.foldl (fun s i => s.writeImage i) s).answer from_ (if images.all s.imageValid then 0 else 4) []

/-- FIRMWARE_ACTIVATION (R558): as a steward POWER_OFF; the steward restarts from the new slot, and a bring-up starts, unless a
POWER_OFF of R508 is in force. -/
def execFirmwareActivation (from_ : MgmtPort) (s : State) : Out :=
  s.request from_ .update fun s =>
    if s.boot.busy then s.answer from_ 1 []
    else if !s.contexts.isEmpty then s.answer from_ 4 []
    else
      let s := s.modWrite .steward .powerOff []
      let s := s.modBoot fun b => { b with fw := (List.range 4).foldl (fun f k =>
        spSet FwSlots.reset f k { (spGet FwSlots.reset f k) with running := none }) b.fw, booted := false, nonces := [] }
      let s := if s.bringup = 5 then s.setRegFld MOD_BRINGUP_STATUS 0 3 0 else s
      let s := s.orReg MOD_MGMT_FLAGS 0x40
      let s := if s.power.offForce then s else
        let s := ((s.setReg MOD_CONTROL 0#32).setRegFld MOD_STATUS 0 3 0).modBoot fun b => { b with off := false }
        s.restart.modBoot fun b => { b with busy := true }
      s.answer from_ 0 []

/-- KEY_SLOT_REVOKE (R536). -/
def execKeySlotRevoke (slot signedBy : Fin 4) (s : State) : Out :=
  let left := (List.range 4).filter fun k => !s.boot.revoked.contains k
  .next (if s.input ≠ 0 ∧ s.lifecycle ≠ 4 ∧ left.contains slot.val ∧ left.contains signedBy.val ∧ 2 ≤ left.length then
      s.modBoot fun b => { b with revoked := insertNew slot.val b.revoked }
    else s)

/-! Attestation and monitoring (R554 to R557). The bytes of an SPDM message and of a log are not the spec's: free values
(assumption 2). -/

/-- A certificate slot has a chain: the device's in slot 0, the owner alias's in slot 1 in DEPLOYED (R550, R554). -/
def State.certSlot (s : State) (n : Nat) : Bool :=
  (n == 0 && (s.lifecycle == 1 || s.lifecycle == 2 || s.lifecycle == 3)) || (n == 1 && s.lifecycle == 2)

/-- The steward serves the request (R554, R555). -/
def State.spdmServed (s : State) : SpdmRequest → Bool
  | .getVersion | .getCapabilities | .negotiateAlgorithms => true
  | .getDigests | .keyExchange | .finish | .endSession => s.certSlot 0
  | .getCertificate n | .challenge n => s.certSlot n
  | .getMeasurements n => decide (1 ≤ n ∧ n ≤ 7)

/-- SPDM_REQUEST (R554). -/
def execSpdmRequest (from_ : MgmtPort) (req : SpdmRequest) (s : State) : Out :=
  s.request from_ .spdm fun s =>
    if !s.spdmServed req then s.answer from_ 2 []
    else let (n, s) := s.free; s.answer from_ 0 (leBytes 48 n)

/-- A sensor's value (R557); none for a stack that the module does not have. -/
def State.sensor (s : State) : Sensor → Option Nat
  | .regionLogic r => some (s.regFld (REGION_TEMP r) 0 8)
  | .regionCellar r => some (s.regFld (REGION_TEMP r) 8 8)
  | .stack n => if n.val < s.stackCount then some (s.power.stackTemps.getD n.val 0) else none
  | .vin => some (s.regFld POWER_INPUT 16 14)
  | .inputPower => some (s.regFld POWER_INPUT 0 16)
  | .supplyA => some (s.regFld POWER_COOL_A 0 8)
  | .returnA => some (s.regFld POWER_COOL_A 8 8)
  | .flowA => some (s.regFld POWER_COOL_A 16 12)
  | .supplyB => some (s.regFld POWER_COOL_B 0 8)
  | .returnB => some (s.regFld POWER_COOL_B 8 8)
  | .flowB => some (s.regFld POWER_COOL_B 16 12)
  | .riskLevel => some (s.regFld HEALTH_RISK 0 3)
  | .lifecycle => some s.lifecycle
  | .regionPower r => some (s.powerOf r)

/-- The reply to a sensor read: four bytes, little-endian (assumption 29). -/
def State.answerSensor (s : State) (dest : MgmtPort) (x : Sensor) : Out :=
  match s.sensor x with
  | some v => s.answer dest 0 (leBytes 4 v)
  | none => s.answer dest 2 []

/-- PLDM_REQUEST (R557). -/
def execPldmRequest (from_ : MgmtPort) (sensor : Sensor) (s : State) : Out :=
  s.request from_ .monitor fun s => s.answerSensor from_ sensor

/-- The client's certificate is one that MG takes (R557). -/
def State.clientOk (s : State) : ClientCert → Bool
  | .owner => s.lifecycle == 2
  | .twirunService => s.lifecycle == 3 || s.lifecycle == 0
  | .none => false

/-- REDFISH_REQUEST (R557, R593): the mailboxes ask for no certificate. -/
def execRedfishRequest (from_ : MgmtPort) (cert : ClientCert) (service : RedfishService) (s : State) : Out :=
  s.request from_ .other fun s =>
    if from_ = .mg ∧ s.clientOk cert = false then s.answer from_ 4 [] else
    match service with
    | .sensor x => s.answerSensor from_ x
    | .logs => let (n, s) := s.free; s.answer from_ 0 (leBytes 48 n)
    | .firmwareUpdate | .lifecycleRequest => s.answer from_ (if s.boot.busy then 1 else 0) []

end Sys2Proof.Machine
end

