-- ==== Sys2Proof/Machine/Vectors.lean ====
section
/-! DEFINITION. The vector instructions as the sequencer issues them (R203, R204, R623): each command is one opcode of R205. -/

namespace Sys2Proof.Machine

/-- The effect of a legal instruction of an opcode (R205). -/
def laneBody (opc : Nat) : State → Nat → VInstr → List Nat → State :=
  match opc with
  | 0x01 => laneArith opAdd
  | 0x02 => laneArith opSub
  | 0x03 => laneArith opMul
  | 0x04 => laneArith opFma
  | 0x05 => laneArith opDiv
  | 0x06 => laneArith opMax
  | 0x07 => laneArith opMin
  | 0x08 => laneArith opAbs
  | 0x09 => laneArith opNeg
  | 0x0A => laneBits fun a b => a + b
  | 0x0B => laneBits fun a b => a &&& b
  | 0x0C => laneBits fun a b => a ||| b
  | 0x0D => laneBits fun a b => a ^^^ b
  | 0x10 => laneArith opExp2
  | 0x11 => laneArith opLog2
  | 0x12 => laneArith opRcp
  | 0x13 => laneArith opRsqrt
  | 0x18 => laneCompare
  | 0x19 => laneSelect
  | 0x1A => laneMaskOp
  | 0x20 => laneConvert false
  | 0x21 => laneConvert true
  | 0x22 => laneScaleB
  | 0x30 => laneLoad
  | 0x31 => laneStore
  | 0x32 => laneGather
  | 0x33 => laneScatter
  | 0x34 => laneScatAdd
  | 0x35 => laneLoadExpand
  | 0x36 => laneStoreCompress
  | 0x37 => laneLoadMask
  | 0x38 => lanePermute
  | 0x39 => laneCompress
  | 0x3A => laneExpand
  | 0x3B => laneBroadcast
  | 0x3C => laneStoreMask
  | 0x40 => laneReduce
  | 0x41 => laneScan
  | 0x50 => laneNorm
  | 0x51 => laneSoftmax
  | 0x52 => laneLoss
  | 0x53 => laneResAdd
  | 0x60 => laneProgram
  | 0x61 => laneSetFill
  | 0x62 => laneStat
  | 0x63 => laneProgLoad
  | _ => fun s _ _ _ => s

/-- A vector instruction of an opcode once it is issued. -/
def State.runVector (s : State) (k opc : Nat) (w : W64) (met : LaneMet) : State := s.vector k w opc met (laneBody opc)

/-- The bench granules that a vector instruction loads. -/
def Core.vectorReads (c : Core) (opc : Nat) (w : W64) (met : LaneMet) : List (Nat × Nat) :=
  let i := VInstr.ofWord w
  if i.notOpc opc then [] else i.loads (c.seqWrites met.scalars)

/-- A vector instruction of the sequencer (R201 to R205): it waits where it loads what an earlier TDRAIN is still to write. -/
def State.seqVector (s : State) (core : Fin 7680) (opc : Nat) (w : W64) (met : LaneMet) : State :=
  let k := s.phys core
  s.issue k (.vector opc w met) ((s.core k).vectorReads opc w met) fun s => s.runVector k opc w met

def execVnop (core : Fin 7680) (w : W64) (met : LaneMet) (s : State) : Out := .next (s.seqVector core 0x00 w met)
def execVadd (core : Fin 7680) (w : W64) (met : LaneMet) (s : State) : Out := .next (s.seqVector core 0x01 w met)
def execVsub (core : Fin 7680) (w : W64) (met : LaneMet) (s : State) : Out := .next (s.seqVector core 0x02 w met)
def execVmul (core : Fin 7680) (w : W64) (met : LaneMet) (s : State) : Out := .next (s.seqVector core 0x03 w met)
def execVfma (core : Fin 7680) (w : W64) (met : LaneMet) (s : State) : Out := .next (s.seqVector core 0x04 w met)
def execVdiv (core : Fin 7680) (w : W64) (met : LaneMet) (s : State) : Out := .next (s.seqVector core 0x05 w met)
def execVmax (core : Fin 7680) (w : W64) (met : LaneMet) (s : State) : Out := .next (s.seqVector core 0x06 w met)
def execVmin (core : Fin 7680) (w : W64) (met : LaneMet) (s : State) : Out := .next (s.seqVector core 0x07 w met)
def execVabs (core : Fin 7680) (w : W64) (met : LaneMet) (s : State) : Out := .next (s.seqVector core 0x08 w met)
def execVneg (core : Fin 7680) (w : W64) (met : LaneMet) (s : State) : Out := .next (s.seqVector core 0x09 w met)
def execVaddw (core : Fin 7680) (w : W64) (met : LaneMet) (s : State) : Out := .next (s.seqVector core 0x0A w met)
def execVand (core : Fin 7680) (w : W64) (met : LaneMet) (s : State) : Out := .next (s.seqVector core 0x0B w met)
def execVor (core : Fin 7680) (w : W64) (met : LaneMet) (s : State) : Out := .next (s.seqVector core 0x0C w met)
def execVxor (core : Fin 7680) (w : W64) (met : LaneMet) (s : State) : Out := .next (s.seqVector core 0x0D w met)
def execVexp2 (core : Fin 7680) (w : W64) (met : LaneMet) (s : State) : Out := .next (s.seqVector core 0x10 w met)
def execVlog2 (core : Fin 7680) (w : W64) (met : LaneMet) (s : State) : Out := .next (s.seqVector core 0x11 w met)
def execVrcp (core : Fin 7680) (w : W64) (met : LaneMet) (s : State) : Out := .next (s.seqVector core 0x12 w met)
def execVrsqrt (core : Fin 7680) (w : W64) (met : LaneMet) (s : State) : Out := .next (s.seqVector core 0x13 w met)
def execVcmp (core : Fin 7680) (w : W64) (met : LaneMet) (s : State) : Out := .next (s.seqVector core 0x18 w met)
def execVsel (core : Fin 7680) (w : W64) (met : LaneMet) (s : State) : Out := .next (s.seqVector core 0x19 w met)
def execVmop (core : Fin 7680) (w : W64) (met : LaneMet) (s : State) : Out := .next (s.seqVector core 0x1A w met)
def execVcvt (core : Fin 7680) (w : W64) (met : LaneMet) (s : State) : Out := .next (s.seqVector core 0x20 w met)
def execVcvts (core : Fin 7680) (w : W64) (met : LaneMet) (s : State) : Out := .next (s.seqVector core 0x21 w met)
def execScaleb (core : Fin 7680) (w : W64) (met : LaneMet) (s : State) : Out := .next (s.seqVector core 0x22 w met)
def execVld (core : Fin 7680) (w : W64) (met : LaneMet) (s : State) : Out := .next (s.seqVector core 0x30 w met)
def execVst (core : Fin 7680) (w : W64) (met : LaneMet) (s : State) : Out := .next (s.seqVector core 0x31 w met)
def execVgather (core : Fin 7680) (w : W64) (met : LaneMet) (s : State) : Out := .next (s.seqVector core 0x32 w met)
def execVscatter (core : Fin 7680) (w : W64) (met : LaneMet) (s : State) : Out := .next (s.seqVector core 0x33 w met)
def execVscatadd (core : Fin 7680) (w : W64) (met : LaneMet) (s : State) : Out := .next (s.seqVector core 0x34 w met)
def execVldx (core : Fin 7680) (w : W64) (met : LaneMet) (s : State) : Out := .next (s.seqVector core 0x35 w met)
def execVstc (core : Fin 7680) (w : W64) (met : LaneMet) (s : State) : Out := .next (s.seqVector core 0x36 w met)
def execVldm (core : Fin 7680) (w : W64) (met : LaneMet) (s : State) : Out := .next (s.seqVector core 0x37 w met)
def execVperm (core : Fin 7680) (w : W64) (met : LaneMet) (s : State) : Out := .next (s.seqVector core 0x38 w met)
def execVcompress (core : Fin 7680) (w : W64) (met : LaneMet) (s : State) : Out := .next (s.seqVector core 0x39 w met)
def execVexpand (core : Fin 7680) (w : W64) (met : LaneMet) (s : State) : Out := .next (s.seqVector core 0x3A w met)
def execVbcast (core : Fin 7680) (w : W64) (met : LaneMet) (s : State) : Out := .next (s.seqVector core 0x3B w met)
def execVstm (core : Fin 7680) (w : W64) (met : LaneMet) (s : State) : Out := .next (s.seqVector core 0x3C w met)
def execVred (core : Fin 7680) (w : W64) (met : LaneMet) (s : State) : Out := .next (s.seqVector core 0x40 w met)
def execVscan (core : Fin 7680) (w : W64) (met : LaneMet) (s : State) : Out := .next (s.seqVector core 0x41 w met)
def execVnorm (core : Fin 7680) (w : W64) (met : LaneMet) (s : State) : Out := .next (s.seqVector core 0x50 w met)
def execVsoftmax (core : Fin 7680) (w : W64) (met : LaneMet) (s : State) : Out := .next (s.seqVector core 0x51 w met)
def execVloss (core : Fin 7680) (w : W64) (met : LaneMet) (s : State) : Out := .next (s.seqVector core 0x52 w met)
def execVresadd (core : Fin 7680) (w : W64) (met : LaneMet) (s : State) : Out := .next (s.seqVector core 0x53 w met)
def execLprog (core : Fin 7680) (w : W64) (met : LaneMet) (s : State) : Out := .next (s.seqVector core 0x60 w met)
def execVsetfill (core : Fin 7680) (w : W64) (met : LaneMet) (s : State) : Out := .next (s.seqVector core 0x61 w met)
def execVstat (core : Fin 7680) (w : W64) (met : LaneMet) (s : State) : Out := .next (s.seqVector core 0x62 w met)
def execLpload (core : Fin 7680) (w : W64) (met : LaneMet) (s : State) : Out := .next (s.seqVector core 0x63 w met)

end Sys2Proof.Machine
end

