-- ==== Sys2Proof/Machine/Sequencer.lean ====
section
/-! DEFINITION. The sequencer's waiting instructions (R204, R623), and the two tile commands after which they may go on: the
check of a tile operation and its retry (R136 to R146). -/

namespace Sys2Proof.Machine

/-- What an instruction reads of the bench that an earlier TDRAIN may still have to write (R204). -/
def Core.seqReads (c : Core) : SeqInstr → List (Nat × Nat)
  | .vector opc w met => c.vectorReads opc w met
  | .encoder w => c.encodeReads w
  | .tmma _ | .tmmaz _ | .tdrain _ _ | .tzero _ | .cellar _ | .rdpmc _ _ | .barrier _ => []

/-- An instruction of a logical core once it is issued. -/
def State.runSeq (s : State) (core : Fin 7680) : SeqInstr → State
  | .tmma w => s.runTmma (s.phys core) w
  | .tmmaz w => s.runTmmaz (s.phys core) w
  | .tdrain w reads => s.runTdrain (s.phys core) w reads
  | .tzero w => s.runTzero (s.phys core) w
  | .vector opc w met => s.runVector (s.phys core) opc w met
  | .encoder w => s.runEncoder (s.phys core) w
  | .cellar w => s.runCellar core w
  | .rdpmc index sreg => s.runRdpmc core index sreg
  | .barrier ends => s.runBarrier core ends

/-- The waiting instructions go on in their order, up to the first that must wait still. -/
def State.goOn (s : State) (core : Fin 7680) : Nat → State
  | 0 => s
  | fuel + 1 =>
    let k := s.phys core
    match (s.core k).waiting with
    | [] => s
    | i :: is =>
      if ((s.core k).seqReads i).any fun e => (s.core k).awaitsDrain e.1 e.2 then s
      else ((s.modCore k fun c => { c with waiting := is }).runSeq core i).goOn core fuel

/-- Every waiting instruction that may be issued now is. -/
def State.resume (s : State) (core : Fin 7680) : State := s.goOn core (s.core (s.phys core)).waiting.length

/-- TILE_CHECK (R136 to R139). -/
def execTileCheck (core : Fin 7680) (up : TileUpset) (s : State) : Out :=
  let k := s.phys core
  match nextCheck (s.core k).ops with
  | none => .next s
  | some (pre, o, post) => .next ((s.tileCheck k pre o post up).resume core)

/-- TILE_RETRY (R139, R140, R146). -/
def execTileRetry (core : Fin 7680) (up : TileUpset) (s : State) : Out :=
  let k := s.phys core
  match nextRetry (s.core k).ops with
  | none => .next s
  | some (pre, o, post) => .next ((s.tileRetry k pre o post up).resume core)

end Sys2Proof.Machine
end

