-- ==== Sys2Proof/Machine/Dispatch.lean ====
section
/-! DEFINITION. The meaning of each command: one arm per constructor of `Instr`, in the table's order. -/

namespace Sys2Proof.Machine

def exec (i : Instr) (s : State) : Host.Outcome State Fault Refusal :=
  match i with
  | .doorbell p addr size val => Sys2Proof.Machine.execDoorbell p addr size val s
  | .descriptorTake => Sys2Proof.Machine.execDescriptorTake s
  | .step ring index => Sys2Proof.Machine.execStep ring index s
  | .sched ring index => Sys2Proof.Machine.execSched ring index s
  | .moveToTensor ring index met => Sys2Proof.Machine.execMoveToTensor ring index met s
  | .moveToHost ring index met => Sys2Proof.Machine.execMoveToHost ring index met s
  | .moveDiscard ring index => Sys2Proof.Machine.execMoveDiscard ring index s
  | .ledgerInit ring index answer => Sys2Proof.Machine.execLedgerInit ring index answer s
  | .swatch ring index => Sys2Proof.Machine.execSwatch ring index s
  | .secure ring index => Sys2Proof.Machine.execSecure ring index s
  | .fence ring index => Sys2Proof.Machine.execFence ring index s
  | .queryCrateMap ring index => Sys2Proof.Machine.execQueryCrateMap ring index s
  | .queryCtxWindow ring index => Sys2Proof.Machine.execQueryCtxWindow ring index s
  | .querySinkTable ring index => Sys2Proof.Machine.execQuerySinkTable ring index s
  | .queryRingWindows ring index => Sys2Proof.Machine.execQueryRingWindows ring index s
  | .queryProgramSlots ring index => Sys2Proof.Machine.execQueryProgramSlots ring index s
  | .queryScaleLedger ring index => Sys2Proof.Machine.execQueryScaleLedger ring index s
  | .queryLedgerDirectory ring index => Sys2Proof.Machine.execQueryLedgerDirectory ring index s
  | .assign ring index => Sys2Proof.Machine.execAssign ring index s
  | .remove ring index => Sys2Proof.Machine.execRemove ring index s
  | .sinkSet ring index => Sys2Proof.Machine.execSinkSet ring index s
  | .sinkClear ring index => Sys2Proof.Machine.execSinkClear ring index s
  | .cancel ring index => Sys2Proof.Machine.execCancel ring index s
  | .teardown ring index => Sys2Proof.Machine.execTeardown ring index s
  | .completionWrite ring => Sys2Proof.Machine.execCompletionWrite ring s
  | .eventWrite ctx => Sys2Proof.Machine.execEventWrite ctx s
  | .eventRepeatWindowClose ctx code d0 => Sys2Proof.Machine.execEventRepeatWindowClose ctx code d0 s
  | .ringIrqSignal ring timed => Sys2Proof.Machine.execRingIrqSignal ring timed s
  | .run m lost => Sys2Proof.Machine.execRun m lost s
  | .pause m lost => Sys2Proof.Machine.execPause m lost s
  | .halt m lost => Sys2Proof.Machine.execHalt m lost s
  | .reset m lost => Sys2Proof.Machine.execReset m lost s
  | .powerOff m lost => Sys2Proof.Machine.execPowerOff m lost s
  | .ctxEnable p ctx val both => Sys2Proof.Machine.execCtxEnable p ctx val both s
  | .ctxAbort p ctx val => Sys2Proof.Machine.execCtxAbort p ctx val s
  | .ringEnable p ring => Sys2Proof.Machine.execRingEnable p ring s
  | .ringDrain p ring => Sys2Proof.Machine.execRingDrain p ring s
  | .ringDrainComplete ring => Sys2Proof.Machine.execRingDrainComplete ring s
  | .registerWrite m bar4 addr size val beaten => Sys2Proof.Machine.execRegisterWrite m bar4 addr size val beaten s
  | .latchedLowRead p bar4 addr size => Sys2Proof.Machine.execLatchedLowRead p bar4 addr size s
  | .portLoss p kind => Sys2Proof.Machine.execPortLoss p kind s
  | .freeze m on => Sys2Proof.Machine.execFreeze m on s
  | .snapshot m on => Sys2Proof.Machine.execSnapshot m on s
  | .snapshotComplete => Sys2Proof.Machine.execSnapshotComplete s
  | .mbxDoorbell p val => Sys2Proof.Machine.execMbxDoorbell p val s
  | .mailboxReply p result resp => Sys2Proof.Machine.execMailboxReply p result resp s
  | .mailboxTimeout p => Sys2Proof.Machine.execMailboxTimeout p s
  | .tmma core w => Sys2Proof.Machine.execTmma core w s
  | .tmmaz core w => Sys2Proof.Machine.execTmmaz core w s
  | .tdrain core w reads => Sys2Proof.Machine.execTdrain core w reads s
  | .tzero core w => Sys2Proof.Machine.execTzero core w s
  | .tileCheck core up => Sys2Proof.Machine.execTileCheck core up s
  | .tileRetry core up => Sys2Proof.Machine.execTileRetry core up s
  | .vnop core w met => Sys2Proof.Machine.execVnop core w met s
  | .vadd core w met => Sys2Proof.Machine.execVadd core w met s
  | .vsub core w met => Sys2Proof.Machine.execVsub core w met s
  | .vmul core w met => Sys2Proof.Machine.execVmul core w met s
  | .vfma core w met => Sys2Proof.Machine.execVfma core w met s
  | .vdiv core w met => Sys2Proof.Machine.execVdiv core w met s
  | .vmax core w met => Sys2Proof.Machine.execVmax core w met s
  | .vmin core w met => Sys2Proof.Machine.execVmin core w met s
  | .vabs core w met => Sys2Proof.Machine.execVabs core w met s
  | .vneg core w met => Sys2Proof.Machine.execVneg core w met s
  | .vaddw core w met => Sys2Proof.Machine.execVaddw core w met s
  | .vand core w met => Sys2Proof.Machine.execVand core w met s
  | .vor core w met => Sys2Proof.Machine.execVor core w met s
  | .vxor core w met => Sys2Proof.Machine.execVxor core w met s
  | .vexp2 core w met => Sys2Proof.Machine.execVexp2 core w met s
  | .vlog2 core w met => Sys2Proof.Machine.execVlog2 core w met s
  | .vrcp core w met => Sys2Proof.Machine.execVrcp core w met s
  | .vrsqrt core w met => Sys2Proof.Machine.execVrsqrt core w met s
  | .vcmp core w met => Sys2Proof.Machine.execVcmp core w met s
  | .vsel core w met => Sys2Proof.Machine.execVsel core w met s
  | .vmop core w met => Sys2Proof.Machine.execVmop core w met s
  | .vcvt core w met => Sys2Proof.Machine.execVcvt core w met s
  | .vcvts core w met => Sys2Proof.Machine.execVcvts core w met s
  | .scaleb core w met => Sys2Proof.Machine.execScaleb core w met s
  | .vld core w met => Sys2Proof.Machine.execVld core w met s
  | .vst core w met => Sys2Proof.Machine.execVst core w met s
  | .vgather core w met => Sys2Proof.Machine.execVgather core w met s
  | .vscatter core w met => Sys2Proof.Machine.execVscatter core w met s
  | .vscatadd core w met => Sys2Proof.Machine.execVscatadd core w met s
  | .vldx core w met => Sys2Proof.Machine.execVldx core w met s
  | .vstc core w met => Sys2Proof.Machine.execVstc core w met s
  | .vldm core w met => Sys2Proof.Machine.execVldm core w met s
  | .vstm core w met => Sys2Proof.Machine.execVstm core w met s
  | .vperm core w met => Sys2Proof.Machine.execVperm core w met s
  | .vcompress core w met => Sys2Proof.Machine.execVcompress core w met s
  | .vexpand core w met => Sys2Proof.Machine.execVexpand core w met s
  | .vbcast core w met => Sys2Proof.Machine.execVbcast core w met s
  | .vred core w met => Sys2Proof.Machine.execVred core w met s
  | .vscan core w met => Sys2Proof.Machine.execVscan core w met s
  | .vnorm core w met => Sys2Proof.Machine.execVnorm core w met s
  | .vsoftmax core w met => Sys2Proof.Machine.execVsoftmax core w met s
  | .vloss core w met => Sys2Proof.Machine.execVloss core w met s
  | .vresadd core w met => Sys2Proof.Machine.execVresadd core w met s
  | .lprog core w met => Sys2Proof.Machine.execLprog core w met s
  | .laneProgramTimeout core elem => Sys2Proof.Machine.execLaneProgramTimeout core elem s
  | .vsetfill core w met => Sys2Proof.Machine.execVsetfill core w met s
  | .vstat core w met => Sys2Proof.Machine.execVstat core w met s
  | .lpload core w met => Sys2Proof.Machine.execLpload core w met s
  | .encoderCommand core w => Sys2Proof.Machine.execEncoderCommand core w s
  | .cellarTransfer core w => Sys2Proof.Machine.execCellarTransfer core w s
  | .cellarTransferEnd core late => Sys2Proof.Machine.execCellarTransferEnd core late s
  | .cellarTransferLate core moved late => Sys2Proof.Machine.execCellarTransferLate core moved late s
  | .rdpmc core index sreg => Sys2Proof.Machine.execRdpmc core index sreg s
  | .barrierArrive core ends => Sys2Proof.Machine.execBarrierArrive core ends s
  | .epochStart => Sys2Proof.Machine.execEpochStart s
  | .holdLatch copyB odd => Sys2Proof.Machine.execHoldLatch copyB odd s
  | .controlSlot slot => Sys2Proof.Machine.execControlSlot slot s
  | .controlFrameReceive at_ link frame => Sys2Proof.Machine.execControlFrameReceive at_ link frame s
  | .scheduleRealign => Sys2Proof.Machine.execScheduleRealign s
  | .segmentStart ctx seg cores cols => Sys2Proof.Machine.execSegmentStart ctx seg cores cols s
  | .hopEntryRun at_ entry n corr uncorr uncorr2 => Sys2Proof.Machine.execHopEntryRun at_ entry n corr uncorr uncorr2 s
  | .fabricModeChange scheduled => Sys2Proof.Machine.execFabricModeChange scheduled s
  | .servicePacket src dst sender flits => Sys2Proof.Machine.execServicePacket src dst sender flits s
  | .microBatchBoundary region failed => Sys2Proof.Machine.execMicroBatchBoundary region failed s
  | .repairRefetchComplete region => Sys2Proof.Machine.execRepairRefetchComplete region s
  | .prefetchFetch ctx => Sys2Proof.Machine.execPrefetchFetch ctx s
  | .crateLanding ctx entry failed => Sys2Proof.Machine.execCrateLanding ctx entry failed s
  | .readyGateOpen ctx pos waited => Sys2Proof.Machine.execReadyGateOpen ctx pos waited s
  | .weightFetchEnd ctx entry how => Sys2Proof.Machine.execWeightFetchEnd ctx entry how s
  | .repairPeerAnswer ctx crate answer => Sys2Proof.Machine.execRepairPeerAnswer ctx crate answer s
  | .repairPeerSilent ctx crate => Sys2Proof.Machine.execRepairPeerSilent ctx crate s
  | .repairDeadline ctx crate => Sys2Proof.Machine.execRepairDeadline ctx crate s
  | .stockroomRequestLate ctx crate link mb dest => Sys2Proof.Machine.execStockroomRequestLate ctx crate link mb dest s
  | .stockroomUncorrRead ctx crate again mb dest => Sys2Proof.Machine.execStockroomUncorrRead ctx crate again mb dest s
  | .cellarUncorrRead ctx crate granule mb => Sys2Proof.Machine.execCellarUncorrRead ctx crate granule mb s
  | .benchUncorrRead core granule again reader => Sys2Proof.Machine.execBenchUncorrRead core granule again reader s
  | .crateRebuild ctx crate contents => Sys2Proof.Machine.execCrateRebuild ctx crate contents s
  | .migrationStart ctx crate => Sys2Proof.Machine.execMigrationStart ctx crate s
  | .migrationSwitch ctx crate => Sys2Proof.Machine.execMigrationSwitch ctx crate s
  | .crateMapLost ctx => Sys2Proof.Machine.execCrateMapLost ctx s
  | .wipeComplete tier => Sys2Proof.Machine.execWipeComplete tier s
  | .teardownWipeComplete ctx => Sys2Proof.Machine.execTeardownWipeComplete ctx s
  | .sumReceive ctx src => Sys2Proof.Machine.execSumReceive ctx src s
  | .verdictReceive ctx module mb clean => Sys2Proof.Machine.execVerdictReceive ctx module mb clean s
  | .sumAgain ctx module tile failed => Sys2Proof.Machine.execSumAgain ctx module tile failed s
  | .sealedTileReceive ctx tile word elems => Sys2Proof.Machine.execSealedTileReceive ctx tile word elems s
  | .applyStart ctx => Sys2Proof.Machine.execApplyStart ctx s
  | .normReceive ctx module firstTile sum => Sys2Proof.Machine.execNormReceive ctx module firstTile sum s
  | .ledgerTileApply ctx tile => Sys2Proof.Machine.execLedgerTileApply ctx tile s
  | .applyComplete ctx => Sys2Proof.Machine.execApplyComplete ctx s
  | .beaconReceive ctx beacon => Sys2Proof.Machine.execBeaconReceive ctx beacon s
  | .commitDeadline ctx => Sys2Proof.Machine.execCommitDeadline ctx s
  | .recoveryWalk ctx sealedFrom tileFrom => Sys2Proof.Machine.execRecoveryWalk ctx sealedFrom tileFrom s
  | .replicaRebuild ctx tile answer => Sys2Proof.Machine.execReplicaRebuild ctx tile answer s
  | .rebuildStalled ctx => Sys2Proof.Machine.execRebuildStalled ctx s
  | .join port frame => Sys2Proof.Machine.execJoin port frame s
  | .commitRemoved port frame => Sys2Proof.Machine.execCommitRemoved port frame s
  | .withhold port frame => Sys2Proof.Machine.execWithhold port frame s
  | .scaleCopyRebuild ctx => Sys2Proof.Machine.execScaleCopyRebuild ctx s
  | .slotStart ctx => Sys2Proof.Machine.execSlotStart ctx s
  | .stagingCrateSend ctx chan => Sys2Proof.Machine.execStagingCrateSend ctx chan s
  | .handoff port frame => Sys2Proof.Machine.execHandoff port frame s
  | .handoffDeadline ctx => Sys2Proof.Machine.execHandoffDeadline ctx s
  | .swatchReadStart ctx => Sys2Proof.Machine.execSwatchReadStart ctx s
  | .swatchTileEnd ctx how answer => Sys2Proof.Machine.execSwatchTileEnd ctx how answer s
  | .swatchComplete ctx => Sys2Proof.Machine.execSwatchComplete ctx s
  | .regionDark region cause => Sys2Proof.Machine.execRegionDark region cause s
  | .foremanLost => Sys2Proof.Machine.execForemanLost s
  | .foremanTakeover => Sys2Proof.Machine.execForemanTakeover s
  | .baseDieUnitFail stack unit => Sys2Proof.Machine.execBaseDieUnitFail stack unit s
  | .channelRebuild ctx crate answer => Sys2Proof.Machine.execChannelRebuild ctx crate answer s
  | .healthEvaluate bench cellar lane chans => Sys2Proof.Machine.execHealthEvaluate bench cellar lane chans s
  | .secureStart ctx => Sys2Proof.Machine.execSecureStart ctx s
  | .secured ctx => Sys2Proof.Machine.execSecured ctx s
  | .secureFailed ctx reason => Sys2Proof.Machine.execSecureFailed ctx reason s
  | .secureImageReceive module size slotB offset bytes => Sys2Proof.Machine.execSecureImageReceive module size slotB offset bytes s
  | .hello port frame => Sys2Proof.Machine.execHello port frame s
  | .ack port frame => Sys2Proof.Machine.execAck port frame s
  | .verdict port frame => Sys2Proof.Machine.execVerdict port frame s
  | .beacon port frame => Sys2Proof.Machine.execBeacon port frame s
  | .norm port frame => Sys2Proof.Machine.execNorm port frame s
  | .sum port frame => Sys2Proof.Machine.execSum port frame s
  | .put port frame => Sys2Proof.Machine.execPut port frame s
  | .fetch port frame => Sys2Proof.Machine.execFetch port frame s
  | .data port frame => Sys2Proof.Machine.execData port frame s
  | .caravanRetryTime xid => Sys2Proof.Machine.execCaravanRetryTime xid s
  | .flowIdleRelease job src dst cls => Sys2Proof.Machine.execFlowIdleRelease job src dst cls s
  | .pfcPause port pcps on => Sys2Proof.Machine.execPfcPause port pcps on s
  | .portEnable m port => Sys2Proof.Machine.execPortEnable m port s
  | .portDisable m port => Sys2Proof.Machine.execPortDisable m port s
  | .retrain m port => Sys2Proof.Machine.execRetrain m port s
  | .portLock port lanes hello => Sys2Proof.Machine.execPortLock port lanes hello s
  | .trainingTimeout port => Sys2Proof.Machine.execTrainingTimeout port s
  | .laneLoss port lane => Sys2Proof.Machine.execLaneLoss port lane s
  | .retrainTimeout port => Sys2Proof.Machine.execRetrainTimeout port s
  | .osfpInsert port watts class200 => Sys2Proof.Machine.execOsfpInsert port watts class200 s
  | .osfpRemove port => Sys2Proof.Machine.execOsfpRemove port s
  | .vinUp vin => Sys2Proof.Machine.execVinUp vin s
  | .vinLost => Sys2Proof.Machine.execVinLost s
  | .ilkClose => Sys2Proof.Machine.execIlkClose s
  | .ilkOpen => Sys2Proof.Machine.execIlkOpen s
  | .prechargeComplete => Sys2Proof.Machine.execPrechargeComplete s
  | .prechargeFail => Sys2Proof.Machine.execPrechargeFail s
  | .vinHardLimit vin => Sys2Proof.Machine.execVinHardLimit vin s
  | .inputRange why => Sys2Proof.Machine.execInputRange why s
  | .coolReadyLost => Sys2Proof.Machine.execCoolReadyLost s
  | .fuseTrip region cause => Sys2Proof.Machine.execFuseTrip region cause s
  | .phaseFail region phase why => Sys2Proof.Machine.execPhaseFail region phase why s
  | .rampRequest region up => Sys2Proof.Machine.execRampRequest region up s
  | .rampGrant => Sys2Proof.Machine.execRampGrant s
  | .rampDeferTimeout region => Sys2Proof.Machine.execRampDeferTimeout region s
  | .rampComplete region => Sys2Proof.Machine.execRampComplete region s
  | .clockStepChange region => Sys2Proof.Machine.execClockStepChange region s
  | .powerSample watts vin => Sys2Proof.Machine.execPowerSample watts vin s
  | .thermalSample regions stackTemps converter vlog => Sys2Proof.Machine.execThermalSample regions stackTemps converter vlog s
  | .coolantSample supA retA flowA supB retB flowB => Sys2Proof.Machine.execCoolantSample supA retA flowA supB retB flowB s
  | .coolantLimit => Sys2Proof.Machine.execCoolantLimit s
  | .oscillatorFail a => Sys2Proof.Machine.execOscillatorFail a s
  | .boot => Sys2Proof.Machine.execBoot s
  | .waveStart => Sys2Proof.Machine.execWaveStart s
  | .regionTest region result => Sys2Proof.Machine.execRegionTest region result s
  | .regionTestTimeout region => Sys2Proof.Machine.execRegionTestTimeout region s
  | .stockroomTest failed => Sys2Proof.Machine.execStockroomTest failed s
  | .bringupFinish holdNetOk millis => Sys2Proof.Machine.execBringupFinish holdNetOk millis s
  | .inventoryWrite => Sys2Proof.Machine.execInventoryWrite s
  | .lifecycleRequest target serial nonce signer from_ => Sys2Proof.Machine.execLifecycleRequest target serial nonce signer from_ s
  | .nonceIssue nonce => Sys2Proof.Machine.execNonceIssue nonce s
  | .firmwareUpdate images from_ => Sys2Proof.Machine.execFirmwareUpdate images from_ s
  | .firmwareActivation from_ => Sys2Proof.Machine.execFirmwareActivation from_ s
  | .spdmRequest from_ req => Sys2Proof.Machine.execSpdmRequest from_ req s
  | .pldmRequest from_ sensor => Sys2Proof.Machine.execPldmRequest from_ sensor s
  | .redfishRequest from_ cert service => Sys2Proof.Machine.execRedfishRequest from_ cert service s
  | .sampleTag core kind pc word => Sys2Proof.Machine.execSampleTag core kind pc word s
  | .sampleRecordComplete core which ready exec end_ handoff retried held gated => Sys2Proof.Machine.execSampleRecordComplete core which ready exec end_ handoff retried held gated s
  | .sampleRecordWrite core => Sys2Proof.Machine.execSampleRecordWrite core s
  | .hostAccessError ring index error => Sys2Proof.Machine.execHostAccessError ring index error s
  | .hostLinkUp p => Sys2Proof.Machine.execHostLinkUp p s
  | .serviceCoreFail region count => Sys2Proof.Machine.execServiceCoreFail region count s
  | .keySlotRevoke slot signedBy => Sys2Proof.Machine.execKeySlotRevoke slot signedBy s
  | .helloResend port => Sys2Proof.Machine.execHelloResend port s
  | .crateMapCopyRebuild ctx => Sys2Proof.Machine.execCrateMapCopyRebuild ctx s
  | .coolReadyRestored => Sys2Proof.Machine.execCoolReadyRestored s

end Sys2Proof.Machine
end

