-- ==== Sys2Proof/Safety.lean ====
section
/-! DEFINITION. What a safe run is, and the terms that the statements use: the machine's sparse data is in canonical form, a
command answers a next state, and what two states have in common. -/

namespace Sys2Proof.Machine

/-- The data that the machine keeps as memory is in canonical form: host memory, the cellar and the stockroom. -/
def State.memWf (s : State) : Bool := s.host0.wf && s.host1.wf && s.cellar.wf && s.stock.wf

/-- The state answers its next command with a next state. -/
def State.goesOn (s : State) : Prop := ∃ t, step s = .next t

/-- The command answers a next state, of which `P` holds. -/
def Answers (c : Instr) (s : State) (P : State → Prop) : Prop := ∃ t, exec c s = .next t ∧ P t

/-- No byte of the cellar or the stockroom differs. -/
def TiersSame (s t : State) : Prop := (∀ a, t.cellar.byte a = s.cellar.byte a) ∧ ∀ a, t.stock.byte a = s.stock.byte a

/-- No byte of host memory differs. -/
def HostSame (s t : State) : Prop := (∀ a, t.host0.byte a = s.host0.byte a) ∧ ∀ a, t.host1.byte a = s.host1.byte a

/-- No byte of any of the module's memories, nor of the hosts', differs. -/
def MemSame (s t : State) : Prop := TiersSame s t ∧ HostSame s t

/-- No byte of host memory outside `n` bytes from `a` on at a port differs, nor any byte of the cellar or the stockroom. -/
def HostSameBut (s t : State) (port a n : Nat) : Prop :=
  TiersSame s t ∧ (∀ x, (port ≠ 0 ∨ x < a ∨ a + n ≤ x) → t.host0.byte x = s.host0.byte x) ∧
  ∀ x, (port = 0 ∨ x < a ∨ a + n ≤ x) → t.host1.byte x = s.host1.byte x

/-- Every register outside the list holds what it held. -/
def RegsSameBut (s t : State) (l : List Nat) : Prop := ∀ a, a ∉ l → t.reg a = s.reg a

/-- Every register holds what it held. -/
def RegsSame (s t : State) : Prop := ∀ a, t.reg a = s.reg a

/-- Every core but one is as it was. -/
def CoresSameBut (s t : State) (k : Nat) : Prop := ∀ j, j ≠ k → t.core j = s.core j

/-- The bench bytes of a core outside `n` bytes from `a` on are as they were. -/
def BenchSameBut (s t : State) (k a n : Nat) : Prop := ∀ x, (x < a ∨ a + n ≤ x) → (t.core k).bench.byte x = (s.core k).bench.byte x

/-- How a taken descriptor has completed, if it has. -/
def State.resultOf (s : State) (c no : Nat) : Option DescResult := (s.desc c no).bind (·.result)

/-- A register write of a master reaches its register: the host registers are open, the module READY, the context no other
port's, the port fitted (R439, R440, R531, R7). -/
def State.admits (s : State) (m : Master) (a : Nat) : Bool :=
  (match masterPort m with
    | some p => s.hostOpen && !s.foreign p a && (s.ready || a == MOD_CONTROL || a == MOD_BRINGUP_CONTROL)
    | none => true) && !(inWin 0x600100 0x400 a && decide (s.ports ≤ (a - 0x600100) / 0x40))

/-- The registers in which the events of a core are counted (R561). -/
def counterRegs (k : Nat) : List Nat := ((List.range 8).map fun n => CORE_PMC k n) ++ [CORE_PERF_STATUS k]

/-- No instruction of a tile queue waits whose turn has come (R145). -/
def settled (ops : List TileOp) : Prop :=
  ∀ (pre post : List TileOp) (o : TileOp), ops = pre ++ o :: post → tileReady pre o = false

/-- A core's memories and files are in canonical form, and no tile instruction waits whose turn has come. -/
def Core.wf (c : Core) : Prop :=
  c.bench.wf = true ∧ spWf zeroW c.vregs = true ∧ spWf (fun _ => false) c.mregs = true ∧
  (∀ a, spWf zeroW (c.acc a).elems = true) ∧
  (∀ o ∈ c.ops, ∀ p fl, o.stage = .passed p fl → spWf zeroW p = true) ∧ settled c.ops

/-- Every core is in canonical form. -/
def State.coresWf (s : State) : Prop := ∀ k, (s.core k).wf

/-- No context, region, core or ring differs. -/
def HoldingsSame (s t : State) : Prop := t.ctxs = s.ctxs ∧ t.regions = s.regions ∧ t.cores = s.cores ∧ t.rings = s.rings

/-- Of cores, regions, rings and contexts, nothing differs but context `c`. -/
def OthersSame (s t : State) (c : Nat) : Prop :=
  t.cores = s.cores ∧ t.regions = s.regions ∧ t.rings = s.rings ∧ ∀ e, e ≠ c → t.ctx e = s.ctx e

/-- Of cores, regions, rings and contexts, nothing differs but descriptor `no` of context `c`. -/
def OnlyDesc (s t : State) (c no : Nat) : Prop :=
  t.ctx c = { s.ctx c with taken := (t.ctx c).taken } ∧ (∀ m, m ≠ no → t.desc c m = s.desc c m) ∧ OthersSame s t c

/-- Of context `c`, nothing but its descriptors and its crates' COUNT differs from `x`, and of the rest nothing but registers: those
of `l`, and the flags and the count that reads of unmapped and retired crates leave (R288, R291, R301). -/
def ReadsOf (s t : State) (c : Nat) (x : Ctx) (l : List Nat) : Prop :=
  t.ctx c = { x with taken := (t.ctx c).taken, map := (t.ctx c).map } ∧
  (∀ n, setFld (t.entry c n) 8 8 0 = setFld (s.entry c n) 8 8 0) ∧
  RegsSameBut s t ([CTX_MEM_STATUS c, CTX_TIER_ENDS c] ++ l) ∧ OthersSame s t c ∧ MemSame s t

/-- Whether element `e` of a vector instruction is active (R210). -/
def VInstr.activeAt (i : VInstr) (c : Core) (e : Nat) : Bool := !i.masken || c.mbit i.mreg e

/-- What element `e` of a vector instruction reads as VB (R205). -/
def VInstr.bAt (i : VInstr) (c : Core) (e : Nat) : W32 := c.velem i.vb (if i.bcast then e / 64 else e)

/-- What a legal vector instruction with COUNT at most 8,192 changes at most: the registers of its core's events and of its
region's lanes, and its own core (R205, R223, R239). -/
def VecFrame (s t : State) (k : Nat) : Prop :=
  RegsSameBut s t (counterRegs k ++ [REGION_LANE_STATUS (regionOfPhys k), REGION_LANE_RETRY (regionOfPhys k),
    REGION_LANE_FAIL (regionOfPhys k), REGION_LANE_CORR (regionOfPhys k), HEALTH_FAULTS_TRANSIENT, HEALTH_FAULTS_LASTING]) ∧
  CoresSameBut s t k ∧ MemSame s t

/-- A core as the sequencer leaves it when it issues a vector instruction: the scalar registers written in order, the observations
noted for its micro-batch, and at the start of a layer's pass the generators seeded (R173, R181, R201). -/
def State.vecCore (s : State) (k : Nat) (met : LaneMet) : Core :=
  let x := met.scalars.foldl (fun c w => c.setSreg w.1 w.2) (s.core k)
  let x := { x with obs := x.obs ++ met.notes.map fun e => (e.1, x.mb, e.2.toNat) }
  match met.layer, (s.region (regionOfPhys k)).owner.bind fun c => (s.ctx c).step, s.logical k with
  | some n, some st, some l => { x with gens := (List.range 64).foldl (fun g j =>
      spSet (fun _ => genReset) g j (genSeed st.seed x.mb n x.pass l j)) x.gens }
  | _, _, _ => x

/-- Nothing keeps an instruction that reads these granules from being issued (R204, R623): none waits before it, and no TDRAIN is
still to write what it reads. -/
def Core.free (c : Core) (reads : List (Nat × Nat)) : Prop :=
  c.waiting = [] ∧ ∀ e ∈ reads, ∀ o ∈ c.ops, ∀ d clr dfmt, o.kind = .drain d clr dfmt → e.1 + e.2 ≤ d ∨ d + 513 ≤ e.1

/-- A word is the legal instruction with this opcode, COUNT at most 8,192, for a core in canonical form where nothing keeps it from
being issued. -/
def State.runsVec (s : State) (core : Fin 7680) (w : W64) (opc : Nat) (met : LaneMet) : Prop :=
  let i := VInstr.ofWord w
  (s.core (s.phys core)).wf ∧ i.opc = opc ∧ i.legal = true ∧ i.count ≤ 8192 ∧
  (s.core (s.phys core)).free (i.loads (s.vecCore (s.phys core) met))

/-- Elements of VD below COUNT take `f` where active and not failed, 0 where inactive under ZERO, and else keep their value;
every other element of every register keeps its value (R209, R210, R239). -/
def WritesElems (x y : Core) (i : VInstr) (vd : Nat) (failed : List Nat) (f : Nat → W32) : Prop :=
  (∀ e, e < i.count → y.velem vd e =
    if i.activeAt x e = true then (if failed.contains e then x.velem vd e else f e)
    else if i.zero then 0#32 else x.velem vd e) ∧
  (∀ e, i.count ≤ e → e < 8192 → y.velem vd e = x.velem vd e) ∧
  ∀ v e, v ≠ vd → e < 8192 → y.velem v e = x.velem v e

/-- Each lane's status gains what its active elements that did not fail set (R223). -/
def SetsLanes (x y : Core) (i : VInstr) (failed : List Nat) (f : Nat → Nat) : Prop :=
  ∀ j, j < 64 → y.lstat j = x.lstat j ||| BitVec.ofNat 16 (orAll
    (((List.range i.count).filter fun e => e % 64 == j && i.activeAt x e && !failed.contains e).map f))

/-- The region's lane status shows every bit that an active element that did not fail sets (R223). -/
def ShowsLanes (t : State) (k : Nat) (x : Core) (i : VInstr) (failed : List Nat) (f : Nat → Nat) : Prop :=
  ∀ e b, e < i.count → i.activeAt x e = true → failed.contains e = false → bitAt (BitVec.ofNat 32 (f e)) b = true →
    t.regBit (REGION_LANE_STATUS (regionOfPhys k)) b = true

/-- Bits of MD below COUNT take `f` where active and not failed, 0 where inactive under ZERO, and else keep their value; every other
bit keeps its value (R209, R210, R239). -/
def WritesBits (x y : Core) (i : VInstr) (failed : List Nat) (f : Nat → Bool) : Prop :=
  (∀ e, e < i.count → y.mbit i.vd e =
    if i.activeAt x e = true then (if failed.contains e then x.mbit i.vd e else f e) else if i.zero then false else x.mbit i.vd e) ∧
  (∀ e, i.count ≤ e → e < 8192 → y.mbit i.vd e = x.mbit i.vd e) ∧ ∀ v e, v ≠ i.vd → e < 8192 → y.mbit v e = x.mbit v e

/-- The command that a vector instruction's word belongs to: its opcode's, and VNOP's for a reserved opcode (R205). -/
def vecInstr (core : Fin 7680) (w : W64) (met : LaneMet) : Instr :=
  match (VInstr.ofWord w).opc with
  | 0x01 => .vadd core w met
  | 0x02 => .vsub core w met
  | 0x03 => .vmul core w met
  | 0x04 => .vfma core w met
  | 0x05 => .vdiv core w met
  | 0x06 => .vmax core w met
  | 0x07 => .vmin core w met
  | 0x08 => .vabs core w met
  | 0x09 => .vneg core w met
  | 0x0A => .vaddw core w met
  | 0x0B => .vand core w met
  | 0x0C => .vor core w met
  | 0x0D => .vxor core w met
  | 0x10 => .vexp2 core w met
  | 0x11 => .vlog2 core w met
  | 0x12 => .vrcp core w met
  | 0x13 => .vrsqrt core w met
  | 0x18 => .vcmp core w met
  | 0x19 => .vsel core w met
  | 0x1A => .vmop core w met
  | 0x20 => .vcvt core w met
  | 0x21 => .vcvts core w met
  | 0x22 => .scaleb core w met
  | 0x30 => .vld core w met
  | 0x31 => .vst core w met
  | 0x32 => .vgather core w met
  | 0x33 => .vscatter core w met
  | 0x34 => .vscatadd core w met
  | 0x35 => .vldx core w met
  | 0x36 => .vstc core w met
  | 0x37 => .vldm core w met
  | 0x38 => .vperm core w met
  | 0x39 => .vcompress core w met
  | 0x3A => .vexpand core w met
  | 0x3B => .vbcast core w met
  | 0x3C => .vstm core w met
  | 0x40 => .vred core w met
  | 0x41 => .vscan core w met
  | 0x50 => .vnorm core w met
  | 0x51 => .vsoftmax core w met
  | 0x52 => .vloss core w met
  | 0x53 => .vresadd core w met
  | 0x60 => .lprog core w met
  | 0x61 => .vsetfill core w met
  | 0x62 => .vstat core w met
  | 0x63 => .lpload core w met
  | _ => .vnop core w met

/-- The opcode of the command that a vector instruction's word belongs to. -/
def vecOpc (w : W64) : Nat := if vOpcodes.contains (VInstr.ofWord w).opc then (VInstr.ofWord w).opc else 0

/-- The core's parts that no vector instruction but a few names: accumulators and their queue, FILL, program store, bench. -/
def CoreRest (x y : Core) : Prop :=
  y.accs = x.accs ∧ y.ops = x.ops ∧ y.fill = x.fill ∧ y.lstore = x.lstore ∧ y.lregs = x.lregs ∧ y.bench = x.bench ∧ y.poison = x.poison

/-- The core's masks, scalars and generators. -/
def ScalarsSame (x y : Core) : Prop := y.mregs = x.mregs ∧ y.sregs = x.sregs ∧ y.gens = x.gens

/-- A lane generator after `n` draws (R173). -/
def drawMany (g : W64) : Nat → W64
  | 0 => g
  | n + 1 => drawMany (genDraw g).1 n

/-- How many of the elements below `e` satisfy `p`. -/
def countBelow (p : Nat → Bool) (e : Nat) : Nat := ((List.range e).filter p).length

/-- A frame of type `ty` at a port is one that the port delivers to context `c`: it is addressed to the port, it passes the checks of
R478, R482 and R483, and its sender is an admitted peer (R489, R497). -/
def State.accepts (s : State) (p ty c : Nat) (f : Frame) : Bool :=
  s.ready && s.portUp p && f.etype.toNat == s.regFld CARAVAN_ETHERTYPE 0 16 && f.dst == s.moduleId && f.dmac == macOf s.moduleId p &&
  f.type_ == ty && s.frameGood f && s.caravan.peers.any (fun e => e.module == f.src) && s.jobCtx f.job == some c

/-- A frame of classes 1 to 3 is the next one of its flow (R493). -/
def State.inTurn (s : State) (f : Frame) : Prop :=
  match s.caravan.rx.find? fun r => r.job == f.job && r.src == f.src && r.cls == f.cls with
  | some r => f.seq = r.expect
  | none => f.seq = 0 ∧ s.caravan.tx.length + s.caravan.rx.length < 16384

/-- A flow of this module holds a frame of type `ty` for a module, in answer to the frame `f`, that satisfies `P`. -/
def State.repliesTo (s : State) (f : Frame) (ty : Nat) (P : Frame → Prop) : Prop :=
  ∃ x ∈ s.caravan.tx, x.dst = f.src ∧ ∃ g ∈ x.unacked ++ x.waiting, g.type_ = ty ∧ g.xid = f.xid ∧ P g

/-- The last frame that has left acknowledges the class 0 frame `f`. -/
def State.acked (s : State) (f : Frame) : Prop :=
  ∃ p g, s.out.getLast? = some (.frame p g) ∧ g.type_ = 2 ∧ g.xid = f.xid ∧ g.dst = f.src

end Sys2Proof.Machine
end

