-- ==== Sys2Proof/Certificates/Slice0/Obligations.lean ====
section
/-! DEFINITION. The statements about the module. Each formalises rules of the spec, which its docstring and its entry in
OBLIGATIONS.json name. -/

open Sys2Proof Sys2Proof.Machine

/-! The machine as a whole. -/

/-- Step takes the command at the front of the queue, and answers what exec answers on the state with the queue's rest. -/
def Obligations.StepRunsTheFrontCommand : Prop :=
  ∀ (c : Instr) (rest : List Instr) (s : State), s.pending = c :: rest → step s = exec c { s with pending := rest }

/-- No command stops the module: every command answers a next state in every state. -/
def Obligations.EveryCommandAnswersNext : Prop := ∀ (c : Instr) (s : State), ∃ t, exec c s = .next t

/-- Every step keeps the canonical form of host memory, the cellar and the stockroom. -/
def Obligations.StepKeepsCanonicalMemory : Prop := ∀ s t : State, s.memWf = true → step s = .next t → t.memWf = true

/-- At reset the memories are in canonical form, and every byte of them reads 0 (that unwritten bytes read 0 is the model's
choice of assumption 3 for host memory; R304 wipes the tiers), and so is every core. Every register of BAR0 holds its reset value,
no write is staged, no context exists and no ring is enabled; the values of R472, R548 and R528 are written out for the module's own
registers. -/
def Obligations.ResetState : Prop :=
  (State.reset.coresWf ∧ State.reset.memWf = true ∧ ∀ a, State.reset.cellar.byte a = 0#8 ∧ State.reset.stock.byte a = 0#8 ∧
     State.reset.host0.byte a = 0#8 ∧ State.reset.host1.byte a = 0#8) ∧
  ((∀ a, State.reset.reg a = regReset a ∧ State.reset.eff a = regReset a) ∧
   (∀ c, State.reset.ctxState c = 0) ∧ (∀ n, State.reset.ringOn n = false) ∧
   State.reset.reg CARAVAN_ETHERTYPE = 0x88B6#32 ∧ State.reset.reg CARAVAN_RETRY_TIME = 50#32 ∧
   State.reset.reg CARAVAN_RETRY_COUNT = 8#32 ∧ State.reset.reg POWER_CAP = 32000#32 ∧
   (∀ r, r < 64 → State.reset.powerOf r = 3 ∧ State.reset.regFld (REGION_ROWMAP r) 0 4 = 10 ∧
     State.reset.regFld (REGION_CLOCK_REQ r) 0 5 = 16) ∧
   (∀ r i, r < 64 → i < 11 → State.reset.regFld (REGION_COLMAP r i) 0 4 = 12))

/-- A step takes exactly the front command, and no command changes the module's ordering code, stepping or serial number. With no
command waiting the module idles, by the model's choice (assumption 1): nothing changes; and a word of no row changes nothing
either, since the table gives its rows no bits. -/
def Obligations.QueueIsTakenInOrder : Prop :=
  (∀ s t : State, step s = .next t →
     t.pending = s.pending.tail ∧ t.variant = s.variant ∧ t.stepping = s.stepping ∧ t.serial = s.serial) ∧
  ((∀ s : State, s.pending = [] → step s = .next s) ∧ ∀ (s : State) (nbits w : Nat), s.withFetchWord nbits w = s)

/-! Host rings. -/

/-- A doorbell: dropped for a cause of R452 it is counted in all three counters and leaves the ring as it was; else it
puts a submission ring's producer index, or another ring's consumer index, at INDEX; one whose INDEX is the present index
changes nothing. -/
def Obligations.DoorbellMovesAnIndexOrIsDropped : Prop :=
  ∀ (p : HostPort) (addr : BitVec 26) (size : Nat) (val : W64) (s : State), s.hostOpen = true →
    let c := addr.toNat / 0x100000
    let n := addr.toNat % 0x100000 / 64
    let idx := fld val 0 16
    (∀ cause, s.bellCause p addr.toNat size val = some cause → Answers (.doorbell p addr size val) s fun t =>
      t.reg (CTX_DOORBELL_DROPS c) = s.reg (CTX_DOORBELL_DROPS c) + 1#32 ∧
      t.reg MOD_DOORBELL_DROPS = s.reg MOD_DOORBELL_DROPS + 1#32 ∧ t.reg (RING_DROPS n) = s.reg (RING_DROPS n) + 1#32 ∧
      t.regBit (CTX_HOST_FLAGS c) 0 = true ∧ t.regBit MOD_HOST_FLAGS 4 = true ∧ t.ring n = s.ring n ∧
      RegsSameBut s t [CTX_DOORBELL_DROPS c, MOD_DOORBELL_DROPS, RING_DROPS n, CTX_HOST_FLAGS c, MOD_HOST_FLAGS] ∧ MemSame s t) ∧
    (s.bellCause p addr.toNat size val = none →
      (s.ringKind n = 1 → idx ≠ s.prod n % s.ringDepth n → Answers (.doorbell p addr size val) s fun t =>
        t.prod n = idx ∧ (t.ring n).urgent = bitAt val 63 ∧ t.bells = s.bells + 1 ∧ RegsSameBut s t [RING_PROD n] ∧ MemSame s t) ∧
      (s.ringKind n = 1 → idx = s.prod n % s.ringDepth n → exec (.doorbell p addr size val) s = .next s) ∧
      (s.ringKind n ≠ 1 → Answers (.doorbell p addr size val) s fun t =>
        t.cons n = idx ∧ t.ring n = s.ring n ∧ RegsSameBut s t [RING_CONS n, RING_STATUS n] ∧ MemSame s t))

/-- A descriptor is taken from the ring whose turn it is: the 64 bytes at its consumer index, which moves on; one that uses
a reserved opcode, field or value completes REFUSED with reason RESERVED. -/
def Obligations.DescriptorIsTaken : Prop :=
  ∀ (s : State) (c n : Nat), s.modState = 0 → s.ready = true → (s.foremanOn = true ∨ s.regBit HEALTH_FOREMAN 6 = true) →
    s.nextCtx = some c → s.nextRing c = some n → Answers .descriptorTake s fun t =>
      ∃ d : Desc, (t.ctx c).taken = (s.ctx c).taken ++ [d] ∧ d.ring = n ∧ d.index = s.cons n ∧ d.readable = true ∧
        d.words = BitVec.ofNat 512 (leNat (s.hostRead (s.ctxPort c) ((s.ringBase n + 64 * s.cons n) % 2 ^ 64) 64)) ∧
        (d.reserved = true → d.result = some ⟨3, 0, 0x01, 0⟩) ∧ (d.reserved = false → d.started = false ∧ d.result = none) ∧
        t.reg (RING_CONS n) = w32 ((s.cons n + 1) % s.ringDepth n) ∧ t.foreman.turn = c ∧
        RegsSameBut s t [RING_CONS n] ∧ MemSame s t ∧ t.cores = s.cores ∧ t.regions = s.regions ∧
        (∀ q, q ≠ n → t.ring q = s.ring q) ∧ ∀ e, e ≠ c → t.ctx e = s.ctx e

/-- A completion is written once its descriptor is complete and its completion ring has room: the 32 bytes of R462 with
the ring's PHASE at the producer index. In an enabled context the producer index moves on and the descriptor is gone; a
torn-down context whose last entry is written is free again. The oldest waiting event of a context is written, LOST in it when an
earlier one was lost, or else is lost and counted; a window of R429 that closes reports its repeats in one entry; and an interrupt
is signalled for the entries not signalled yet. -/
def Obligations.RingsAreWritten : Prop :=
  (∀ (ring : Fin 16384) (s : State) (d : Desc) (r : DescResult),
     let c := s.ringCtx ring
     let q := s.ringPair ring
     let a := (s.ringBase q + 32 * s.prod q) % 2 ^ 64
     (s.ctx c).taken.find? (fun d => d.ring == ring.val) = some d → d.result = some r →
     s.foreman.takeover = none → s.foreman.lost = none → s.ringFull q = false → s.ringOn q = true →
     ((s.ctx c).tearDesc = some d.no → (s.ctx c).taken.length ≤ 1) →
     (Answers (.completionWrite ring) s fun t =>
       t.hostRead (s.ctxPort (s.ringCtx q)) a 32 = leBytes 32 (setFld (d.entry r) 0 1 (s.regFld (RING_STATUS q) 3 1)).toNat ∧
       HostSameBut s t (s.ctxPort (s.ringCtx q)) a 32) ∧
     (s.ctxState c ≠ 2 → Answers (.completionWrite ring) s fun t =>
       t.reg (RING_PROD q) = w32 ((s.prod q + 1) % s.ringDepth q) ∧ (t.ctx c).taken = (s.ctx c).taken.erase d ∧
       RegsSameBut s t [RING_PROD q, RING_STATUS q, CTX_HOST_FLAGS c]) ∧
     (s.ctxState c = 2 → s.wipes.contains c = false → (s.ctx c).taken = [d] → Answers (.completionWrite ring) s fun t =>
       t.ctxState c = 0 ∧ t.ctxRegions c = [] ∧ (t.ctx c) = Ctx.reset)) ∧
  ((∀ (ctx : Fin 64) (s : State) (e : Event) (rest : List Event), (s.ctx ctx).events = e :: rest →
     let n := s.effFld (CTX_EVENT_RING ctx) 0 14
     let a := (s.ringBase n + 32 * s.prod n) % 2 ^ 64
     let room := bitAt (s.eff (CTX_EVENT_RING ctx)) 31 = true ∧ s.ringOn n = true ∧ s.ringKind n = 3 ∧ s.ringCtx n = ctx.val ∧
       s.ctxState ctx ≠ 0 ∧ s.ringFull n = false
     (room → Answers (.eventWrite ctx) s fun t =>
       t.hostRead (s.ctxPort ctx) a 32 =
         leBytes 32 (setFld (e.entry (s.ctx ctx).lost) 0 1 (s.regFld (RING_STATUS n) 3 1)).toNat ∧
       HostSameBut s t (s.ctxPort ctx) a 32 ∧ t.reg (RING_PROD n) = w32 ((s.prod n + 1) % s.ringDepth n) ∧
       (t.ctx ctx).events = rest ∧ (t.ctx ctx).lost = false ∧ RegsSameBut s t [RING_PROD n, RING_STATUS n]) ∧
     (¬ room → Answers (.eventWrite ctx) s fun t =>
       (t.ctx ctx).events = rest ∧ (t.ctx ctx).lost = true ∧
       t.reg (CTX_EVENT_LOST ctx) = s.reg (CTX_EVENT_LOST ctx) + 1#32 ∧ t.regBit (CTX_HOST_FLAGS ctx) 2 = true ∧
       RegsSameBut s t [CTX_EVENT_LOST ctx, CTX_HOST_FLAGS ctx] ∧ MemSame s t)) ∧
   (∀ (ctx : Fin 64) (code : BitVec 16) (d0 : W32) (s : State) (w : EventWin) (rest : List EventWin),
     takeFirst (fun w : EventWin => w.last.code == code.toNat && w.last.d0 == d0) (s.ctx ctx).windows = some (w, rest) →
     Answers (.eventRepeatWindowClose ctx code d0) s fun t =>
       (w.reps = 0 → (t.ctx ctx).events = (s.ctx ctx).events ∧ (t.ctx ctx).windows = rest) ∧
       (w.reps ≠ 0 → (t.ctx ctx).events = (s.ctx ctx).events ++ [{ w.last with rep := min w.reps 65535 }] ∧
         (t.ctx ctx).windows = rest ++ [{ w with reps := 0 }]) ∧ RegsSame s t ∧ MemSame s t) ∧
   (∀ (ring : Fin 16384) (timed : Bool) (s : State), s.ringOn ring = true → s.ringKind ring ≠ 1 →
     bitAt (s.reg (RING_IRQ ring)) 11 = true → 0 < (s.ring ring).unsig →
     (timed = true ∨ max 1 (s.regFld (RING_IRQ ring) 12 8) ≤ (s.ring ring).unsig ∨ s.regFld (RING_IRQ ring) 20 12 = 0) →
     Answers (.ringIrqSignal ring timed) s fun t =>
       t.out = s.out ++ [.msix (if s.ctxPort (s.ringCtx ring) = 0 then .h0 else .h1) (s.regFld (RING_IRQ ring) 0 11)] ∧
       (t.ring ring).unsig = 0 ∧ RegsSame s t ∧ MemSame s t))

/-- A ring is enabled with both indices 0 and write phase 1 where R447 allows it; an enabled one is left as it is, and one that is
draining, or where R447 does not allow it, is refused. A submission ring drains; a completion ring that an enabled submission ring
names is refused; another completion ring and an event ring are disabled at once, and so is a drained ring. A disabled ring's
indices are 0. No other ring changes. -/
def Obligations.RingsStartAndStop : Prop :=
  (∀ (p : HostPort) (ring : Fin 16384) (s : State), s.hostOpen = true → s.ready = true →
    s.foreign (portNo p) (RING_ENABLE ring) = false →
    let c := s.ringCtx ring
    let kind := s.ringKind ring
    let good := kind ≠ 0 ∧ 4 ≤ s.ringSize ring ∧ s.ringSize ring ≤ 16 ∧ s.ctxOn c = true ∧ s.ctxPort c = portNo p ∧
      s.ringUse c < s.regFld (CTX_QUOTA_RINGS c) 0 15 ∧
      (kind = 1 → s.ringOn (s.ringPair ring) = true ∧ s.ringKind (s.ringPair ring) = 2 ∧ s.ringCtx (s.ringPair ring) = c)
    let named := s.rings.any fun e => e.2.on && s.ringKind e.1 == 1 && s.ringPair e.1 == ring.val
    let refused (t : State) : Prop :=
      t.regBit (CTX_HOST_FLAGS c) 3 = true ∧ t.rings = s.rings ∧ RegsSameBut s t [CTX_HOST_FLAGS c] ∧ MemSame s t
    let stopped (t : State) : Prop :=
      t.ringOn ring = false ∧ t.prod ring = 0 ∧ t.cons ring = 0 ∧ t.draining ring = false ∧
      RegsSameBut s t [RING_PROD ring, RING_CONS ring, RING_STATUS ring, RING_ENABLE ring] ∧ MemSame s t ∧
      ∀ n, n ≠ ring.val → t.ring n = s.ring n
    (s.draining ring = false → s.ringOn ring = false → good → Answers (.ringEnable p ring) s fun t =>
      t.ringOn ring = true ∧ t.prod ring = 0 ∧ t.cons ring = 0 ∧ t.regFld (RING_STATUS ring) 3 1 = 1 ∧
      t.reg (RING_ENABLE ring) = 1#32 ∧
      RegsSameBut s t [RING_PROD ring, RING_CONS ring, RING_STATUS ring, RING_ENABLE ring] ∧ MemSame s t ∧
      ∀ n, n ≠ ring.val → t.ring n = s.ring n) ∧
    (s.draining ring = false → s.ringOn ring = true → Answers (.ringEnable p ring) s fun t =>
      t.rings = s.rings ∧ RegsSame s t ∧ MemSame s t) ∧
    ((s.draining ring = true ∨ s.ringOn ring = false ∧ ¬ good) → Answers (.ringEnable p ring) s refused) ∧
    (s.ringOn ring = true → kind = 1 → Answers (.ringDrain p ring) s fun t =>
      t.draining ring = true ∧ t.rings = s.rings ∧ t.reg (RING_ENABLE ring) = 0#32 ∧
      RegsSameBut s t [RING_STATUS ring, RING_ENABLE ring] ∧ MemSame s t) ∧
    (s.ringOn ring = true → kind = 2 → named = true → Answers (.ringDrain p ring) s refused) ∧
    (s.ringOn ring = true → (kind = 3 ∨ kind = 2 ∧ named = false) → Answers (.ringDrain p ring) s stopped)) ∧
  (∀ (ring : Fin 16384) (s : State), s.drained ring = true → Answers (.ringDrainComplete ring) s fun t =>
    t.ringOn ring = false ∧ t.prod ring = 0 ∧ t.cons ring = 0 ∧ t.draining ring = false ∧
    RegsSameBut s t [RING_PROD ring, RING_CONS ring, RING_STATUS ring, RING_ENABLE ring] ∧ MemSame s t ∧
    ∀ n, n ≠ ring.val → t.ring n = s.ring n)

/-! Descriptors. -/

/-- A FENCE and a QUERY complete OK; a QUERY writes COUNT records from FIRST on, of its kind's size and contents, at HADDR on, and
RESULT is COUNT. Nothing else differs but the descriptor, and of the directory's QUERY the marks of its reads: the crates' COUNT and
the flags of reads of unmapped or retired crates. -/
def Obligations.FenceAndQueriesComplete : Prop :=
  (∀ (ring : Fin 16384) (index : Fin 65536) (s : State) (c : Nat) (d : Desc), s.ready? ring index 7 = some (c, d) →
    Answers (.fence ring index) s fun t => t.resultOf c d.no = some ⟨0, 0, 0, 0⟩ ∧ OnlyDesc s t c d.no ∧ RegsSame s t ∧ MemSame s t) ∧
  (∀ (ring : Fin 16384) (index : Fin 65536) (s : State) (c : Nat) (d : Desc), s.ready? ring index 8 = some (c, d) →
    d.reserved = false →
    let first := d.f 192 32
    let count := d.f 224 32
    let port := s.ctxPort c
    let at_ (size i : Nat) : Nat := (d.f 128 64 + size * i) % 2 ^ 64
    let wrote (size : Nat) (record : Nat → Nat) (t : State) : Prop :=
      t.resultOf c d.no = some ⟨0, 0, 0, count⟩ ∧
      (∀ i, i < count → t.hostRead port (at_ size i) size = leBytes size (record (first + i))) ∧
      (d.f 128 64 + size * count ≤ 2 ^ 64 → HostSameBut s t port (d.f 128 64) (size * count)) ∧ TiersSame s t
    let done (size : Nat) (record : Nat → Nat) (t : State) : Prop := wrote size record t ∧ OnlyDesc s t c d.no ∧ RegsSame s t
    (d.f 64 8 = 1 → Answers (.queryCrateMap ring index) s (done 8 fun n => (s.mapEntry c n).toNat)) ∧
    (d.f 64 8 = 2 → Answers (.queryCtxWindow ring index) s
      (done 1024 fun _ => (s.shownWindow c (0x20000 + c * 0x400) 256).1)) ∧
    (d.f 64 8 = 3 → Answers (.querySinkTable ring index) s (done 32 fun n =>
      let k := (s.ctx c).sink n
      if n < 16 ∧ k.on = true then k.base + (k.size <<< 64) + 2 ^ 128 else 0)) ∧
    (d.f 64 8 = 4 → Answers (.queryRingWindows ring index) s (done 64 fun n =>
      if n < 16384 ∧ s.regFld (RING_CONFIG n) 0 2 ≠ 0 ∧ s.ringCtx n = c then (s.shownWindow c (0x100000 + n * 64) 16).1 else 0)) ∧
    (d.f 64 8 = 5 → Answers (.queryProgramSlots ring index) s (done 32 fun n =>
      match spGet (fun _ => none) (s.ctx c).slots n with
      | some p => p.icrate + ((match (s.ctx c).step with
          | some st => if st.slot = n then st.variant.getD 0 else 0
          | none => 0) <<< 32) + 2 ^ 39
      | none => 0)) ∧
    (d.f 64 8 = 6 → Answers (.queryScaleLedger ring index) s
      (done 32 fun n => (spGet (fun _ => 0#256) (s.ctx c).scaleA n).toNat)) ∧
    (d.f 64 8 = 7 → Answers (.queryLedgerDirectory ring index) s fun t =>
      wrote 32 (fun n => s.tensorNat c ((s.reg (STREAM_LEDGER_DIR c)).toNat * 65536 + 32 * n) 32) t ∧
      RegsSameBut s t [CTX_MEM_STATUS c, CTX_TIER_ENDS c] ∧ OthersSame s t c ∧ (t.ctx c).step = (s.ctx c).step))

/-- ASSIGN and REMOVE change the owner of the regions named, or are refused with reason REGION when one of them is dark or
another context's, or when a REMOVE would leave the cellar quota or a cellar crate without its regions. SINK_SET registers an
address range when it is aligned to 4 KiB and is else refused with reason RESERVED; SINK_CLEAR clears it, and waits while a swatch
of the context uses it. CANCEL takes every descriptor of the ring named between RING_CONS and the producer index that the ring had
when the CANCEL was taken; each completes CANCELLED, in ring order, and RESULT counts them. One that names its own ring or another context's is refused with reason RESERVED.
TEARDOWN puts its context into the tearing-down state, with its step, swatch and securing ended, and a wipe in progress. -/
def Obligations.ContextCommandsTakeEffect : Prop :=
  ((∀ (ring : Fin 16384) (index : Fin 65536) (s : State) (c : Nat) (d : Desc), s.ready? ring index 9 = some (c, d) →
      let named := markedRegions (d.f 128 64)
      let taken (r : Nat) : Prop := s.isDark r = true ∨ ((s.region r).owner ≠ none ∧ (s.region r).owner ≠ some c)
      let held := named.filter fun r => (s.region r).owner == some c
      let refused (t : State) : Prop := t.resultOf c d.no = some ⟨3, 0, 0x0A, 0⟩ ∧ (∀ r, t.region r = s.region r) ∧ RegsSame s t ∧ MemSame s t
      (d.f 64 8 = 1 →
        ((∀ r ∈ named, ¬ taken r) → Answers (.assign ring index) s fun t =>
          t.resultOf c d.no = some ⟨0, 0, 0, 0⟩ ∧ (∀ r ∈ named, (t.region r).owner = some c) ∧
          (∀ r, r ∉ named → t.region r = s.region r) ∧ MemSame s t ∧ ∀ e, e ≠ c → t.ctx e = s.ctx e) ∧
        ((∃ r ∈ named, taken r) → Answers (.assign ring index) s refused)) ∧
      (d.f 64 8 = 2 →
        let short := 2618880 * ((s.ctxRegions c).length - held.length) < s.regFld (CTX_QUOTA_CELLAR c) 0 28 ∨
          ∃ r ∈ held, s.cellarHolds c r = true
        ((∀ r ∈ named, ¬ taken r) → ¬ short → Answers (.remove ring index) s fun t =>
          t.resultOf c d.no = some ⟨0, 0, 0, 0⟩ ∧ (∀ r ∈ named, (t.region r).owner = none) ∧
          (∀ r, r ∉ named → t.region r = s.region r) ∧ MemSame s t ∧ ∀ e, e ≠ c → t.ctx e = s.ctx e) ∧
        ((∃ r ∈ named, taken r) ∨ short → Answers (.remove ring index) s refused))) ∧
   (∀ (ring : Fin 16384) (index : Fin 65536) (s : State) (c : Nat) (d : Desc), s.ready? ring index 9 = some (c, d) →
      let n := d.f 128 4
      (d.f 64 8 = 3 → d.f 192 64 % 4096 = 0 → d.f 256 64 % 4096 = 0 → Answers (.sinkSet ring index) s fun t =>
        t.resultOf c d.no = some ⟨0, 0, 0, 0⟩ ∧ (t.ctx c).sink n = ⟨d.f 192 64, d.f 256 64, true⟩ ∧
        (∀ m, m ≠ n → (t.ctx c).sink m = (s.ctx c).sink m) ∧ RegsSame s t ∧ MemSame s t) ∧
      (d.f 64 8 = 3 → (d.f 192 64 % 4096 ≠ 0 ∨ d.f 256 64 % 4096 ≠ 0) → Answers (.sinkSet ring index) s fun t =>
        t.resultOf c d.no = some ⟨3, 0, 0x01, 0⟩ ∧ (∀ m, (t.ctx c).sink m = (s.ctx c).sink m) ∧ RegsSame s t ∧ MemSame s t) ∧
      (d.f 64 8 = 4 → s.sinkUsed c n = false → Answers (.sinkClear ring index) s fun t =>
        t.resultOf c d.no = some ⟨0, 0, 0, 0⟩ ∧ (t.ctx c).sink n = Sink.reset ∧
        (∀ m, m ≠ n → (t.ctx c).sink m = (s.ctx c).sink m) ∧ RegsSame s t ∧ MemSame s t) ∧
      (d.f 64 8 = 4 → s.sinkUsed c n = true → exec (.sinkClear ring index) s = .next s))) ∧
  (∀ (ring : Fin 16384) (index : Fin 65536) (s : State) (c : Nat) (d : Desc), s.ready? ring index 9 = some (c, d) →
     let n := d.f 128 14
     (d.f 64 8 = 5 → d.f 142 1 = 0 → n ≠ ring.val → s.ringOn n = true → s.ringKind n = 1 → s.ringCtx n = c →
       s.cons n < s.ringDepth n → s.ringSize n ≤ 16 → ∀ p, p < s.ringDepth n →
       (s.ctx c).cancels.find? (fun e => e.1 == d.no && e.2.1 == n) = some (d.no, n, p) →
       let k := ringDist (s.ringDepth n) (s.cons n) p
       k ≤ ringDist (s.ringDepth n) (s.cons n) (s.prod n) → Answers (.cancel ring index) s fun t =>
         t.cons n = p ∧
         (((t.ctx c).taken.drop (s.ctx c).taken.length).map fun e => (e.ring, e.index)) =
           ((List.range k).map fun i => (n, (s.cons n + i) % s.ringDepth n)) ∧
         (∀ e ∈ (t.ctx c).taken.drop (s.ctx c).taken.length, e.no ≠ d.no → e.result = some ⟨4, 0, 0x40, 0⟩) ∧
         t.resultOf c d.no = some ⟨0, 0, 0, k⟩ ∧
         RegsSameBut s t [RING_CONS n] ∧ MemSame s t) ∧
     (d.f 64 8 = 5 → d.f 142 1 = 0 → (n = ring.val ∨ s.regFld (RING_CONFIG n) 0 2 = 0 ∨ s.ringCtx n ≠ c) →
       Answers (.cancel ring index) s fun t =>
         t.resultOf c d.no = some ⟨3, 0, 0x01, 0⟩ ∧ (t.ctx c).taken.length = (s.ctx c).taken.length ∧ RegsSame s t ∧ MemSame s t) ∧
     (d.f 64 8 = 6 → s.ctxState c = 1 → s.wipes.contains c = false → Answers (.teardown ring index) s fun t =>
       t.ctxState c = 2 ∧ (t.ctx c).step = none ∧ (t.ctx c).swatch = none ∧ (t.ctx c).secure = none ∧ c ∈ t.wipes ∧
       t.regBit QUOTA_WIPE_STATUS 3 = true ∧ (t.ctx c).tearDesc = (s.ctx c).tearDesc.or (some d.no) ∧
       (∀ e ∈ (t.ctx c).taken, e.no ≠ d.no → e.result ≠ none) ∧ MemSame s t))

/-- A MOVE: refused RESERVED, or with reason IMAGE_IN_USE when it would write or discard a crate of a loaded image; held back, with
WAITED_MOVE, when the running step's prefetch schedule names one of its crates; refused with reason MEM_QUOTA before it writes
anything when the quota has no room. A MOVE whose crates can be written, or read, completes OK, RESULT its LEN: host bytes stand in the
tensor range, or the tensor range's bytes, zeros of unmapped crates among them, in host memory. A discard unmaps its crates, which then
read as zeros. A tier that ends a request ends the MOVE, RESULT counting the granules before it, and a write's granules after it are
poisoned. A context without its crate map ends every MOVE that would write or discard RETIRED. -/
def Obligations.MovesFollowTheirChecks : Prop :=
  ∀ (ring : Fin 16384) (index : Fin 65536) (s : State) (c : Nat) (d : Desc), s.ready? ring index 3 = some (c, d) →
    let taddr := d.f 192 48
    let haddr := d.f 128 64
    let len := d.f 256 32
    let port := s.ctxPort c
    let lo := taddr / 65536
    let hi := (taddr + 32 * len + 65535) / 65536
    let sps := spans taddr len
    let into (i : Instr) (dir : Nat) : Prop := d.f 64 2 = dir →
      (s.moveReserved c d = true → Answers i s fun t =>
        t.resultOf c d.no = some ⟨3, 0, 0x01, 0⟩ ∧ OnlyDesc s t c d.no ∧ RegsSame s t ∧ MemSame s t) ∧
      (s.moveReserved c d = false → s.imageInUse c lo hi = true → Answers i s fun t =>
        t.resultOf c d.no = some ⟨3, 0, 0x0B, 0⟩ ∧ OnlyDesc s t c d.no ∧ RegsSame s t ∧ MemSame s t) ∧
      (s.moveReserved c d = false → s.imageInUse c lo hi = false → s.prefetched c lo hi = true → Answers i s fun t =>
        t.ctx c = s.ctx c ∧ t.regBit (STREAM_FLAGS c) 4 = true ∧ RegsSameBut s t [STREAM_FLAGS c] ∧ MemSame s t)
    let free := s.moveReserved c d = false ∧ s.imageInUse c lo hi = false ∧ s.prefetched c lo hi = false
    let ok (t : State) : Prop := t.resultOf c d.no = some ⟨0, 0, 0, len⟩
    let lostMap (i : Instr) : Prop := (s.ctx c).noMap = true → Answers i s fun t =>
      t.resultOf c d.no = some ⟨2, 6, 0x21, 0⟩ ∧ OnlyDesc s t c d.no ∧ MemSame s t
    let writable (n : Nat) : Prop := meTier (s.entry c n) ≠ 0 ∧ s.crateRetired c n = false
    let readable (sp : Nat × Nat × Nat) : Prop := s.crateRetired c sp.1 = false ∧
      s.placeBad (meplace (s.entry c sp.1)) (sp.2.1 / 32) (sp.2.2 / 32) = false
    (∀ met, into (.moveToTensor ring index met) 0) ∧ into (.moveDiscard ring index) 2 ∧
    (d.f 64 2 = 0 → free →
      (∀ met, lostMap (.moveToTensor ring index met)) ∧
      ((s.ctx c).noMap = false → ∀ met, s.moveQuota c (d.f 66 2) (d.f 68 6) (d.f 74 4) (sps.map (·.1)) ≠ 0 →
        Answers (.moveToTensor ring index met) s fun t =>
          t.resultOf c d.no = some ⟨3, s.moveQuota c (d.f 66 2) (d.f 68 6) (d.f 74 4) (sps.map (·.1)), 0x03, 0⟩ ∧ OnlyDesc s t c d.no ∧
          MemSame s t) ∧
      ((∀ sp ∈ sps, writable sp.1) → Answers (.moveToTensor ring index none) s fun t => ok t ∧ RegsSame s t ∧ OthersSame s t c ∧
        HostSame s t ∧ (∀ sp ∈ sps, meplace (t.entry c sp.1) = meplace (s.entry c sp.1)) ∧
        ∀ n off k, sps = [(n, off, k)] → t.placeRead (meplace (t.entry c n)) off (32 * len) = s.hostRead port haddr (32 * len)) ∧
      (∀ n off k, sps = [(n, off, k)] → meTier (s.entry c n) = 0 → s.crateRetired c n = false → d.f 66 2 = 2 → s.stockRoom c ≠ 0 →
        s.freeStock ≠ none → Answers (.moveToTensor ring index none) s fun t => ok t ∧ HostSame s t ∧ meTier (t.entry c n) = 2 ∧
          t.placeRead (meplace (t.entry c n)) off (32 * len) = s.hostRead port haddr (32 * len)) ∧
      (∀ n off k g, sps = [(n, off, k)] → meTier (s.entry c n) = 2 → s.crateRetired c n = false → g < len →
        Answers (.moveToTensor ring index (some (g, .late))) s fun t => t.resultOf c d.no = some ⟨2, 5, 0x21, g⟩ ∧ HostSame s t ∧
          t.placeRead (meplace (t.entry c n)) off (32 * g) = s.hostRead port haddr (32 * g) ∧
          ∀ h, g ≤ h → h < len → t.placeBad (meplace (t.entry c n)) (off / 32 + h) 1 = true)) ∧
    (d.f 64 2 = 2 → free → lostMap (.moveDiscard ring index) ∧
      ((s.ctx c).noMap = false → Answers (.moveDiscard ring index) s fun t => ok t ∧ HostSame s t ∧ RegsSame s t ∧ OthersSame s t c ∧
        ∀ sp ∈ sps, meTier (t.entry c sp.1) = 0 ∧ t.placeRead (meplace (s.entry c sp.1)) 0 65536 = List.replicate 65536 0#8)) ∧
    (d.f 64 2 = 1 →
      (s.moveReserved c d = true → ∀ met, Answers (.moveToHost ring index met) s fun t =>
        t.resultOf c d.no = some ⟨3, 0, 0x01, 0⟩ ∧ OnlyDesc s t c d.no ∧ RegsSame s t ∧ MemSame s t) ∧
      (s.moveReserved c d = false →
        ((∀ sp ∈ sps, readable sp) → Answers (.moveToHost ring index none) s fun t => ok t ∧ TiersSame s t ∧
          (∀ i, i < len → t.hostRead port ((haddr + 32 * i) % 2 ^ 64) 32 = s.tensorRead c (taddr + 32 * i) 32) ∧
          (haddr + 32 * len ≤ 2 ^ 64 → HostSameBut s t port haddr (32 * len)) ∧ RegsSameBut s t [CTX_MEM_STATUS c] ∧ OthersSame s t c) ∧
        (∀ n off k g how, sps = [(n, off, k)] → readable (n, off, k) → meTier (s.entry c n) = 2 → g < len →
          Answers (.moveToHost ring index (some (g, how))) s fun t =>
            t.resultOf c d.no = some ⟨2, (match how with
              | .uncorr => 4
              | .late => 5), 0x21, g⟩ ∧ (how = .uncorr → n ∈ (t.ctx c).awaiting) ∧ TiersSame s t ∧
            (∀ i, i < g → t.hostRead port ((haddr + 32 * i) % 2 ^ 64) 32 = s.tensorRead c (taddr + 32 * i) 32))))

/-- A STEP that nothing refuses puts a step in progress, in GATED, or in SEALING when the context is suspended or a listener: of the
image in its slot, with its seed, and with the variant for the dark regions of its partition; nothing of it has been fetched or
summed. The step count stands, and the regions that dozed run. One that is refused completes REFUSED with its reason, and with no
foreman it completes ENDED with reason FOREMAN; no step is in progress then, and but for the marks of the foreman's reads nothing else
differs. -/
def Obligations.StepStartsOrIsRefused : Prop :=
  ∀ (ring : Fin 16384) (index : Fin 65536) (s : State) (c : Nat) (d : Desc), s.ready? ring index 1 = some (c, d) →
    (s.regBit HEALTH_FOREMAN 6 = false → s.stepRefusal c d = none → Answers (.step ring index) s fun t =>
      ∃ st p, (t.ctx c).step = some st ∧ (spGet (fun _ => none) (s.ctx c).slots (d.f 64 2)).bind (s.placed c) = some p ∧
        st.prog = p ∧ st.desc = d.no ∧ st.slot = d.f 64 2 ∧ st.seed = BitVec.ofNat 64 (d.f 192 64) ∧
        st.variant = (if (s.ctx c).listen = .member then p.variantFor (maskOf (s.darkOf c)) else none) ∧
        st.issued = [] ∧ st.landed = [] ∧ st.sums = [] ∧ t.phase c = (if st.variant = none then 4 else 1) ∧
        t.reg (STREAM_STEP_COUNT c) = s.reg (STREAM_STEP_COUNT c) ∧
        (∀ r ∈ s.ctxRegions c, s.powerOf r = 1 → s.isDark r = false → t.powerOf r = 0) ∧
        (∀ e, e ≠ c → (t.ctx e).step = (s.ctx e).step) ∧ HostSame s t) ∧
    (∀ reason, s.regBit HEALTH_FOREMAN 6 = false → s.stepRefusal c d = some reason → Answers (.step ring index) s fun t =>
      t.resultOf c d.no = some ⟨3, 0, reason, 0⟩ ∧ (t.ctx c).step = none ∧ ReadsOf s t c (s.ctx c) []) ∧
    (s.regBit HEALTH_FOREMAN 6 = true → Answers (.step ring index) s fun t =>
      t.resultOf c d.no = some ⟨2, 0, 0x23, 0⟩ ∧ (t.ctx c).step = none ∧ OnlyDesc s t c d.no ∧ RegsSame s t ∧ MemSame s t)

/-- R21: a STEP whose program declares more than the context's quotas does not start and completes REFUSED; no ledger entry
changes, since no byte of the tiers does, and the step count does not advance. -/
def Obligations.StepBeyondQuotaIsRefused : Prop :=
  ∀ (ring : Fin 16384) (index : Fin 65536) (s : State) (c : Nat) (d : Desc) (p : Program),
    s.ready? ring index 1 = some (c, d) → s.regBit HEALTH_FOREMAN 6 = false →
    spGet (fun _ => none) (s.ctx c).slots (d.f 64 2) = some p →
    (s.regFld (CTX_QUOTA_CELLAR c) 0 28 < p.cellar ∨ s.regFld (CTX_QUOTA_STOCK c) 0 28 < p.stock) →
    Answers (.step ring index) s fun t =>
      (∃ r, t.resultOf c d.no = some r ∧ r.status = 3) ∧ (t.ctx c).step = (s.ctx c).step ∧
      t.reg (STREAM_STEP_COUNT c) = s.reg (STREAM_STEP_COUNT c) ∧ TiersSame s t

/-- R387: a second SWATCH waits until the first completes: while a swatch of its context is in progress it changes nothing. -/
def Obligations.SecondSwatchWaits : Prop :=
  ∀ (ring : Fin 16384) (index : Fin 65536) (s : State) (c : Nat) (d : Desc) (w : SwatchRun),
    s.ready? ring index 5 = some (c, d) → (s.ctx c).swatch = some w → exec (.swatch ring index) s = .next s

/-- SCHED puts its image into its slot when no step is in progress, and with it the count of scale-ledger entries that it declares;
during a step the image waits; and it is refused with reason PROGRAM when the image does not hold. SWATCH takes its plan and waits for
its boundary, the step that the plan names or the present one, or is refused with reason PLAN. SECURE waits for the boundary that it
captures, or is refused when no destination is set. LEDGER_INIT puts the image's step count and scale-ledger entries in place, fresh
ones under FRESH, and ends the swatch in progress; it is refused with reason LEDGER_IMAGE, TENSOR or MEM_QUOTA, and changes neither
the tiers nor the step count then. -/
def Obligations.ScheduleSwatchSecureAndInit : Prop :=
  ∀ (ring : Fin 16384) (index : Fin 65536) (s : State) (c : Nat) (d : Desc),
    (s.ready? ring index 2 = some (c, d) →
      (s.imageFor c (d.f 96 32) = none → Answers (.sched ring index) s fun t =>
        t.resultOf c d.no = some ⟨3, 0, 0x04, 0⟩ ∧ ReadsOf s t c (s.ctx c) []) ∧
      (∀ p, s.imageFor c (d.f 96 32) = some p → s.inStep c = false → (∀ q ∈ (s.ctx c).sched, q.desc ≠ d.no) →
        Answers (.sched ring index) s fun t =>
          t.resultOf c d.no = some ⟨0, 0, 0, p.variants.length⟩ ∧ spGet (fun _ => none) (t.ctx c).slots (d.f 64 2) = some p ∧
          (t.ctx c).sched = [] ∧ t.reg (CTX_SCALE_ENTRIES c) = w32 p.scale ∧ OthersSame s t c ∧ MemSame s t ∧
          RegsSameBut s t [CTX_MEM_STATUS c, CTX_TIER_ENDS c, CTX_SCALE_ENTRIES c, CTX_SCALE_STATUS c]) ∧
      (∀ p, s.imageFor c (d.f 96 32) = some p → s.inStep c = true → Answers (.sched ring index) s fun t =>
        t.resultOf c d.no = none ∧
        ReadsOf s t c { s.ctx c with sched := (s.ctx c).sched ++ [⟨d.no, d.f 64 2, p⟩] } [])) ∧
    (s.ready? ring index 5 = some (c, d) → (s.ctx c).swatch = none →
      let p : W512 := BitVec.ofNat 512 (s.tensorNat c (d.f 128 48) 64)
      (s.planRefused c p = true → Answers (.swatch ring index) s fun t =>
        t.resultOf c d.no = some ⟨3, 0, 0x09, 0⟩ ∧ ReadsOf s t c (s.ctx c) []) ∧
      (s.planRefused c p = false → Answers (.swatch ring index) s fun t =>
        ∃ w, w.desc = d.no ∧ w.plan = p ∧ w.phase = 1 ∧ w.next = 0 ∧ w.spill = [] ∧
          w.step = (if fld p 32 32 = 0xFFFFFFFF then s.reg (STREAM_STEP_COUNT c) else w32 (fld p 32 32)) ∧
          t.reg (CTX_SWATCH_STEP c) = w.step ∧ t.resultOf c d.no = none ∧
          ReadsOf s t c { s.ctx c with swatch := some w } [CTX_SWATCH_STEP c, CTX_SWATCH_STATUS c, CTX_SWATCH_SPILL c])) ∧
    (s.ready? ring index 6 = some (c, d) →
      let dest := s.effFld (HEALTH_SEC_CONTROL c) 16 2
      ((dest = 0 ∨ dest = 3) → Answers (.secure ring index) s fun t =>
        t.resultOf c d.no = some ⟨3, 0, 0x08, 0⟩ ∧ OnlyDesc s t c d.no ∧ RegsSame s t ∧ MemSame s t) ∧
      (dest ≠ 0 → dest ≠ 3 → Answers (.secure ring index) s fun t =>
        (t.ctx c).secureQ = (s.ctx c).secureQ ++ [(d.no, (s.reg (STREAM_STEP_COUNT c)).toNat)] ∧
        t.resultOf c d.no = none ∧ (t.ctx c).secure = (s.ctx c).secure ∧ OthersSame s t c ∧ RegsSame s t ∧ MemSame s t)) ∧
    (∀ answer : PeerAnswer, s.ready? ring index 4 = some (c, d) → (s.ctx c).noMap = false →
      let m := readImageFrom (s.initSource c d answer)
      let sound := ∀ v ∈ m.dirs, (dirRec v).good = true ∧ s.tensorGood c (dirRec v).ntensor = true
      let code := s.moveQuota c 2 0 0 (s.initCrates c m)
      let refused (reason : Nat) (code : Nat) (t : State) : Prop := t.resultOf c d.no = some ⟨3, code, reason, 0⟩ ∧
        t.reg (STREAM_STEP_COUNT c) = s.reg (STREAM_STEP_COUNT c) ∧ (t.ctx c).swatch = (s.ctx c).swatch ∧ MemSame s t
      (s.imageBad c m = true → Answers (.ledgerInit ring index answer) s (refused 0x0C 0)) ∧
      (s.imageBad c m = false → ¬ sound → Answers (.ledgerInit ring index answer) s (refused 0x06 0)) ∧
      (s.imageBad c m = false → sound → code ≠ 0 → Answers (.ledgerInit ring index answer) s (refused 0x03 code)) ∧
      (s.imageBad c m = false → sound → code = 0 → (∀ w, (s.ctx c).swatch = some w → w.desc ≠ d.no) →
        Answers (.ledgerInit ring index answer) s fun t =>
          t.resultOf c d.no = some ⟨0, 0, 0, (w32 (siSTEP m.hdr + 1)).toNat⟩ ∧
          t.reg (STREAM_STEP_COUNT c) = w32 (siSTEP m.hdr + 1) ∧ (t.ctx c).swatch = none ∧ HostSame s t ∧
          ∀ i e, m.scale[i]? = some e →
            spGet (fun _ => 0#256) (t.ctx c).scaleA i = scaleSeal (if d.f 66 1 = 1 then scaleFresh (fld e 144 4) else e)))

/-- MOD_CONTROL (R469, R470, R508): of a PAUSE and a HALT that meet the HALT takes effect and the PAUSE is recorded in MOD_CONFLICT.
RUN and PAUSE change the state alone, and RUN starts a bring-up where the module is switched off; HALT takes every step in progress to
SEALING; RESET and POWER_OFF clear READY, the contexts and the tiers, and POWER_OFF turns every region off. A PAUSE during a reset is
discarded and recorded; a POWER_OFF of the steward gives way to RUN alone; and a write that does not reach the module changes
nothing. -/
def Obligations.ModuleStateFollowsControl : Prop :=
  (∀ (m : Master) (lost : List (Master × ModState)) (s : State), ¬ (if m = .steward then s.boot.busy = false else s.hostOpen = true) →
    ∀ i ∈ [Instr.run m lost, .pause m lost, .halt m lost, .reset m lost, .powerOff m lost], exec i s = .next s) ∧
  (∀ (m : Master) (s : State), (if m = .steward then s.boot.busy = false else s.hostOpen = true) → s.boot.inReset = false →
    s.power.offForce = true → (∀ i ∈ [Instr.pause m [], .halt m [], .reset m [], .powerOff m []], exec i s = .next s) ∧
    (s.boot.off = true → s.regFld POWER_STATUS 0 3 = 3 → s.bringup ≠ 5 → s.power.oscA = true ∨ s.power.oscB = true →
      Answers (.run m []) s fun t => t.modState = 0 ∧ t.bringup = 1 ∧ t.power.offForce = false ∧ MemSame s t)) ∧
  ∀ (m : Master) (s : State), (if m = .steward then s.boot.busy = false else s.hostOpen = true) → s.power.offForce = false →
    (s.boot.inReset = false →
      (s.boot.off = false → Answers (.run m []) s fun t => t.modState = 0 ∧ RegsSameBut s t [ MOD_CONTROL, MOD_STATUS] ∧ HoldingsSame s t ∧ MemSame s t) ∧
      (s.boot.off = true → s.regFld POWER_STATUS 0 3 = 3 → s.bringup ≠ 5 → s.power.oscA = true ∨ s.power.oscB = true →
        Answers (.run m []) s fun t => t.modState = 0 ∧ t.bringup = 1 ∧ t.boot.off = false ∧ MemSame s t) ∧
      (Answers (.pause m []) s fun t => t.modState = 1 ∧ RegsSameBut s t [ MOD_CONTROL, MOD_STATUS] ∧ HoldingsSame s t ∧ MemSame s t) ∧
      (Answers (.halt m []) s fun t => t.modState = 2 ∧ MemSame s t ∧ ∀ c, c < 64 → s.ctxState c ≠ 0 → 1 ≤ s.phase c →
        (s.ctx c).step ≠ none → 4 ≤ t.phase c) ∧
      (s.bringingUp = false → s.boot.off = false → Answers (.reset m []) s fun t =>
        t.modState = 3 ∧ t.ready = false ∧ t.ctxs = [] ∧ t.cellar = [] ∧ t.stock = [] ∧ t.keep = [] ∧ t.boot.wiping = true ∧
        t.boot.inReset = true ∧ HostSame s t) ∧
      (Answers (.powerOff m []) s fun t =>
        t.modState = 4 ∧ t.ready = false ∧ t.ctxs = [] ∧ t.cellar = [] ∧ t.stock = [] ∧ (∀ r, r < 64 → t.powerOf r = 3) ∧
        t.power.ramps = [] ∧ t.power.rampQ = [] ∧ t.boot.off = true ∧ HostSame s t) ∧
      (∀ (o : Master), Answers (.pause m [(o, .halt)]) s fun t => t.modState = 2 ∧ t.regBit MOD_HOST_FLAGS 0 = true ∧
        t.regFld MOD_CONFLICT 0 3 = 1 ∧ t.regFld MOD_CONFLICT 3 3 = 2 ∧ t.regFld MOD_CONFLICT 6 2 = srcNo m ∧
        t.regFld MOD_CONFLICT 8 2 = srcNo o ∧ t.regFld MOD_CONFLICT 16 16 = (s.regFld MOD_CONFLICT 16 16 + 1) % 65536)) ∧
    (s.boot.inReset = true → Answers (.pause m []) s fun t =>
      t.modState = s.modState ∧ t.reg MOD_CONTROL = s.reg MOD_CONTROL ∧ t.regBit MOD_HOST_FLAGS 0 = true ∧ MemSame s t)

/-- A context is enabled for the port that writes ENABLE, H0's write before H1's, when it is free and the module READY in a
lifecycle state that allows it (R442, R553); CTX_ABORT with the value 1 tears it down (R445, R472); the loss of a port tears down its
contexts with no completion, and tells the others (R441, R606); a port's link comes up while the converter runs. -/
def Obligations.ContextsComeAndGo : Prop :=
  (∀ (p : HostPort) (ctx : Fin 64) (val : W32) (s : State), s.hostOpen = true → s.ready = true →
    (s.ctxState ctx = 0 → s.mayEnable = true → s.suLocked (CTX_CONTROL ctx) = false →
      (Answers (.ctxEnable p ctx val false) s fun t =>
        t.ctxState ctx = 1 ∧ t.ctxPort ctx = portNo p ∧ RegsSameBut s t [CTX_STATUS ctx, CTX_CONTROL ctx] ∧ MemSame s t) ∧
      (Answers (.ctxEnable p ctx val true) s fun t =>
        t.ctxState ctx = 1 ∧ t.ctxPort ctx = 0 ∧ t.regFld MOD_CONFLICT 6 2 = 1 ∧ t.regFld MOD_CONFLICT 8 2 = 0 ∧
        t.regFld MOD_CONFLICT 10 4 = 2 ∧ MemSame s t)) ∧
    (s.ctxState ctx = 0 → s.mayEnable = false → Answers (.ctxEnable p ctx val false) s fun t => t.ctxState ctx = 0 ∧ MemSame s t) ∧
    (s.ctxState ctx = 1 → s.ctxPort ctx = portNo p →
      (Answers (.ctxAbort p ctx 1#32) s fun t => t.ctxState ctx = 2 ∧ (t.ctx ctx).step = none ∧ (t.ctx ctx).swatch = none ∧
        ctx.val ∈ t.wipes ∧ MemSame s t) ∧
      (val ≠ 1#32 → Answers (.ctxAbort p ctx val) s fun t => t.ctxs = s.ctxs ∧ RegsSame s t ∧ MemSame s t))) ∧
  (∀ (p : HostPort) (kind : PortLossKind) (s : State), Answers (.portLoss p kind) s fun t =>
    (∀ c, c < 64 → s.ctxState c ≠ 0 → s.ctxPort c = portNo p → t.ctxState c = 2 ∧ (t.ctx c).taken = [] ∧ (t.ctx c).step = none) ∧
    (∀ c, c < 64 → s.ctxState c = 0 ∨ s.ctxPort c ≠ portNo p → t.ctxState c = s.ctxState c) ∧
    (∀ c, c < 64 → s.ctxState c ≠ 0 → s.ctxPort c ≠ portNo p → ∃ w ∈ (t.ctx c).windows, w.last.code = 4 ∧ w.last.d0 = w32 (portNo p)) ∧
    (kind ≠ .functionReset → t.regBit MOD_STATUS (3 + portNo p) = false) ∧ t.regBit MOD_HOST_FLAGS 5 = true ∧ MemSame s t) ∧
  (∀ (p : HostPort) (s : State), s.regFld POWER_STATUS 0 3 = 3 → Answers (.hostLinkUp p) s fun t =>
    t.regBit MOD_STATUS (3 + portNo p) = true ∧ RegsSameBut s t [ MOD_STATUS] ∧ HoldingsSame s t ∧ MemSame s t) ∧
  ∀ (p : HostPort) (s : State), s.regFld POWER_STATUS 0 3 ≠ 3 → exec (.hostLinkUp p) s = .next s

/-- Register access (R13 to R17, R439, R584). A write puts the written bits of an RW register without behaviour of its own in place,
clears the ones of a W1C register, and changes no RO register; an SU register of an active block keeps its value; an AP register of an
active block keeps its value in effect. A read returns an RW register, a hole reads 0 and is marked, and a read of the low word of
the epoch fixes the high word that the next read returns. FREEZE and SNAPSHOT stand in PERF_CONTROL and PERF_STATUS, and a snapshot's
completion puts its header and its records in place. -/
def Obligations.RegisterAccess : Prop :=
  (∀ (m : Master) (addr : BitVec 26) (val : W64) (s : State) (row : RegRow), regRow addr.toNat = some row →
    s.admits m addr.toNat = true →
    let a := addr.toNat
    let v : W32 := BitVec.ofNat 32 (val.toNat % 2 ^ 32)
    let c : Instr := .registerWrite m false addr 4 val []
    let new := (s.reg a &&& ~~~(w32 row.mask)) ||| (v &&& w32 row.mask)
    (row.acc = .rw → row.cls ≠ .ap → (row.cls = .su → s.suLocked a = false) → s.actWrite m a v = none → Answers c s fun t =>
      t.reg a = new ∧ t.staged = s.staged ∧ RegsSameBut s t [a] ∧ HoldingsSame s t ∧ MemSame s t) ∧
    (row.acc = .rw → row.cls = .ap → s.apActive a = false → s.actWrite m a v = none → Answers c s fun t =>
      t.reg a = new ∧ t.eff a = new ∧ (∀ b, b ≠ a → t.eff b = s.eff b) ∧ RegsSameBut s t [a] ∧ HoldingsSame s t ∧ MemSame s t) ∧
    (row.acc = .rw → row.cls = .ap → s.apActive a = true → s.actWrite m a v = none → Answers c s fun t =>
      t.reg a = new ∧ (∀ b, t.eff b = s.eff b) ∧ RegsSameBut s t [a] ∧ HoldingsSame s t ∧ MemSame s t) ∧
    (row.acc = .w1c → Answers c s fun t =>
      t.reg a = s.reg a &&& ~~~(v &&& w32 row.mask) ∧ RegsSameBut s t [a] ∧ HoldingsSame s t ∧ MemSame s t) ∧
    (row.acc = .ro → Answers c s fun t => RegsSame s t ∧ HoldingsSame s t ∧ MemSame s t) ∧
    (row.cls = .su → s.suLocked a = true → Answers c s fun t =>
      t.reg a = s.reg a ∧ (s.contexts ≠ [] → t.regBit MOD_HOST_FLAGS 6 = true) ∧ t.rings = s.rings ∧ t.cores = s.cores ∧ MemSame s t)) ∧
  (∀ (p : HostPort) (addr : BitVec 26) (s : State), s.hostOpen = true → s.ready = true → s.foreign (portNo p) addr.toNat = false →
    let c : Instr := .latchedLowRead p false addr 4
    let got (w : W32) (t : State) : Prop := t.out = s.out ++ [.readData p (leBytes 4 w.toNat)] ∧ HoldingsSame s t ∧ MemSame s t
    (∀ row, regRow addr.toNat = some row → row.acc = .rw → addr.toNat ≠ CARAVAN_ROUTE_DATA →
      s.admits (portMaster p) addr.toNat = true → spGet (fun _ => none) s.latches (portNo p) = none →
      Answers c s fun t => got (s.reg addr.toNat) t ∧ RegsSame s t) ∧
    (addr.toNat % 4 = 0 → regRow addr.toNat = none → Answers c s fun t =>
      got 0#32 t ∧ t.regBit MOD_HOST_FLAGS 2 = true ∧ RegsSameBut s t [ MOD_HOST_FLAGS]) ∧
    (addr.toNat = MOD_EPOCH_LO → spGet (fun _ => none) s.latches (portNo p) = none → Answers c s fun t =>
      got (w32 (s.epoch % 2 ^ 32)) t ∧ RegsSame s t ∧
      spGet (fun _ => none) t.latches (portNo p) = some (MOD_EPOCH_HI, w32 (s.epoch / 2 ^ 32))) ∧
    (∀ w, addr.toNat = MOD_EPOCH_HI → spGet (fun _ => none) s.latches (portNo p) = some (MOD_EPOCH_HI, w) → Answers c s fun t =>
      got w t ∧ RegsSame s t ∧ spGet (fun _ => none) t.latches (portNo p) = none)) ∧
  (∀ (m : Master) (on : Bool) (s : State), s.admits m PERF_CONTROL = true →
    (Answers (.freeze m on) s fun t => t.regBit PERF_CONTROL 0 = on ∧ t.regBit PERF_STATUS 0 = s.regBit PERF_STATUS 0 ∧
      RegsSameBut s t [PERF_CONTROL] ∧ HoldingsSame s t ∧ MemSame s t) ∧
    (s.regBit PERF_STATUS 1 = false → Answers (.snapshot m on) s fun t => t.regBit PERF_CONTROL 0 = on ∧
      t.regBit PERF_STATUS 1 = true ∧ t.snap.asked = true ∧ bitAt t.snap.header 64 = false ∧ t.snap.records = s.snap.records ∧
      RegsSameBut s t [PERF_CONTROL, PERF_STATUS] ∧ HoldingsSame s t ∧ MemSame s t)) ∧
  (∀ s : State, s.regBit PERF_STATUS 1 = true → s.snap.asked = false → Answers .snapshotComplete s fun t =>
    t.regBit PERF_STATUS 1 = false ∧ t.regFld PERF_STATUS 16 16 = (s.regFld PERF_STATUS 16 16 + 1) % 65536 ∧
    fld t.snap.header 0 48 = s.snap.epoch % 2 ^ 48 ∧ fld t.snap.header 48 16 = t.regFld PERF_STATUS 16 16 ∧
    bitAt t.snap.header 64 = true ∧ fld t.snap.header 65 14 = 9152 ∧ t.snap.records = s.snap.taken ∧
    RegsSameBut s t [PERF_STATUS] ∧ HoldingsSame s t ∧ MemSame s t)

/-! The matrix arrays. -/

/-- Every step keeps every core's bench, vector, mask and accumulator files and product registers in canonical form, and lets
no tile instruction wait whose turn has come. -/
def Obligations.StepKeepsCoresCanonical : Prop := ∀ s t : State, s.coresWf → step s = .next t → t.coresWf

/-- Tile instructions (R119 to R123, R131, R141, R145). A legal TMMA or TMMAZ is issued with its operands and waits for its check, and
changes no accumulator; under a lasting fault of the core, or with a poisoned granule in an operand, its micro-batch is doubtful. A
legal TDRAIN with no operation on its accumulator before it writes the 4,096 elements and the status granule, and with CLR zeroes the
accumulator; behind such an operation it waits. A single-bit correction that its reads meet is counted; an uncorrectable element's
value is open (assumption 2), and it is a lasting fault with DOUBT. A TZERO zeroes its accumulator at its turn. An illegal one marks
its accumulator ILLEGAL at its turn and its micro-batch doubtful, and with a malformed tile MALFORMED. While an earlier instruction of
the core waits, each of them waits. -/
def Obligations.TileInstructions : Prop :=
  ∀ (core : Fin 7680) (w : BitVec 128) (s : State),
    let k := s.phys core
    let c := s.core k
    let i := TileInstr.ofWord w
    let r := regionOfPhys k
    let doubtful (t : State) : Prop := ∀ e, (s.region r).owner = some e → c.mb ∈ (t.ctx e).doubt
    let others (t : State) : Prop := CoresSameBut s t k ∧ MemSame s t
    let frame (t : State) : Prop := RegsSameBut s t (counterRegs k ++ [REGION_SPARSE_STATUS r, REGION_SPARSE_OPS r]) ∧ others t
    let classOk (zeroing : Bool) (cls : Bool) : Prop := zeroing = false → classAfter i.acc (c.acc i.acc).isInt c.ops = cls
    let good (zeroing cls : Bool) : Prop := i.resv = true ∧ classOk zeroing cls ∧
      operandOk c.bench i.aa i.fa i.sa = true ∧ operandOk c.bench i.ba i.fb i.sb = true ∧
      operandFits c.bench i.aa = true ∧ operandFits c.bench i.ba = true
    let bad : Bool := c.lasting || c.poisoned i.aa (TileHdr.ofNat (c.bench.readNat (i.aa * 32) 32)).total ||
      c.poisoned i.ba (TileHdr.ofNat (c.bench.readNat (i.ba * 32) 32)).total
    let multiplies (opc : Nat) (zeroing : Bool) (ins : Instr) : Prop := ∀ pa pb cls, fld w 0 8 = opc →
      i.pair = some (pa, pb, cls) → good zeroing cls → Answers ins s fun t =>
        (t.core k).ops = c.ops ++ [{ kind := .mma zeroing cls w (loadOperand c.bench i.aa i.ta) (loadOperand c.bench i.ba i.tb),
                                     acc := i.acc }] ∧
        (t.core k).accs = c.accs ∧ (t.core k).bench = c.bench ∧ (t.core k).vregs = c.vregs ∧ frame t ∧
        (bad = false → t.ctxs = s.ctxs) ∧ (bad = true → doubtful t)
    let illegal (ins : Instr) : Prop := Answers ins s fun t =>
      (c.ops = [] → (t.core k).acc i.acc = { c.acc i.acc with flags := (c.acc i.acc).flags ||| 0x80#8 } ∧
        t.regBit (REGION_ARRAY_STATUS r) 3 = true ∧ (t.core k).ops = []) ∧
      (c.ops ≠ [] → (t.core k).ops = c.ops ++ [{ kind := .illegal, acc := i.acc }] ∧ (t.core k).accs = c.accs) ∧
      (∀ a, a ≠ i.acc → (t.core k).acc a = c.acc a) ∧ (t.core k).bench = c.bench ∧ doubtful t ∧
      RegsSameBut s t (counterRegs k ++ [REGION_ARRAY_STATUS r, REGION_SPARSE_STATUS r]) ∧ others t
    let waits (ins : Instr) (q : SeqInstr) : Prop := c.waiting ≠ [] → Answers ins s fun t =>
      t.core k = { c with waiting := c.waiting ++ [q] } ∧ t.ctxs = s.ctxs ∧ t.regions = s.regions ∧ RegsSame s t ∧ others t
    (waits (.tmma core w) (.tmma w) ∧ waits (.tmmaz core w) (.tmmaz w) ∧ waits (.tzero core w) (.tzero w) ∧
      ∀ reads, waits (.tdrain core w reads) (.tdrain w reads)) ∧
    (c.wf → c.waiting = [] →
      multiplies 0x20 false (.tmma core w) ∧ multiplies 0x21 true (.tmmaz core w) ∧
      (∀ reads, fld w 0 8 = 0x22 → i.resv = true → i.da + 513 ≤ 65536 →
        ((∀ o ∈ c.ops, o.acc ≠ i.acc) → Answers (.tdrain core w reads) s fun t =>
          (∀ j : Fin 4096, j ∉ reads.lost → (t.core k).bench.readNat (i.da * 32 + 4 * j) 4 =
            (let v := spGet zeroW (c.acc i.acc).elems j
             (if i.dfmt && (c.acc i.acc).isInt then toF32 (FVal.ofInt v.toInt) else v).toNat)) ∧
          (reads.lost = [] → (t.core k).bench.readNat ((i.da + 512) * 32) 32 = statusGranule (c.acc i.acc) ∧
            (i.clr = false → (t.core k).acc i.acc = c.acc i.acc) ∧ (c.lasting = false → t.ctxs = s.ctxs) ∧
            RegsSameBut s t (counterRegs k ++ [REGION_ACC_CORR r])) ∧
          (reads.lost ≠ [] → nfld ((t.core k).bench.readNat ((i.da + 512) * 32) 32) 6 1 = 1 ∧ (t.core k).lasting = true ∧
            t.reg (REGION_TILE_FAIL r) = s.reg (REGION_TILE_FAIL r) + w32 reads.lost.length ∧
            t.regBit (REGION_ARRAY_STATUS r) 2 = true ∧ k % 143 ∈ (t.region r).newDead) ∧
          (reads.lost ≠ [] ∨ c.lasting = true → doubtful t) ∧
          t.reg (REGION_ACC_CORR r) = s.reg (REGION_ACC_CORR r) + w32 reads.corr ∧
          BenchSameBut s t k (i.da * 32) (513 * 32) ∧ (t.core k).ops = c.ops ∧
          (i.clr = true → (t.core k).acc i.acc = TileAcc.zero) ∧ (∀ a, a ≠ i.acc → (t.core k).acc a = c.acc a) ∧ others t) ∧
        ((∃ o ∈ c.ops, o.acc = i.acc) → Answers (.tdrain core w reads) s fun t =>
          (t.core k).ops = c.ops ++ [{ kind := .drain i.da i.clr i.dfmt, acc := i.acc, reads := reads }] ∧
          (t.core k).bench = c.bench ∧ (t.core k).accs = c.accs ∧ RegsSameBut s t (counterRegs k) ∧ others t)) ∧
      (fld w 0 8 = 0x23 → i.resv = true → Answers (.tzero core w) s fun t =>
        (c.ops = [] → (t.core k).acc i.acc = TileAcc.zero ∧ (∀ a, a ≠ i.acc → (t.core k).acc a = c.acc a) ∧ (t.core k).ops = []) ∧
        (c.ops ≠ [] → (t.core k).ops = c.ops ++ [{ kind := .zero, acc := i.acc }] ∧ (t.core k).accs = c.accs) ∧
        (t.core k).bench = c.bench ∧ t.ctxs = s.ctxs ∧ RegsSameBut s t (counterRegs k) ∧ others t) ∧
      (let unsound (zeroing : Bool) : Prop := i.pair = none ∨ ∃ pa pb cls, i.pair = some (pa, pb, cls) ∧ ¬ good zeroing cls
       (fld w 0 8 = 0x20 → unsound false → illegal (.tmma core w)) ∧ (fld w 0 8 = 0x21 → unsound true → illegal (.tmmaz core w)) ∧
       (∀ reads, fld w 0 8 = 0x22 → (i.resv = false ∨ 65536 < i.da + 513) → illegal (.tdrain core w reads)) ∧
       (fld w 0 8 = 0x23 → i.resv = false → illegal (.tzero core w)) ∧
       ((fld w 0 8 < 0x20 ∨ 0x23 < fld w 0 8) → illegal (.tmma core w))) ∧
      (∀ pa pb cls, fld w 0 8 = 0x20 → i.pair = some (pa, pb, cls) → i.resv = true → classOk false cls →
        (operandOk c.bench i.aa i.fa i.sa = false ∨ operandOk c.bench i.ba i.fb i.sb = false) → Answers (.tmma core w) s fun t =>
          t.regBit (REGION_SPARSE_STATUS r) 0 = true))

/-- The checks (R136 to R146, R260). A run that the codes do not find wrong adds its P to the accumulator, element by element with one
rounding or one saturation, or with TMMAZ puts it in its place, once every earlier product is added; until then P waits. A run that
they find wrong leaves every accumulator as it was and sends the operation to its retry, its operands reloaded where their buffer words
or expansion failed; an operand expander's failure is counted. The retry takes its cycles and six more from the core's slack, and
passes with RETRIED and its counts, or fails with DOUBT, without the contribution. An uncorrectable accumulator element keeps no stated
value (assumption 2) and is a lasting fault. A TDRAIN that waited behind the operation then stores the sum. -/
def Obligations.TileChecks : Prop :=
  ∀ (core : Fin 7680) (s : State) (pre : List TileOp) (o : TileOp) (post : List TileOp) (zeroing isInt : Bool) (w : BitVec 128)
      (a b : TileOperand) (up : TileUpset),
    let k := s.phys core
    let c := s.core k
    let r := regionOfPhys k
    let x := c.acc o.acc
    let i := TileInstr.ofWord w
    let p := upsetProduct (tileProduct isInt a b).1 up.prod
    let fl := (tileProduct isInt a b).2 ||| (if a.ff || b.ff then accSCALE_NAN else 0)
    let sum (j : Nat) : W32 :=
      let q := spGet zeroW p j
      if zeroing then q else if isInt then (addI32 (spGet zeroW x.elems j) q).1 else (addF32 (spGet zeroW x.elems j) q).1
    let doubtful (t : State) : Prop := ∀ e, (s.region r).owner = some e → c.mb ∈ (t.ctx e).doubt
    let others (t : State) : Prop := (∀ e, e ≠ o.acc → (t.core k).acc e = c.acc e) ∧ (t.core k).bench = c.bench ∧
      CoresSameBut s t k ∧ MemSame s t
    let lost (t : State) : Prop := bitAt ((t.core k).acc o.acc).flags 6 = true ∧ (t.core k).lasting = true ∧
      k % 143 ∈ (t.region r).newDead ∧ doubtful t
    let added (t : State) : Prop :=
      let y := (t.core k).acc o.acc
      y.isInt = isInt ∧ (∀ j : Fin 4096, j ∉ up.reads.lost → spGet zeroW y.elems j = sum j) ∧
      y.ops = (if zeroing then 1#32 else satAdd32 x.ops 1) ∧
      t.reg (REGION_ACC_CORR r) = s.reg (REGION_ACC_CORR r) + w32 up.reads.corr ∧ (t.core k).ops = post ∧ others t ∧
      (up.reads.lost ≠ [] → lost t ∧ t.regBit (REGION_ARRAY_STATUS r) 2 = true ∧
        t.reg (REGION_TILE_FAIL r) = s.reg (REGION_TILE_FAIL r) + w32 up.reads.lost.length) ∧
      (up.reads.lost = [] → t.ctxs = s.ctxs ∧ t.reg (REGION_TILE_FAIL r) = s.reg (REGION_TILE_FAIL r))
    let flags (retried : Nat) (t : State) : Prop := up.reads.lost = [] → ((t.core k).acc o.acc).flags =
      (if zeroing then 0#8 else x.flags) ||| BitVec.ofNat 8 ((accAdd isInt zeroing x.elems p).2 ||| fl ||| retried)
    let again (side : Bool) : Bool := up.operand.contains side || up.expander.contains side
    let bad (g : Nat) : Bool := c.poisoned g (TileHdr.ofNat (c.bench.readNat (g * 32) 32)).total
    let worse := (again true && bad i.aa) || (again false && bad i.ba)
    c.wf → c.waiting = [] → o.kind = .mma zeroing isInt w a b →
    (nextCheck c.ops = some (pre, o, post) →
      (o.retried = false → tileMismatch isInt a b up = false → pre = [] → settled post → Answers (.tileCheck core up) s fun t =>
        added t ∧ flags 0 t ∧ (up.reads.lost = [] →
          RegsSameBut s t (counterRegs k ++ [REGION_ACC_CORR r, REGION_ARRAY_STATUS r]))) ∧
      (tileMismatch isInt a b up = false → pre ≠ [] → Answers (.tileCheck core up) s fun t =>
        (t.core k).ops = pre ++ { o with stage := .passed p fl, reads := up.reads } :: post ∧ (t.core k).accs = c.accs ∧
        t.ctxs = s.ctxs ∧ RegsSameBut s t (counterRegs k) ∧ others t) ∧
      (tileMismatch isInt a b up = true → Answers (.tileCheck core up) s fun t =>
        (t.core k).ops = pre ++ { o with
          kind := .mma zeroing isInt w (if again true then loadOperand c.bench i.aa i.ta else a)
            (if again false then loadOperand c.bench i.ba i.tb else b)
          stage := .retry } :: post ∧ (t.core k).accs = c.accs ∧ (t.region r).checks = (s.region r).checks + 1 ∧
        (up.expander ≠ [] → t.reg (REGION_EXPAND_RETRY r) = s.reg (REGION_EXPAND_RETRY r) + 1#32 ∧
          t.regBit (REGION_SPARSE_STATUS r) 1 = true) ∧
        (worse = false → t.ctxs = s.ctxs) ∧ (worse = true → doubtful t) ∧
        RegsSameBut s t (counterRegs k ++ [REGION_EXPAND_RETRY r, REGION_SPARSE_STATUS r]) ∧ others t)) ∧
    (nextRetry c.ops = some (pre, o, post) → pre = [] → settled post →
      let slack (t : State) : Prop := (t.core k).time.slack = c.time.slack - ((i.cycles a b + 6 : Nat) : Int)
      (tileMismatch isInt a b up = false → Answers (.tileRetry core up) s fun t =>
        added t ∧ flags accRETRIED t ∧ slack t ∧
        t.reg (REGION_TILE_RETRY r) = s.reg (REGION_TILE_RETRY r) + 1#32 ∧ t.regBit (REGION_ARRAY_STATUS r) 0 = true ∧
        t.reg HEALTH_FAULTS_TRANSIENT = s.reg HEALTH_FAULTS_TRANSIENT + 1#32) ∧
      (tileMismatch isInt a b up = true → Answers (.tileRetry core up) s fun t =>
        (∀ j, spGet zeroW ((t.core k).acc o.acc).elems j = if zeroing then 0#32 else spGet zeroW x.elems j) ∧
        lost t ∧ slack t ∧ (t.core k).ops = post ∧
        t.reg (REGION_TILE_FAIL r) = s.reg (REGION_TILE_FAIL r) + 1#32 ∧ t.regBit (REGION_ARRAY_STATUS r) 1 = true ∧
        t.reg HEALTH_FAULTS_LASTING = s.reg HEALTH_FAULTS_LASTING + 1#32 ∧ others t)) ∧
    (∀ d clr dfmt, c.ops = [o, { kind := .drain d clr dfmt, acc := o.acc }] → o.stage = .computing → d + 513 ≤ 65536 → up = {} →
      Answers (.tileCheck core up) s fun t => (t.core k).ops = [] ∧ ∀ j, j < 4096 →
        (t.core k).bench.readNat (d * 32 + 4 * j) 4 =
          (if dfmt && isInt then toF32 (FVal.ofInt (sum j).toInt) else sum j).toNat)

/-! The vector clusters. A vector instruction finds the core as the sequencer leaves it: `vecCore`. -/

/-- Arithmetic, bitwise operations, selection and VBCAST, element by element (R154, R205, R206, R224 to R226): VD takes the operation's
result of VA, VB (VB at ⌊e / 64⌋ under BCAST) and VC, and VSEL a NaN as the canonical one; each element's status goes to its lane and
is shown in REGION_LANE_STATUS; an element whose recomputation has failed, or of which a register word is lost, is not written and
sets none. -/
def Obligations.VectorElementwise : Prop :=
  ∀ (core : Fin 7680) (w : W64) (met : LaneMet) (s : State),
    let k := s.phys core
    let x := s.vecCore k met
    let i := VInstr.ofWord w
    let failed := i.failed met
    let does (opc : Nat) (ins : Instr) (f : Nat → W32 × Nat) : Prop := s.runsVec core w opc met → Answers ins s fun t =>
      WritesElems x (t.core k) i i.vd failed (fun e => (f e).1) ∧ SetsLanes x (t.core k) i failed (fun e => (f e).2) ∧
      ShowsLanes t k x i failed (fun e => (f e).2) ∧ ScalarsSame x (t.core k) ∧ CoreRest x (t.core k) ∧ VecFrame s t k
    let op (o : LaneOp) (e : Nat) : W32 × Nat := o.apply i.fmt (x.velem i.va e) (i.bAt x e) (x.velem i.vc e)
    let bits (f : W32 → W32 → W32) (e : Nat) : W32 × Nat := (f (x.velem i.va e) (i.bAt x e), 0)
    does 0x01 (.vadd core w met) (op opAdd) ∧ does 0x02 (.vsub core w met) (op opSub) ∧
    does 0x03 (.vmul core w met) (op opMul) ∧ does 0x04 (.vfma core w met) (op opFma) ∧
    does 0x05 (.vdiv core w met) (op opDiv) ∧ does 0x06 (.vmax core w met) (op opMax) ∧ does 0x07 (.vmin core w met) (op opMin) ∧
    does 0x08 (.vabs core w met) (op opAbs) ∧ does 0x09 (.vneg core w met) (op opNeg) ∧
    does 0x0A (.vaddw core w met) (bits fun a b => a + b) ∧ does 0x0B (.vand core w met) (bits fun a b => a &&& b) ∧
    does 0x0C (.vor core w met) (bits fun a b => a ||| b) ∧ does 0x0D (.vxor core w met) (bits fun a b => a ^^^ b) ∧
    does 0x10 (.vexp2 core w met) (op opExp2) ∧ does 0x11 (.vlog2 core w met) (op opLog2) ∧
    does 0x12 (.vrcp core w met) (op opRcp) ∧ does 0x13 (.vrsqrt core w met) (op opRsqrt) ∧
    does 0x19 (.vsel core w met) (fun e => passElem i.fmt (if x.mbit i.vc e then x.velem i.va e else i.bAt x e)) ∧
    does 0x3B (.vbcast core w met) (fun _ => (BitVec.ofNat 32 ((x.sreg i.va).toNat % 2 ^ min 32 (fmtBits i.fmt)), 0))

/-- VCMP and VMOP write the mask MD bit by bit: a bit at or above COUNT keeps its value (R209), and so does one whose element is
lost; VNOP writes nothing. VSETFILL, VSTAT and SCALEB write FILL or a scalar register whatever COUNT holds (R208), unless a register
word that they read is lost; VSTAT gathers every lane's status, and with AUX[0] clears it. -/
def Obligations.MasksAndScalars : Prop :=
  ∀ (core : Fin 7680) (w : W64) (met : LaneMet) (s : State),
    let k := s.phys core
    let x := s.vecCore k met
    let i := VInstr.ofWord w
    let failed := i.failed met
    let masks (opc : Nat) (ins : Instr) (f : Nat → Bool) : Prop := s.runsVec core w opc met → Answers ins s fun t =>
      WritesBits x (t.core k) i failed f ∧ (t.core k).vregs = x.vregs ∧ (t.core k).sregs = x.sregs ∧ (t.core k).lanes = x.lanes ∧
      (t.core k).gens = x.gens ∧ CoreRest x (t.core k) ∧ VecFrame s t k
    let still (t : State) : Prop := (t.core k).vregs = x.vregs ∧ (t.core k).mregs = x.mregs ∧ (t.core k).gens = x.gens ∧
      (t.core k).accs = x.accs ∧ (t.core k).ops = x.ops ∧ (t.core k).lstore = x.lstore ∧ (t.core k).lregs = x.lregs ∧
      (t.core k).bench = x.bench ∧ (t.core k).poison = x.poison ∧ VecFrame s t k
    masks 0x18 (.vcmp core w met) (fun e => compareElems i.fmt (i.aux % 8) (x.velem i.va e) (i.bAt x e)) ∧
    masks 0x1A (.vmop core w met) (fun e => match i.aux % 4 with
      | 0 => x.mbit i.va e && x.mbit i.vb e
      | 1 => x.mbit i.va e || x.mbit i.vb e
      | 2 => x.mbit i.va e != x.mbit i.vb e
      | _ => x.mbit i.va e && !x.mbit i.vb e) ∧
    (s.runsVec core w 0x00 met → Answers (.vnop core w met) s fun t =>
      (t.core k).lanes = x.lanes ∧ (t.core k).fill = x.fill ∧ (t.core k).sregs = x.sregs ∧ still t) ∧
    (i.legal = true → (s.core k).waiting = [] →
      (i.opc = 0x61 → Answers (.vsetfill core w met) s fun t =>
        (t.core k).fill = (if failed = [] then x.sreg i.va else x.fill) ∧ (t.core k).lanes = x.lanes ∧ (t.core k).sregs = x.sregs ∧
        still t) ∧
      (i.opc = 0x62 → Answers (.vstat core w met) s fun t =>
        (failed = [] → (∀ j, j < 16 → bitAt ((t.core k).sreg i.vd) j = (List.range 64).any fun l => bitAt (x.lstat l) j) ∧
          (∀ j, 16 ≤ j → bitAt ((t.core k).sreg i.vd) j = false) ∧
          ∀ l, (t.core k).lstat l = if i.aux % 2 = 1 then 0#16 else x.lstat l) ∧
        (failed ≠ [] → (t.core k).sreg i.vd = x.sreg i.vd ∧ (t.core k).lanes = x.lanes) ∧
        (∀ n, n ≠ i.vd → (t.core k).sreg n = x.sreg n) ∧ (t.core k).fill = x.fill ∧ still t) ∧
      (i.opc = 0x22 → Answers (.scaleb core w met) s fun t =>
        (t.core k).sreg i.vd = (if failed = [] then BitVec.ofNat 32 (scaleB (x.sreg i.va) (i.aux % 16) (i.aux / 16 % 8))
          else x.sreg i.vd) ∧
        (∀ n, n ≠ i.vd → (t.core k).sreg n = x.sreg n) ∧ (t.core k).lanes = x.lanes ∧ (t.core k).fill = x.fill ∧ still t))

/-- Illegal, empty and waiting vector instructions (R204, R207, R208) and the faults of the others (R237 to R239, R236), of every
opcode. An illegal one writes nothing, sets ILLEGAL in every lane and makes the micro-batch doubtful; one with COUNT above 8,192 that
heeds it sets RANGE in every lane and writes nothing. One that loads what an earlier TDRAIN is still to write, or behind another that
waits, waits. Of a legal one, each element whose recomputation passes is a transient fault; each whose recomputation fails, or of which
a register word is lost, is a lasting fault of the core; a mended error is counted; and the recomputations and the waits for the bench
come out of the core's slack. -/
def Obligations.VectorFaults : Prop :=
  ∀ (core : Fin 7680) (w : W64) (met : LaneMet) (s : State),
    let k := s.phys core
    let x := s.vecCore k met
    let i := VInstr.ofWord w
    let r := regionOfPhys k
    let ins := vecInstr core w met
    let doubtful (t : State) : Prop := ∀ e, (s.region r).owner = some e → x.mb ∈ (t.ctx e).doubt
    let marked (bits : Nat) (t : State) : Prop :=
      (∀ j, j < 64 → (t.core k).lstat j = x.lstat j ||| BitVec.ofNat 16 bits) ∧ (t.core k).vregs = x.vregs ∧
      ScalarsSame x (t.core k) ∧ CoreRest x (t.core k) ∧ t.reg (REGION_LANE_STATUS r) = s.reg (REGION_LANE_STATUS r) ||| w32 bits ∧
      VecFrame s t k
    ((s.core k).waiting = [] → i.legal = false → Answers ins s fun t => marked 0x100 t ∧ doubtful t) ∧
    ((s.core k).waiting = [] → i.legal = true → i.countless = false → 8192 < i.count → Answers ins s (marked 0x40)) ∧
    (¬ (s.core k).free (i.loads x) → Answers ins s fun t =>
      t.core k = { s.core k with waiting := (s.core k).waiting ++ [.vector (vecOpc w) w met] } ∧ CoresSameBut s t k ∧
      t.ctxs = s.ctxs ∧ RegsSame s t ∧ MemSame s t) ∧
    ((s.core k).free (i.loads x) → i.legal = true → (i.count ≤ 8192 ∨ i.countless = true) → Answers ins s fun t =>
      let good := ((i.met met.faults).filter fun f => f.passes).length
      let bad := (i.failed met).length
      let wait := if i.usesBench then met.wait else 0
      t.reg (REGION_LANE_RETRY r) = s.reg (REGION_LANE_RETRY r) + w32 good ∧
      t.reg HEALTH_FAULTS_TRANSIENT = s.reg HEALTH_FAULTS_TRANSIENT + w32 good ∧
      t.reg (REGION_LANE_FAIL r) = s.reg (REGION_LANE_FAIL r) + w32 bad ∧
      t.reg HEALTH_FAULTS_LASTING = s.reg HEALTH_FAULTS_LASTING + w32 bad ∧
      t.reg (REGION_LANE_CORR r) = s.reg (REGION_LANE_CORR r) + w32 met.corr ∧
      (0 < good → t.regBit (REGION_LANE_STATUS r) 10 = true) ∧
      (0 < bad → t.regBit (REGION_LANE_STATUS r) 11 = true ∧ (t.core k).lasting = true ∧ k % 143 ∈ (t.region r).newDead ∧ doubtful t) ∧
      (bad = 0 → (t.core k).lasting = x.lasting) ∧ (x.lasting = true → doubtful t) ∧
      (t.core k).time.slack = x.time.slack - ((wait + 4 * (i.met met.faults).length : Nat) : Int) ∧ VecFrame s t k)

/-- Conversions (R168 to R173, R227): each active element of VA, divided under VCVTS by the scale byte of SC, converted to the
format in AUX, with the draws of its lane in element order where SR and the format ask for them; a conversion to S16 builds
the tile word in SC. -/
def Obligations.VectorConversions : Prop :=
  ∀ (core : Fin 7680) (w : W64) (met : LaneMet) (s : State) (scaled : Bool),
    let k := s.phys core
    let x := s.vecCore k met
    let i := VInstr.ofWord w
    let failed := i.failed met
    let dst := i.aux % 16
    let sc := fld (x.sreg i.vc) 0 8
    let stoch := i.sr && srTarget dst
    let drawsOf (j n : Nat) : Nat := countBelow (fun e => e % 64 == j && i.activeAt x e) n
    let value (e : Nat) : FVal :=
      let v := cvtSource i.fmt sc (x.velem i.va e)
      if scaled && i.fmt != 0xE && dst != 0xE then (match e8m0 sc with | some q => v.scale (-q) | none => .nan) else v
    let out (e : Nat) : W32 × Nat × W32 := cvtTarget dst sc (value e)
      (if stoch then some (genDraw (drawMany (x.gen (e % 64)) (drawsOf (e % 64) e))).2 else none)
    s.runsVec core w (if scaled then 0x21 else 0x20) met →
    Answers (if scaled then .vcvts core w met else .vcvt core w met) s fun t =>
      let y := t.core k
      WritesElems x y i i.vd failed (fun e => (out e).1) ∧ SetsLanes x y i failed (fun e => (out e).2.1) ∧
      ShowsLanes t k x i failed (fun e => (out e).2.1) ∧ y.mregs = x.mregs ∧
      (∀ n, (dst ≠ 0xE ∨ n ≠ i.vc) → y.sreg n = x.sreg n) ∧
      (dst = 0xE → y.sreg i.vc =
        (((List.range i.count).filter (i.activeAt x)).map fun e => (out e).2.2).foldl tileWordCombine (x.sreg i.vc)) ∧
      (∀ j, j < 64 → y.gen j = if stoch then drawMany (x.gen j) (drawsOf j i.count) else x.gen j) ∧ CoreRest x y ∧ VecFrame s t k

/-- Loads (R205, R212, R213, R215, R217): VLD takes consecutive packed elements from granule SA on, VGATHER the elements that VB
names below the bound in SC, VLDX the k-th active element the packed element k, VLDM bits, and LPLOAD words into the lane
program store; what lies beyond the bench or the bound is FILL with RANGE. Stores (R205, R212 to R215): an active element goes to
its place in the bench, the last of several in ascending element order; VSCATADD adds them in that order; an element beyond the
bench or the bound stores nothing and sets RANGE; every bit of the bench that no active element names keeps its value, and every
register but the lanes' status. An element with a lost register word is neither loaded nor stored. -/
def Obligations.VectorMemory : Prop :=
  ∀ (core : Fin 7680) (w : W64) (met : LaneMet) (s : State),
    let k := s.phys core
    let x := s.vecCore k met
    let i := VInstr.ofWord w
    let failed := i.failed met
    let g := (x.sreg i.va).toNat
    let b := fmtBits i.fmt
    let bound := (x.sreg i.vc).toNat
    let take (b o : Nat) : W32 × Nat := if elemFits g b o then (x.benchElem g b o, 0) else (x.fillElem b, stRANGE)
    let loads (opc : Nat) (ins : Instr) (f : Nat → W32 × Nat) : Prop := s.runsVec core w opc met → Answers ins s fun t =>
      WritesElems x (t.core k) i i.vd failed (fun e => (f e).1) ∧ SetsLanes x (t.core k) i failed (fun e => (f e).2) ∧
      ShowsLanes t k x i failed (fun e => (f e).2) ∧ ScalarsSame x (t.core k) ∧ CoreRest x (t.core k) ∧ VecFrame s t k
    let live (e : Nat) : Bool := i.activeAt x e && !failed.contains e
    let indexed (e : Nat) : Option Nat := if (i.bAt x e).toNat < bound then some (i.bAt x e).toNat else none
    let ranked (e : Nat) : Option Nat := some (countBelow (i.activeAt x) e)
    let status (b : Nat) (place : Nat → Option Nat) (e : Nat) : Nat := match place e with
      | some p => if elemFits g b (p * b) then 0 else stRANGE
      | none => stRANGE
    let rest (t : State) (b : Nat) (place : Nat → Option Nat) : Prop :=
      let y := t.core k
      (∀ p, elemFits g b (p * b) = true → (∀ e, e < i.count → live e = true → place e ≠ some p) →
        y.benchElem g b (p * b) = x.benchElem g b (p * b)) ∧
      (∀ a, a < g * 32 ∨ benchGrans * 32 ≤ a → y.bench.byte a = x.bench.byte a) ∧
      y.vregs = x.vregs ∧ ScalarsSame x y ∧ y.accs = x.accs ∧ y.ops = x.ops ∧ y.fill = x.fill ∧ y.lstore = x.lstore ∧ VecFrame s t k
    let stores (opc : Nat) (ins : Instr) (b : Nat) (place : Nat → Option Nat) (val : Nat → W32) : Prop :=
      s.runsVec core w opc met → Answers ins s fun t =>
        (∀ e p, e < i.count → live e = true → place e = some p → elemFits g b (p * b) = true →
          (∀ e', e < e' → e' < i.count → live e' = true → place e' ≠ some p) →
          (t.core k).benchElem g b (p * b) = BitVec.ofNat 32 ((val e).toNat % 2 ^ b)) ∧
        SetsLanes x (t.core k) i failed (status b place) ∧ ShowsLanes t k x i failed (status b place) ∧ rest t b place
    loads 0x30 (.vld core w met) (fun e => take b (e * b)) ∧
    loads 0x32 (.vgather core w met) (fun e => if (i.bAt x e).toNat < bound then take b ((i.bAt x e).toNat * b)
      else (x.fillElem b, stRANGE)) ∧
    loads 0x35 (.vldx core w met) (fun e => take b (countBelow (i.activeAt x) e * b)) ∧
    (s.runsVec core w 0x37 met → Answers (.vldm core w met) s fun t =>
      WritesBits x (t.core k) i failed (fun e => bitAt (take 1 e).1 0) ∧ SetsLanes x (t.core k) i failed (fun e => (take 1 e).2) ∧
      (t.core k).vregs = x.vregs ∧ (t.core k).sregs = x.sregs ∧ CoreRest x (t.core k) ∧ VecFrame s t k) ∧
    (s.runsVec core w 0x63 met → Answers (.lpload core w met) s fun t =>
      let first := (x.sreg i.vb).toNat
      (∀ n, n < 4096 → spGet zeroW (t.core k).lstore n =
        if first ≤ n ∧ n < first + i.count ∧ live (n - first) = true then (take 32 ((n - first) * 32)).1
        else spGet zeroW x.lstore n) ∧
      SetsLanes x (t.core k) i failed (fun e => (take 32 (e * 32)).2 ||| (if first + e < 4096 then 0 else stRANGE)) ∧
      (t.core k).vregs = x.vregs ∧ ScalarsSame x (t.core k) ∧ (t.core k).bench = x.bench ∧ VecFrame s t k) ∧
    stores 0x31 (.vst core w met) b some (x.velem i.va) ∧
    stores 0x33 (.vscatter core w met) b indexed (x.velem i.va) ∧
    stores 0x36 (.vstc core w met) b ranked (x.velem i.va) ∧
    stores 0x3C (.vstm core w met) 1 some (fun e => if x.mbit i.va e then 1#32 else 0#32) ∧
    (s.runsVec core w 0x34 met → Answers (.vscatadd core w met) s fun t =>
      (∀ p, elemFits g 32 (p * 32) = true → (t.core k).benchElem g 32 (p * 32) =
        ((List.range i.count).filter fun e => live e && indexed e == some p).foldl
          (fun v e => (addInto i.fmt v (x.velem i.va e)).1) (x.benchElem g 32 (p * 32))) ∧
      (∀ e, e < i.count → live e = true → status 32 indexed e = stRANGE → bitAt ((t.core k).lstat (e % 64)) 6 = true) ∧
      rest t 32 indexed)

/-- Permutations (R216): VPERM takes VA at the index in VB, FILL with RANGE at or above COUNT; VCOMPRESS puts the active elements
first and +0 in every other position below COUNT; VEXPAND gives element k of VA to the k-th active element of VD. An element with a
lost register word is not written. -/
def Obligations.VectorPermutations : Prop :=
  ∀ (core : Fin 7680) (w : W64) (met : LaneMet) (s : State),
    let k := s.phys core
    let x := s.vecCore k met
    let i := VInstr.ofWord w
    let failed := i.failed met
    let perm (e : Nat) : W32 × Nat := if (i.bAt x e).toNat < i.count then (x.velem i.va (i.bAt x e).toNat, 0)
      else (x.fillElem (fmtBits i.fmt), stRANGE)
    (s.runsVec core w 0x38 met → Answers (.vperm core w met) s fun t =>
      WritesElems x (t.core k) i i.vd failed (fun e => (perm e).1) ∧ SetsLanes x (t.core k) i failed (fun e => (perm e).2) ∧
      ShowsLanes t k x i failed (fun e => (perm e).2) ∧ ScalarsSame x (t.core k) ∧ CoreRest x (t.core k) ∧ VecFrame s t k) ∧
    (s.runsVec core w 0x39 met → Answers (.vcompress core w met) s fun t =>
      let n := countBelow (i.activeAt x) i.count
      (∀ e, e < i.count → i.activeAt x e = true → (t.core k).velem i.vd (countBelow (i.activeAt x) e) =
        if failed.contains e then x.velem i.vd (countBelow (i.activeAt x) e) else x.velem i.va e) ∧
      (∀ e, n ≤ e → e < i.count → (t.core k).velem i.vd e = 0#32) ∧
      (∀ e, i.count ≤ e → e < 8192 → (t.core k).velem i.vd e = x.velem i.vd e) ∧
      (∀ v e, v ≠ i.vd → e < 8192 → (t.core k).velem v e = x.velem v e) ∧ (t.core k).lanes = x.lanes ∧
      ScalarsSame x (t.core k) ∧ CoreRest x (t.core k) ∧ VecFrame s t k) ∧
    (s.runsVec core w 0x3A met → Answers (.vexpand core w met) s fun t =>
      WritesElems x (t.core k) i i.vd failed (fun e => x.velem i.va (countBelow (i.activeAt x) e)) ∧
      (∀ l, (t.core k).lstat l = x.lstat l) ∧ ScalarsSame x (t.core k) ∧ CoreRest x (t.core k) ∧ VecFrame s t k)

/-- Reductions, scans and row operations (R218 to R222, R228 to R231), over the active elements below COUNT. A FULL reduction's
result goes to SD, a ROW reduction's of each group of 64 and a LANE reduction's of each lane to VD; a FULL INT32 maximum is the
greatest of the elements. A scan's element is the prefix that `scanAll` gives. VNORM, VSOFTMAX, VLOSS and VRESADD follow their
equations, each step rounded to FP32, with their scalars in S0 and S1, which a failed element leaves unwritten, as it does a FULL
reduction's result and its own element (assumption 10). Without an active element a scan and the row operations set EMPTY, in lane 0
(assumption 10). -/
def Obligations.VectorRows : Prop :=
  ∀ (core : Fin 7680) (w : W64) (met : LaneMet) (s : State),
    let k := s.phys core
    let x := s.vecCore k met
    let i := VInstr.ofWord w
    let fl := i.failed met
    let act (e : Nat) : Bool := i.activeAt x e
    let isInt := redIsInt i.fmt
    let rop := i.aux % 8
    let input (e : Nat) : Option RedVal := if e < i.count ∧ act e = true then some (widen i.fmt (x.velem i.va e), e) else none
    let result (v : Option RedVal) : W32 := (redNarrow i.fmt rop (v.getD (redIdentity isInt rop))).1
    let row (f : Nat → W32) : LaneRow := (List.range i.count).map fun e => if act e then some (f e) else none
    let a (e : Nat) : W32 := widen 0x9 (x.velem i.va e)
    let some_ := ∃ e, e < i.count ∧ act e = true
    let frame (t : State) : Prop := (t.core k).mregs = x.mregs ∧ CoreRest x (t.core k) ∧ VecFrame s t k
    let scalar (y : Core) (n : Nat) (v : W32) : Prop := y.sreg n = if fl = [] then v else x.sreg n
    (s.runsVec core w 0x40 met →
      (i.aux / 16 % 4 = 0 → Answers (.vred core w met) s fun t =>
        scalar (t.core k) i.vd (redWord rop (((redFull isInt rop ((List.range i.count).map input)).1).getD (redIdentity isInt rop))) ∧
        (∀ n, n ≠ i.vd → (t.core k).sreg n = x.sreg n) ∧ (t.core k).vregs = x.vregs ∧ frame t) ∧
      (i.aux / 16 % 4 = 0 → i.fmt = 0xB → rop = 2 → fl = [] → some_ → Answers (.vred core w met) s fun t =>
        (∀ e, e < i.count → act e = true → (x.velem i.va e).toInt ≤ ((t.core k).sreg i.vd).toInt) ∧
        ∃ e, e < i.count ∧ act e = true ∧ (t.core k).sreg i.vd = x.velem i.va e) ∧
      (i.aux / 16 % 4 = 1 → Answers (.vred core w met) s fun t =>
        (∀ n, 64 * n < i.count → (fl.any fun e => e / 64 == n) = false → (t.core k).velem i.vd n =
          result (treeTotal isInt rop ((List.range 64).map fun j => input (64 * n + j))).1) ∧
        (∀ n, i.count ≤ 64 * n → n < 8192 → (t.core k).velem i.vd n = x.velem i.vd n) ∧
        (∀ v e, v ≠ i.vd → e < 8192 → (t.core k).velem v e = x.velem v e) ∧ (t.core k).sregs = x.sregs ∧ frame t) ∧
      (i.aux / 16 % 4 = 2 → 0 < i.count → Answers (.vred core w met) s fun t =>
        (∀ j, j < 64 → (fl.any fun e => e % 64 == j) = false → (t.core k).velem i.vd j =
          result (((List.range 128).map fun n => input (64 * n + j)).foldl (fun v e => (redOpt isInt rop v e).1) none)) ∧
        (∀ n, 64 ≤ n → n < 8192 → (t.core k).velem i.vd n = x.velem i.vd n) ∧
        (∀ v e, v ≠ i.vd → e < 8192 → (t.core k).velem v e = x.velem v e) ∧ (t.core k).sregs = x.sregs ∧ frame t)) ∧
    (s.runsVec core w 0x41 met → some_ → Answers (.vscan core w met) s fun t =>
      WritesElems x (t.core k) i i.vd fl (fun e => result (((scanAll isInt (i.aux / 8 % 2 = 1) rop none
        (chunks 64 (i.count / 64 + 1) ((List.range i.count).map input))).1.map (·.1)).getD e none)) ∧
      (t.core k).sregs = x.sregs ∧ frame t) ∧
    (s.runsVec core w 0x50 met → some_ → Answers (.vnorm core w met) s fun t =>
      let y := t.core k
      let rn := (rcpF32 (toF32 (FVal.ofInt (countBelow act i.count : Nat)))).1
      let eps := x.sreg (i.aux / 16 % 8)
      let layer := i.aux % 2 = 1
      let mu := (mulF32 (rowRed 0 (row a)).1 rn).1
      let d (e : Nat) : W32 := if layer then (addF32 (a e) (negF32 mu)).1 else a e
      let r := (rsqrtF32 (addF32 (mulF32 (rowRed 0 (row fun e => (mulF32 (d e) (d e)).1)).1 rn).1 eps).1).1
      WritesElems x y i i.vd fl (fun e =>
        let v := (mulF32 (d e) r).1
        if layer then (fmaF32 v (i.bAt x e) (x.velem i.vc e)).1 else (mulF32 v (i.bAt x e)).1) ∧
      scalar y 0 r ∧ (layer → scalar y 1 mu) ∧ (∀ n, 2 ≤ n ∨ n = 1 ∧ ¬ layer → y.sreg n = x.sreg n) ∧ frame t) ∧
    (s.runsVec core w 0x51 met → some_ →
      let z (e : Nat) : W32 := (mulF32 (a e) (x.sreg (i.aux / 16 % 8))).1
      let m := (rowRed 2 (row z)).1
      let t1 (e : Nat) : W32 := (exp2F32 (mulF32 (addF32 (z e) (negF32 m)).1 log2e).1).1
      let sum := (rowRed 0 (row t1)).1
      (m ≠ negInf → Answers (.vsoftmax core w met) s fun t =>
        WritesElems x (t.core k) i i.vd fl (fun e => if i.aux % 2 = 0 then (mulF32 (t1 e) (rcpF32 sum).1).1 else t1 e) ∧
        scalar (t.core k) 0 m ∧ scalar (t.core k) 1 sum ∧ (∀ n, 2 ≤ n → (t.core k).sreg n = x.sreg n) ∧ frame t) ∧
      (m = negInf → Answers (.vsoftmax core w met) s fun t =>
        WritesElems x (t.core k) i i.vd fl (fun _ => 0#32) ∧ scalar (t.core k) 0 negInf ∧ scalar (t.core k) 1 0#32 ∧ frame t)) ∧
    (s.runsVec core w 0x52 met → some_ →
      let tgt := (x.sreg (i.aux / 16 % 8)).toNat
      let grad := i.aux % 2 = 1
      let m := (rowRed 2 (row a)).1
      let t1 (e : Nat) : W32 := (exp2F32 (mulF32 (addF32 (a e) (negF32 m)).1 log2e).1).1
      let sum := (rowRed 0 (row t1)).1
      (tgt < i.count → act tgt = true → Answers (.vloss core w met) s fun t =>
        scalar (t.core k) 0 (addF32 (fmaF32 (log2F32 sum).1 ln2 m).1 (negF32 (a tgt))).1 ∧ scalar (t.core k) 1 1#32 ∧
        (grad → WritesElems x (t.core k) i i.vd fl (fun e =>
          (addF32 (mulF32 (t1 e) (rcpF32 sum).1).1 (if e = tgt then 0xBF800000#32 else 0x80000000#32)).1)) ∧
        (¬ grad → (t.core k).vregs = x.vregs) ∧ frame t) ∧
      (i.count ≤ tgt ∨ act tgt = false → Answers (.vloss core w met) s fun t =>
        scalar (t.core k) 0 0#32 ∧ scalar (t.core k) 1 0#32 ∧ (grad → WritesElems x (t.core k) i i.vd fl (fun _ => 0#32)) ∧
        (tgt ≠ 0xFFFFFFFF → bitAt ((t.core k).lstat 0) 6 = true) ∧ frame t)) ∧
    (¬ some_ →
      let empty (t : State) : Prop := bitAt ((t.core k).lstat 0) 7 = true ∧ t.regBit (REGION_LANE_STATUS (regionOfPhys k)) 7 = true ∧ frame t
      (s.runsVec core w 0x41 met → Answers (.vscan core w met) s fun t => empty t ∧ (t.core k).vregs = x.vregs ∧ (t.core k).sregs = x.sregs) ∧
      (s.runsVec core w 0x50 met → Answers (.vnorm core w met) s fun t => empty t ∧ (t.core k).vregs = x.vregs ∧ (t.core k).sregs = x.sregs) ∧
      (s.runsVec core w 0x51 met → Answers (.vsoftmax core w met) s fun t => empty t ∧ (t.core k).vregs = x.vregs ∧
        scalar (t.core k) 0 negInf ∧ scalar (t.core k) 1 0#32) ∧
      (s.runsVec core w 0x52 met → Answers (.vloss core w met) s fun t => empty t ∧
        scalar (t.core k) 0 0#32 ∧ scalar (t.core k) 1 0#32) ∧
      (s.runsVec core w 0x53 met → Answers (.vresadd core w met) s fun t => empty t ∧ (t.core k).vregs = x.vregs ∧
        scalar (t.core k) 0 0#32)) ∧
    (s.runsVec core w 0x53 met → some_ → i.vd ≠ i.vc → Answers (.vresadd core w met) s fun t =>
      let sum (e : Nat) : W32 := (addF32 (a e) (widen i.fmt (i.bAt x e))).1
      let byte := scaleByte (rowIlog (row sum)) 8 0
      let drawsOf (j n : Nat) : Nat := countBelow (fun e => e % 64 == j && act e) n
      (∀ e, e < i.count → act e = true → fl.contains e = false → (t.core k).velem i.vd e = sum e ∧
        (t.core k).velem i.vc e = BitVec.ofNat 32 (e4m3.convert ((f32 (sum e)).scale (127 - (byte : Int)))
          (if i.sr then some (genDraw (drawMany (x.gen (e % 64)) (drawsOf (e % 64) e))).2 else none)).1) ∧
      (∀ v e, v ≠ i.vd → v ≠ i.vc → e < 8192 → (t.core k).velem v e = x.velem v e) ∧
      scalar (t.core k) 0 (BitVec.ofNat 32 byte) ∧ (∀ n, n ≠ 0 → (t.core k).sreg n = x.sreg n) ∧ frame t)

/-- Lane programs (R201, R232 to R234), whose instructions the spec does not encode: `Config.laneDecode` gives what a word of the
store spells (assumption 9). Each active element writes at most its own lane's registers, generator and status, its own words of the
vector registers, and the bench; a failed one writes none of its words. A program that stops at once changes nothing. One that writes
a lane register to a vector register and stops gives its element that register, L0 the element's index. One that stores and stops
stores for each active element, in ascending element order, where the address lies in the bench, and else sets RANGE. An element that
has run 65,536 cycles is ended with TIMEOUT. -/
def Obligations.LanePrograms : Prop :=
  (∀ (core : Fin 7680) (w : W64) (met : LaneMet) (s : State),
    let k := s.phys core
    let x := s.vecCore k met
    let i := VInstr.ofWord w
    let failed := i.failed met
    let sa := (x.sreg i.va).toNat
    let word (n : Nat) : Config.LaneInstr := if n < 4096 then Config.laneDecode (spGet zeroW x.lstore n) else .stop
    let lreg (e : Nat) (n : Fin 32) : W32 := if n = 0 then BitVec.ofNat 32 e else spGet zeroW x.lregs (32 * (e % 64) + n)
    let live := (List.range i.count).filter fun e => i.activeAt x e && !failed.contains e
    s.runsVec core w 0x60 met →
      (Answers (.lprog core w met) s fun t =>
        let y := t.core k
        (∀ v e, e < 8192 → (i.count ≤ e ∨ i.activeAt x e = false ∨ e ∈ failed) → y.velem v e = x.velem v e) ∧
        (∀ j, j < 64 → (∀ e, e < i.count → i.activeAt x e = true → e % 64 ≠ j) →
          y.lstat j = x.lstat j ∧ y.gen j = x.gen j ∧ ∀ n, n < 32 → spGet zeroW y.lregs (32 * j + n) = spGet zeroW x.lregs (32 * j + n)) ∧
        y.mregs = x.mregs ∧ y.sregs = x.sregs ∧ y.accs = x.accs ∧ y.ops = x.ops ∧ y.lstore = x.lstore ∧ y.fill = x.fill ∧
        VecFrame s t k) ∧
      (word sa = .stop → Answers (.lprog core w met) s fun t =>
        (t.core k).vregs = x.vregs ∧ (∀ j, (t.core k).lstat j = x.lstat j) ∧ ScalarsSame x (t.core k) ∧ CoreRest x (t.core k) ∧
        VecFrame s t k) ∧
      (word (sa + 1) = .stop → Answers (.lprog core w met) s fun t => match word sa with
        | .writeV v a =>
          (∀ e ∈ live, (t.core k).velem v e = lreg e a) ∧ (∀ u e, e < 8192 → (u ≠ v.val ∨ e ∉ live) → (t.core k).velem u e = x.velem u e) ∧
          (∀ j, (t.core k).lstat j = x.lstat j) ∧ ScalarsSame x (t.core k) ∧ CoreRest x (t.core k)
        | .store a v =>
          (t.core k).bench = live.foldl (fun m e => if (lreg e a).toNat + 8 ≤ 2097152 then
            m.writeNat (lreg e a).toNat 8 ((lreg e v).toNat + 2 ^ 32 * (lreg e (v + 1)).toNat) else m) x.bench ∧
          (∀ e ∈ live, 2097152 < (lreg e a).toNat + 8 → bitAt ((t.core k).lstat (e % 64)) 6 = true) ∧
          (t.core k).vregs = x.vregs ∧ (t.core k).lregs = x.lregs ∧ ScalarsSame x (t.core k)
        | _ => True)) ∧
  ∀ (core : Fin 7680) (elem : Nat) (s : State),
    let k := s.phys core
    elem ∈ (s.core k).overdue → Answers (.laneProgramTimeout core elem) s fun t =>
      (∀ j, (t.core k).lstat j = if j = elem % 64 then (s.core k).lstat j ||| 0x200#16 else (s.core k).lstat j) ∧
      (t.core k).overdue = (s.core k).overdue.erase elem ∧
      t.regBit (REGION_LANE_STATUS (regionOfPhys k)) 9 = true ∧ (t.core k).vregs = (s.core k).vregs ∧
      CoreRest (s.core k) (t.core k) ∧ ScalarsSame (s.core k) (t.core k) ∧ VecFrame s t k

/-- The encoder (R204, R243 to R254) stores a dense tile at its destination in the smaller of its two forms: a well-formed tile
whose elements, as the expander gives them, are the source's where they are not zero and zero where they are zero; SR of the
result word holds TOTAL, NBLK and DENSE; no other byte of the bench changes. An illegal command writes nothing, is marked and makes
the micro-batch doubtful, as a poisoned granule of the source and a lasting fault of the core do. One whose source an earlier TDRAIN
is still to write waits. -/
def Obligations.EncoderStoresTheTile : Prop :=
  ∀ (core : Fin 7680) (w : W64) (s : State),
    let k := s.phys core
    let x := s.core k
    let r := regionOfPhys k
    let e := EncCommand.ofWord w
    let h := TileHdr.ofNat (x.bench.readNat (e.src * 32) 32)
    let rows := denseElems x.bench e.src h
    let h' := (encodeTile h rows (tileHasFF x.bench e.src h) e.dense).1
    let ok := e.resv = 0 ∧ h.fieldsOk = true ∧ h.dense = true ∧ e.src + h.denseGrans ≤ 65536 ∧ e.dst + h'.total ≤ 65536
    let doubtful (t : State) : Prop := ∀ c, (s.region r).owner = some c → x.mb ∈ (t.ctx c).doubt
    (¬ x.free (x.encodeReads w) → Answers (.encoderCommand core w) s fun t =>
      t.core k = { x with waiting := x.waiting ++ [.encoder w] } ∧ t.ctxs = s.ctxs ∧ RegsSame s t ∧ CoresSameBut s t k ∧ MemSame s t) ∧
    (x.wf → x.free (x.encodeReads w) →
    (ok → Answers (.encoderCommand core w) s fun t =>
      let y := t.core k
      let g := TileHdr.ofNat (y.bench.readNat (e.dst * 32) 32)
      g = h' ∧ g.wellFormed y.bench e.dst = true ∧
      (∀ a b, a < 64 → b < 64 →
        let old := (rows.getD a []).getD b 0
        let new := ((tileElems y.bench e.dst g).getD a []).getD b 0
        (rawZero h.fmt old = false → new = old) ∧ (rawZero h.fmt old = true → rawZero h.fmt new = true)) ∧
      (g.dense = false → g.total < h.denseGrans) ∧ (e.dense = true → g.dense = true) ∧
      y.sreg e.sreg = BitVec.ofNat 32 (g.total + 65536 * g.nblk + if g.dense then 16777216 else 0) ∧
      (∀ n, n ≠ e.sreg → y.sreg n = x.sreg n) ∧ BenchSameBut s t k (e.dst * 32) (g.total * 32) ∧ y.vregs = x.vregs ∧ y.accs = x.accs ∧
      (x.lasting = true ∨ x.poisoned e.src h.denseGrans = true → doubtful t) ∧
      RegsSameBut s t (counterRegs k) ∧ CoresSameBut s t k ∧ MemSame s t) ∧
    (¬ ok → Answers (.encoderCommand core w) s fun t =>
      t.regBit (REGION_SPARSE_STATUS r) 2 = true ∧ doubtful t ∧
      (t.core k).bench = x.bench ∧ (t.core k).sregs = x.sregs ∧
      RegsSameBut s t (counterRegs k ++ [REGION_SPARSE_STATUS r]) ∧ CoresSameBut s t k ∧ MemSame s t))

/-! The core sequencer and the scheduled fabric. -/

/-- The core sequencer. A cellar transfer waits for its end, behind earlier ones of its core (R270); its end moves its granules
between the cellar and the bench, its scalar register holds the end code and the granules moved (R302, R303), and its lateness
comes out of the core's slack (R272). An illegal one moves nothing, ends with 0xF and makes its micro-batch doubtful; one that
ends LATE leaves the granules it did not move poisoned; an unmapped crate reads as zeros (R287); a crate that is retired, or
not in the core's bay, leaves all of them poisoned (R302). RDPMC reads a counter where the context allows it, and else 0
(R575); indices 8 and 9 read the core cycle, whose place within the epoch is a free value (assumption 2). A core that arrives at
a barrier sets its context's bit in a BARRIER frame toward its region's service router, where its program's mark counts; one
that has arrived already changes nothing (R106). -/
def Obligations.CoreSequencerAndBarriers : Prop :=
  (∀ (core : Fin 7680) (s : State),
     let k := s.phys core
     let x := s.core k
     let others (t : State) : Prop := CoresSameBut s t k ∧ t.fabric = s.fabric
     x.waiting = [] →
     (∀ (w : BitVec 128) c, s.coreCtx core = some c → Answers (.cellarTransfer core w) s fun t =>
         (t.core k).xfers = x.xfers ++ [cellarXfer w] ∧ (t.core k).bench = x.bench ∧ (t.core k).sregs = x.sregs ∧
         RegsSameBut s t (counterRegs k) ∧ t.ctxs = s.ctxs ∧ others t ∧ MemSame s t) ∧
     (∀ (index : Nat) (sreg : Fin 8) c, s.coreCtx core = some c →
       let frame (t : State) : Prop := (∀ m, m ≠ sreg.val → (t.core k).sreg m = x.sreg m) ∧ (t.core k).bench = x.bench ∧
         t.ctxs = s.ctxs ∧ others t ∧ RegsSameBut s t (counterRegs k ++ [PERF_CTX_FLAGS c]) ∧ MemSame s t
       (s.regBit (CTX_CONTROL c) 1 = true → index < 8 → Answers (.rdpmc core index sreg) s fun t =>
         (t.core k).sreg sreg = t.reg (CORE_PMC k index) ∧ t.reg (PERF_CTX_FLAGS c) = s.reg (PERF_CTX_FLAGS c) ∧ frame t) ∧
       (s.regBit (CTX_CONTROL c) 1 = true → index = 8 ∨ index = 9 → s.powerOf (regionOfPhys k) ≤ 1 →
         Answers (.rdpmc core index sreg) s fun t => (∃ n, n < 256 ∧ (t.core k).sreg sreg =
           w32 (if index = 8 then (s.epoch * 256 + n) % 2 ^ 56 % 2 ^ 32 else (s.epoch * 256 + n) % 2 ^ 56 / 2 ^ 32)) ∧ frame t) ∧
       (s.regBit (CTX_CONTROL c) 1 = false → Answers (.rdpmc core index sreg) s fun t =>
         (t.core k).sreg sreg = 0#32 ∧ t.regBit (CORE_PERF_STATUS k) 9 = true ∧ t.regBit (PERF_CTX_FLAGS c) 0 = true ∧ frame t) ∧
       (9 < index → Answers (.rdpmc core index sreg) s fun t =>
         (t.core k).sreg sreg = 0#32 ∧ t.regBit (CORE_PERF_STATUS k) 8 = true ∧ frame t)) ∧
     (∀ (ends : Bool) c, s.coreCtx core = some c → c < 64 → x.arrived = false → Answers (.barrierArrive core ends) s fun t =>
       (t.core k).arrived = true ∧ (t.core k).bench = x.bench ∧ CoresSameBut s t k ∧
       (∃ f ∈ t.fabric.ctl, f.router = core.val ∧ f.link = 8 ∧ f.own = true ∧ fld f.frame 0 4 = 1 ∧ fld f.frame 16 16 = core.val ∧
         bitAt f.frame (104 + c) = true) ∧
       (∀ f ∈ s.fabric.ctl, fld f.frame 0 4 ≠ 1 ∨ f.router ≠ core.val ∨ f.link ≠ 8 → f ∈ t.fabric.ctl) ∧
       (t.ctx c).step = (s.ctx c).step.map (fun st => { st with mark := st.mark || ends }) ∧ (∀ e, e ≠ c → t.ctx e = s.ctx e) ∧
       RegsSameBut s t (counterRegs k) ∧ MemSame s t) ∧
     (∀ ends : Bool, x.arrived = true → exec (.barrierArrive core ends) s = .next s)) ∧
  (∀ (core : Fin 7680) (late : Nat) (s : State) q rest c,
     let k := s.phys core
     let x := s.core k
     let n := q.addr / 65536
     let e := s.entry c n
     let a := cellarBase (meLoc e) + q.addr % 65536 / 32 * 32
     x.xfers = q :: rest → s.ownerOf core = some c →
     let ends (t : State) (code moved : Nat) : Prop := (t.core k).sreg q.sreg = w32 (code + moved * 65536) ∧
       (t.core k).xfers = rest ∧ (∀ m, m ≠ q.sreg → (t.core k).sreg m = x.sreg m) ∧
       (t.core k).time = { x.time with slack := x.time.slack - (late : Int) } ∧ CoresSameBut s t k ∧ HostSame s t ∧
       ∀ d, d ≠ c → t.ctx d = s.ctx d
     let counts (t : State) : Prop := t.fabric = s.fabric ∧ t.ctx c = { s.ctx c with map := (t.ctx c).map, step := (t.ctx c).step } ∧
       ∀ m, setFld (t.entry c m) 8 8 0 = setFld (s.entry c m) 8 8 0
     let filled (t : State) (m : Nat) : Prop := TiersSame s t ∧ BenchSameBut s t k (32 * q.bench) (32 * q.len) ∧
       ∀ j, j < 32 * m → (t.core k).bench.byte (32 * q.bench + j) = s.cellar.byte (a + j)
     let ended (t : State) : Prop := t.reg (CTX_TIER_ENDS c) = s.reg (CTX_TIER_ENDS c) + 1#32 ∧
       RegsSameBut s t (counterRegs k ++ [CTX_TIER_ENDS c, CTX_MEM_STATUS c])
     (q.legal = false → Answers (.cellarTransferEnd core late) s fun t => ends t 0xF 0 ∧ (t.core k).bench = x.bench ∧
       q.mb ∈ (t.ctx c).doubt ∧ RegsSameBut s t (counterRegs k) ∧ TiersSame s t) ∧
     (q.legal = true → q.toBench = true →
       (s.crateRetired c n = false → s.inBay c core n = true →
         (∀ i, i < q.len → s.placeBad (meplace e) (q.addr % 65536 / 32 + i) 1 = false) →
         Answers (.cellarTransferEnd core late) s (fun t => ends t 0 q.len ∧ counts t ∧ filled t q.len ∧
           RegsSameBut s t (counterRegs k)) ∧
         ∀ moved, moved < q.len → Answers (.cellarTransferLate core moved late) s fun t => ends t 5 moved ∧ counts t ∧
           filled t moved ∧ (∀ i, moved ≤ i → i < q.len → q.bench + i ∈ (t.core k).poison) ∧
           t.regBit (CTX_MEM_STATUS c) 4 = true ∧ ended t) ∧
       (s.crateRetired c n = false → meTier e = 0 → Answers (.cellarTransferEnd core late) s fun t => ends t 0 q.len ∧ counts t ∧
         TiersSame s t ∧ (∀ j, j < 32 * q.len → (t.core k).bench.byte (32 * q.bench + j) = 0#8) ∧
         BenchSameBut s t k (32 * q.bench) (32 * q.len) ∧ t.regBit (CTX_MEM_STATUS c) 3 = true ∧
         RegsSameBut s t (counterRegs k ++ [CTX_MEM_STATUS c])) ∧
       (s.crateRetired c n = true ∨ meTier e ≠ 0 ∧ s.inBay c core n = false → Answers (.cellarTransferEnd core late) s fun t =>
         ends t (if s.crateRetired c n then 6 else 7) 0 ∧ counts t ∧ filled t 0 ∧
         (∀ i, i < q.len → q.bench + i ∈ (t.core k).poison) ∧ ended t)) ∧
     (q.legal = true → q.toBench = false → s.crateRetired c n = false → s.inBay c core n = true →
       (∀ i, i < q.len → x.poisoned (q.bench + i) 1 = false) → Answers (.cellarTransferEnd core late) s fun t => ends t 0 q.len ∧
         counts t ∧ (∀ j, j < 32 * q.len → t.cellar.byte (a + j) = x.bench.byte (32 * q.bench + j)) ∧
         (∀ b, b < a ∨ a + 32 * q.len ≤ b → t.cellar.byte b = s.cellar.byte b) ∧ (∀ b, t.stock.byte b = s.stock.byte b) ∧
         (t.core k).bench = x.bench ∧ RegsSameBut s t (counterRegs k)))

/-- Time in the fabric (R77, R78, R93 to R98, R110, R566). The wall epoch rises by one modulo 2^48, is held when a latched request
holds it, and counts as held or live. Where no halt and no verdict waits for the epoch's turn, FREEZE and a snapshot take
effect, a change of mode goes on, every core of a step has its slack and its work pass by the epoch, a request that is
raised asks for 1 to 15 epochs, and a service packet whose time has come is delivered. The hold network latches the greatest
H of the requests stamped with the epoch before, the larger of its two copies, whose disagreement is marked; a router that
latches another keeps its own holds until, between micro-batches, every router is realigned. -/
def Obligations.FabricTime : Prop :=
  (∀ s : State, s.fabricMode ≠ 0 →
    let e := (s.epoch + 1) % 2 ^ 48
    Answers .epochStart s (fun t => t.epoch = e ∧ t.fabric.held = s.heldAt e ∧
      t.fabric.heldN = s.fabric.heldN + (if s.heldAt e then 1 else 0) ∧ t.fabric.liveN = s.fabric.liveN + (if s.heldAt e then 0 else 1)) ∧
    ((∀ c ∈ s.contexts, (s.ctx c).stopDue = false ∧ (s.ctx c).haltDue = false ∧ ∀ st, (s.ctx c).step = some st → st.recalled = []) →
      Answers .epochStart s fun t =>
        t.regBit MOD_FABRIC_STATUS 2 = t.fabric.held ∧ t.regBit PERF_STATUS 0 = s.regBit PERF_CONTROL 0 ∧ t.snap.asked = false ∧
        (s.snap.asked = true → t.snap.epoch = e) ∧ (s.snap.asked = false → t.snap = s.snap) ∧
        (∀ q ∈ t.fabric.reqs, q ∈ s.fabric.reqs ∨ (q.epoch = e ∧ 1 ≤ q.len ∧ q.len ≤ 15)) ∧
        (∀ m, s.fabric.change = some (m, 1) → m < 4 → t.fabricMode = m ∧ t.fabric.change = none) ∧
        (∀ m, s.fabric.change = some (m, 2) → t.fabric.change = some (m, 1)) ∧
        (s.stepCores.Nodup → ∀ k ∈ s.stepCores,
          let y := (s.core k).time.pass (s.usable k) s.fabric.held
          (t.core k).time.slack = y.slack ∧ (t.core k).time.due = y.due) ∧
        t.fabric.packets = s.fabric.packets ++ s.fabric.flying.filter (fun q => decide (q.at_ ≤ e * 256)) ∧
        t.fabric.flying = s.fabric.flying.filter (fun q => decide (e * 256 < q.at_)) ∧ MemSame s t)) ∧
  (∀ (copyB : Option (Fin 16)) (odd : List (RouterId × Fin 16)) (s : State), s.fabricMode ≠ 0 →
    let e := (s.epoch + 2 ^ 48 - 1) % 2 ^ 48
    let mine := s.fabric.reqs.filter fun q => q.epoch == e
    let a := mine.foldl (fun m q => max m q.len) 0
    let h := max a (match copyB with | some b => b.val | none => a)
    let put (n : Nat) (l : List HoldReq) : List HoldReq := if n = 0 then l else l ++ [⟨e, n⟩]
    Answers (.holdLatch copyB odd) s fun t =>
      (∀ q ∈ mine, q.len ≤ a) ∧ (a = 0 ∨ ∃ q ∈ mine, q.len = a) ∧ t.fabric.latched = put h s.fabric.latched ∧
      t.fabric.reqs = s.fabric.reqs.filter (fun q => q.epoch == s.epoch) ∧
      (copyB = none → RegsSame s t) ∧ (∀ b, copyB = some b → b.val = a → RegsSame s t) ∧
      (∀ b, copyB = some b → b.val ≠ a → t.regBit MOD_FABRIC_FAULT 4 = true) ∧ RegsSameBut s t [ MOD_FABRIC_FAULT] ∧
      ((odd.map fun x => routerNo x.1).Nodup → ∀ x ∈ odd, (t.router (routerNo x.1)).odd = some (put x.2.val (s.latchedBy (routerNo x.1)))) ∧
      (∀ n, (∀ x ∈ odd, routerNo x.1 ≠ n) → (s.router n).odd = none → t.router n = s.router n) ∧
      t.epoch = s.epoch ∧ HoldingsSame s t ∧ MemSame s t) ∧
  (∀ s : State,
    (s.fabric.realign = true → (∀ c ∈ s.contexts, s.atBoundary c = true) → Answers .scheduleRealign s fun t =>
      t.fabric.realign = false ∧ t.fabric.links = [] ∧ (∀ n, t.router n = { s.router n with odd := none, skew := 0 }) ∧
      t.epoch = s.epoch ∧ RegsSame s t ∧ HoldingsSame s t ∧ MemSame s t) ∧
    ((s.fabric.realign = false ∨ ∃ c ∈ s.contexts, s.atBoundary c = false) → exec .scheduleRealign s = .next s))

/-- Control frames (R79 to R82, R98, R106, R113, R409). A control slot carries on each link one of the frames that wait there, of
the best type, and drops none of them; a router's own frame receives EPOCH and CRC when it is sent. In the first slot of a
held epoch in which no BARRIER frame waits every router sends HOLD_ACK with the length it has latched on every link, and where
no frame waits IDLE is sent. A core's arrival reaches its service router in the slot, which goes on up the tree, or releases at
the root, when all of its region and all its children have arrived; a RELEASE of the service router frees its cores. A frame
that arrives broken, or with a reserved type, is marked, and a FAULT frame then waits at its sender again; a HOLD_ACK with the
receiver's length changes nothing, with another it is a lasting fault that waits for realignment and makes every micro-batch in
flight doubtful; a FAULT frame at the foreman makes its micro-batch doubtful; a MIRROR frame reaches a standby; a SERVICE
frame is taken by its region and passed on by others. -/
def Obligations.ControlFrames : Prop :=
  (∀ (f : CtlFrame) (e : Nat), f.own = true → e < 2 ^ 48 →
    let g := (f.sent e).frame
    fld g 32 48 = e ∧ fld g 0 32 = fld f.frame 0 32 ∧ fld g 80 160 = fld f.frame 80 160 ∧
    fld g 240 16 = (crcMsb 16 0x1021#16 0xFFFF#16 (leBytes 30 g.toNat)).toNat) ∧
  (∀ (slot : Fin 4) (s : State), s.fabricMode ≠ 0 → slot ≠ 0 ∨ s.epoch % 16 ≠ 0 ∨ s.foremanOn = false →
    (s.fabric.held = false → (∀ f ∈ s.fabric.ctl, f.link ≠ 8) → Answers (.controlSlot slot) s fun t =>
      (∀ f ∈ s.fabric.ctl, f ∈ t.fabric.ctl ∨ f.sent s.epoch ∈ t.fabric.wire) ∧
      (∀ w ∈ t.fabric.wire, ∃ f ∈ s.fabric.ctl, s.routerOn f.router = true ∧ w = f.sent s.epoch) ∧
      (∀ f ∈ t.fabric.ctl, f ∈ s.fabric.ctl) ∧
      t.fabric.wire.Pairwise (fun f g => f.router ≠ g.router ∨ f.link ≠ g.link) ∧
      t.fabric.wire.length + t.fabric.ctl.length = s.fabric.ctl.length ∧
      (∀ f ∈ t.fabric.wire, ∀ g ∈ t.fabric.ctl, f.router = g.router → f.link = g.link → fld f.frame 0 4 ≤ fld g.frame 0 4) ∧
      (∀ n l, s.routerOn n = true → (linkPartner n l).isSome = true → (∀ f ∈ t.fabric.wire, f.router ≠ n ∨ f.link ≠ l) →
        t.slotFrame n l = some (stampCtl s.epoch (ctlFrame 0 0 (sourceOf n) 0 0 0))) ∧
      RegsSame s t ∧ HoldingsSame s t ∧ MemSame s t) ∧
    (s.fabric.held = true → s.fabric.ackSent = false → (∀ f ∈ s.fabric.ctl, fld f.frame 0 4 ≠ 1) → Answers (.controlSlot slot) s fun t =>
      (∀ n l, s.routerOn n = true → (linkPartner n l).isSome = true →
        t.slotFrame n l = some (stampCtl s.epoch (ctlFrame 2 (s.holdLen n) (sourceOf n) 0 0 0))) ∧
      t.fabric.ctl = s.fabric.ctl ∧ t.fabric.ackSent = true ∧ RegsSame s t ∧ HoldingsSame s t ∧ MemSame s t) ∧
    (∀ (core : Fin 7680) (f : W256) (own : Bool) (c : Nat),
      let r := core.val / 120
      let tree := s.barrierTree c
      let here (i : Nat) : Prop := r * 120 + i = core.val ∨ r * 120 + i ∈ s.fabric.came
      let rel (t : State) (link bit : Nat) : Prop := ∃ g ∈ t.fabric.ctl, g.router = 7744 + r ∧ g.link = link ∧ fld g.frame 0 4 = 1 ∧
        bitAt g.frame bit = true
      s.fabric.held = false → s.fabric.ctl = [⟨core.val, 8, f, own⟩] → s.routerOn core.val = true → fld f 0 4 = 1 →
      fld f 16 16 = core.val → frameCtxs f 104 = [c] → (s.region r).owner = some c → c < 64 → s.inStep c = true →
      ((∃ i, i < 120 ∧ ¬ here i) → Answers (.controlSlot slot) s fun t => core.val ∈ t.fabric.came ∧ t.fabric.ctl = [] ∧
        RegsSame s t ∧ HoldingsSame s t ∧ MemSame s t) ∧
      ((∀ i, i < 120 → here i) → (∀ x ∈ treeKids tree r, x * 64 + c ∈ s.fabric.arrive) →
        (tree[r]? = some 0xFF → Answers (.controlSlot slot) s fun t => rel t 8 (168 + c) ∧
          (∀ x ∈ treeKids tree r, s.isDark x = false → rel t (dirTo r x) (168 + c)) ∧
          (∀ j, j % 64 = c → j ∉ t.fabric.arrive) ∧ RegsSame s t ∧ HoldingsSame s t ∧ MemSame s t) ∧
        (∀ p, p < 64 → tree[r]? = some p → Answers (.controlSlot slot) s fun t => rel t (dirTo r p) (104 + c) ∧
          RegsSame s t ∧ HoldingsSame s t ∧ MemSame s t))) ∧
    (∀ (r : Fin 64) (f : W256) (own : Bool) (c : Nat), s.fabric.held = false → s.fabric.ctl = [⟨7744 + r.val, 8, f, own⟩] →
      s.routerOn (7744 + r.val) = true → fld f 0 4 = 1 → frameCtxs f 168 = [c] →
      ((s.barrierTree c)[r.val]? = some 0xFF → (s.ctx c).step.any (·.mark) = false) → Answers (.controlSlot slot) s fun t =>
        (∀ i, i < 120 → (t.core (s.phys (r.val * 120 + i))).arrived = false) ∧ (∀ l ∈ t.fabric.came, l / 120 ≠ r.val) ∧
        t.fabric.ctl = [] ∧ RegsSame s t ∧ MemSame s t)) ∧
  (∀ (at_ : RouterId) (link : Fin 8) (f : W256) (s : State),
    let n := routerNo at_
    s.fabricMode ≠ 0 → s.routerOn n = true →
    let good := fld f 240 16 = (crcMsb 16 0x1021#16 0xFFFF#16 (leBytes 30 f.toNat)).toNat
    (¬ good → Answers (.controlFrameReceive at_ link f) s fun t =>
      t.regBit MOD_FABRIC_FAULT 3 = true ∧
      (∀ q l g, linkPartner n link = some (q, l) → s.fabric.wire.find? (fun x => x.router == q && x.link == l) = some g →
        fld g.frame 0 4 = 3 → ⟨q, l, g.frame, false⟩ ∈ t.fabric.ctl) ∧
      RegsSameBut s t [ MOD_FABRIC_FAULT] ∧ HoldingsSame s t ∧ MemSame s t) ∧
    (good → 6 ≤ fld f 0 4 → Answers (.controlFrameReceive at_ link f) s fun t =>
      t.regBit MOD_FABRIC_FAULT 3 = true ∧ t.fabric = s.fabric ∧ RegsSameBut s t [ MOD_FABRIC_FAULT] ∧ HoldingsSame s t ∧ MemSame s t) ∧
    (good → fld f 0 4 = 2 → fld f 4 12 = s.holdLen n → exec (.controlFrameReceive at_ link f) s = .next s) ∧
    (good → fld f 0 4 = 2 → fld f 4 12 ≠ s.holdLen n → Answers (.controlFrameReceive at_ link f) s fun t =>
      t.regBit MOD_FABRIC_FAULT 0 = true ∧ t.fabric.realign = true ∧
      t.reg HEALTH_FAULTS_LASTING = s.reg HEALTH_FAULTS_LASTING + 1#32 ∧
      (∀ c ∈ s.contexts, ∀ mb ∈ s.flying c, mb ∈ (t.ctx c).doubt) ∧ MemSame s t) ∧
    (∀ r : Fin 64, at_ = .service r → good →
      (∀ c, fld f 0 4 = 3 → s.foremanOn = true → s.regFld HEALTH_FOREMAN 0 6 = r.val → fld f 96 8 = c → c < 64 → s.inStep c = true →
        (∀ st, (s.ctx c).step = some st → fld f 80 16 ∉ st.judged) → Answers (.controlFrameReceive at_ link f) s fun t =>
          fld f 80 16 ∈ (t.ctx c).doubt ∧ fld f 80 16 ∈ (t.ctx c).told ∧ RegsSame s t ∧ MemSame s t) ∧
      (fld f 0 4 = 5 → r.val ∈ s.foreman.standbys → Answers (.controlFrameReceive at_ link f) s fun t =>
        t.foreman.mirror = s.epoch ∧ RegsSame s t ∧ HoldingsSame s t ∧ MemSame s t) ∧
      (fld f 0 4 = 4 → fld f 104 8 = r.val → Answers (.controlFrameReceive at_ link f) s fun t =>
        t.fabric = { s.fabric with notes := s.fabric.notes ++ [(r.val, fld f 112 128)] } ∧ RegsSame s t ∧ HoldingsSame s t ∧
        MemSame s t) ∧
      (fld f 0 4 = 4 → fld f 104 8 ≠ r.val → fld f 104 8 < 64 → Answers (.controlFrameReceive at_ link f) s fun t =>
        t.fabric = { s.fabric with ctl := s.fabric.ctl ++ [⟨7744 + r.val, hopDir r (fld f 104 8), f, false⟩] } ∧ RegsSame s t ∧
        HoldingsSame s t ∧ MemSame s t)))

/-- Segments, hop entries and modes (R83 to R92, R99, R103, R109 to R113, R623). A segment starts by swapping every router's banks; its
cores take up their work and streams with the slack that they hold. A bank that is not loaded takes its loading out of its
core's slack, and the segment starts only when that is made up for. A hop entry from a core's stream puts the stream's next word
on the link; a word that arrives poisoned goes on poisoned and is one late fault; an entry that combines two links into a core
adds lane by lane. The fabric changes its mode through MODE 3: to scheduled mode when a pass runs and no service packet is in
flight, to service mode when no context has a step. A service packet travels to its router, and is marked when it goes
further than it may; in scheduled mode a message goes in SERVICE frames. -/
def Obligations.SegmentsAndModes : Prop :=
  (∀ (ctx : Fin 64) (seg : Nat) (cores : List SegCore) (cols : List SegColumn) (s : State),
    let tabs := (s.hopTables ctx).filter fun t => (t.bank seg).isSome && !s.isDark (routerRegion t.router)
    let there (t : HopTable) : Prop := (s.router t.router).load.loaded = true ∧ (s.router t.router).load.seg = seg
    s.fabricMode = 2 → s.fabric.held = false → (s.ctx ctx).step.any (·.running) = true → tabs ≠ [] → (tabs.map (·.router)).Nodup →
    ((∀ h ∈ tabs, there h ∧ s.bankReady h = true) → (cores.map fun q => s.phys q.core).Nodup →
      Answers (.segmentStart ctx seg cores cols) s fun t =>
      (∀ h ∈ tabs, (t.router h.router).run = (s.router h.router).load ∧ (t.router h.router).live = true ∧
        (t.router h.router).start = s.schedEpoch ∧ (t.router h.router).load = (h.bank (seg + 1)).getD Bank.reset) ∧
      (∀ q ∈ cores, s.coreCtx q.core = some ctx.val → (t.core (s.phys q.core)).time = (s.core (s.phys q.core)).time.enter q.work ∧
        (t.core (s.phys q.core)).streams = q.binds.map (fun b => ⟨b, 0, false⟩) ∧
        (t.core (s.phys q.core)).bench = (s.core (s.phys q.core)).bench) ∧
      (∀ k, (∀ q ∈ cores, s.phys q.core ≠ k) → t.core k = s.core k) ∧ t.ctxs = s.ctxs ∧ RegsSame s t ∧ MemSame s t) ∧
    (∀ h ∈ tabs, ¬ there h → h.router < 7680 →
      let n := ((cores.find? fun q => q.core.val == h.router).map (·.load)).getD 0
      ((tabs.filter fun h => decide (h.router < 7680)).map fun h => s.phys h.router).Nodup →
      (s.core (s.phys h.router)).time.slack < (n : Int) → Answers (.segmentStart ctx seg cores cols) s fun t =>
        some (t.router h.router).load = h.bank seg ∧ (∀ m, (t.router m).run = (s.router m).run ∧ (t.router m).start = (s.router m).start) ∧
        (t.core (s.phys h.router)).time = { (s.core (s.phys h.router)).time with
          slack := (s.core (s.phys h.router)).time.slack - (n : Int) } ∧ t.ctxs = s.ctxs ∧ RegsSame s t ∧ MemSame s t)) ∧
  (∀ (core : Fin 7680) (entry : Fin 4096) (n corr : Nat) (uncorr uncorr2 : Bool) (s : State) (e : W64) (cyc : Nat),
    let r := s.router core
    let k := s.phys core
    let g := core.val / 120
    let t0 := s.schedEpoch * 256 + cyc
    r.run.entries[entry.val]? = some e → (runCycles (heCycle e) (heLen e))[n]? = some cyc → s.fabricMode = 2 →
    s.heldFor core = false → r.live = true → s.isDark g = false → s.segEpoch core = heEpoch e →
    (∀ p q lat b, heIn e = 8 → heOp e = 0 → heOuts e = [p] → p < 4 → portPartner core p = some (q, lat) →
      s.isDark (routerRegion q) = false → (s.core k).streams.find? (fun b => b.spec.send && b.spec.stream.val == heStream e) = some b →
      let a := b.spec.first.toNat * 32 + b.pos
      0 ≤ (s.core k).time.slack → b.pos + 128 ≤ b.spec.grans * 32 → (s.core k).poisoned (a / 32) 4 = false →
      Answers (.hopEntryRun (.core core) entry n corr uncorr uncorr2) s fun t =>
        (∃ l, t.linkWords (q * 16 + (p + 2) % 4) = l ++ [⟨(List.range 32).map fun i => BitVec.ofNat 32
          ((s.core k).bench.readNat (a + 4 * i) 4), true, false, false, t0, lat, (List.range 4).map fun i => (s.core k).homeOf (a / 32 + i)⟩]) ∧
        (t.core k).bench = (s.core k).bench ∧ CoresSameBut s t k ∧
        t.reg (REGION_LINK_CORR g) = s.reg (REGION_LINK_CORR g) + w32 corr ∧
        RegsSameBut s t (counterRegs k ++ [REGION_LINK_CORR g]) ∧ t.ctxs = s.ctxs ∧ MemSame s t) ∧
    (∀ p q lat w, heIn e < 4 → heOp e = 0 → heOuts e = [p] → p < 4 → portPartner core p = some (q, lat) →
      s.isDark (routerRegion q) = false → (s.linkWords (core.val * 16 + heIn e)).filter (fun w => w.due t0) = [w] → w.valid = true →
      w.poison = true ∨ uncorr = true → Answers (.hopEntryRun (.core core) entry n corr uncorr uncorr2) s fun t =>
        (∃ l, t.linkWords (q * 16 + (p + 2) % 4) = l ++ [⟨[], true, true, w.sat, t0, lat, []⟩]) ∧
        t.reg (REGION_LATE g) = s.reg (REGION_LATE g) + 1#32 ∧ t.regBit (REGION_FAB_STATUS g) 0 = true ∧
        t.reg HEALTH_FAULTS_LASTING = s.reg HEALTH_FAULTS_LASTING + 1#32 ∧
        RegsSameBut s t [REGION_LATE g, REGION_FAB_STATUS g, HEALTH_FAULTS_LASTING, REGION_LINK_CORR g] ∧ HoldingsSame s t ∧ MemSame s t) ∧
    (∀ w v b, heIn e < 4 → heIn2 e < 4 → heOp e = 2 → heOuts e = [8] → uncorr = false → uncorr2 = false →
      (s.linkWords (core.val * 16 + heIn e)).filter (fun w => w.due t0) = [w] →
      (s.linkWords (core.val * 16 + heIn2 e)).filter (fun w => w.due t0) = [v] → w.valid = true → v.valid = true →
      w.poison = false → v.poison = false → w.lanes.length = 32 → v.lanes.length = 32 →
      (s.core k).streams.find? (fun b => !b.spec.send && b.spec.stream.val == heStream e) = some b → b.pos + 128 ≤ b.spec.grans * 32 →
      (s.core k).wf →
      Answers (.hopEntryRun (.core core) entry n corr uncorr uncorr2) s fun t =>
        (∀ i, i < 32 → (t.core k).bench.readNat (b.spec.first.toNat * 32 + b.pos + 4 * i) 4 =
          ((addF32 (w.lanes.getD i 0#32) (v.lanes.getD i 0#32)).1).toNat) ∧
        BenchSameBut s t k (b.spec.first.toNat * 32 + b.pos) 128 ∧ CoresSameBut s t k ∧ t.ctxs = s.ctxs ∧
        RegsSameBut s t (counterRegs k ++ [REGION_LINK_CORR g]) ∧ MemSame s t)) ∧
  (∀ s : State,
    let may (up : Bool) : Bool := if up then s.fabricMode == 1 && s.contexts.any (fun c => (s.ctx c).step.any (·.running)) && s.fabric.flying.isEmpty
      else s.fabricMode == 2 && !s.anyStep
    (∀ up : Bool, (may up = true → Answers (.fabricModeChange up) s fun t =>
        t.fabricMode = 3 ∧ t.fabric.change = some (if up then 2 else 1, 2) ∧ RegsSameBut s t [ MOD_FABRIC_STATUS] ∧
        HoldingsSame s t ∧ MemSame s t) ∧
      (may up = false → exec (.fabricModeChange up) s = .next s)) ∧
    (∀ (src : Fin 64) (dst : RouterId) (sender : ServiceSender) (flits : List W512),
      let r := routerRegion (routerNo dst)
      let near := src.val = r ∨ r ∈ neighbours src ∨ sender ≠ .region ∧ (src.val ∈ entryRegions ∨ r ∈ entryRegions)
      s.routerOn (7744 + src.val) = true → s.routerOn (routerNo dst) = true → 2 ≤ flits.length → flits.length ≤ 126 → flits.length % 2 = 0 →
      (s.fabricMode = 1 → near → Answers (.servicePacket src dst sender flits) s fun t =>
        t.fabric = { s.fabric with flying := s.fabric.flying ++
          [⟨7744 + src.val, routerNo dst, flits, s.epoch * 256 + packetCycles (7744 + src.val) (routerNo dst)⟩] } ∧
        RegsSame s t ∧ HoldingsSame s t ∧ MemSame s t) ∧
      (s.fabricMode = 1 → ¬ near → Answers (.servicePacket src dst sender flits) s fun t => t.regBit MOD_FABRIC_FAULT 2 = true ∧
        (∃ at_, t.fabric.flying = s.fabric.flying ++ [⟨7744 + src.val, routerNo dst, flits, at_⟩]) ∧
        RegsSameBut s t [ MOD_FABRIC_FAULT] ∧ HoldingsSame s t ∧ MemSame s t) ∧
      (s.fabricMode = 2 → Answers (.servicePacket src dst sender flits) s fun t =>
        t.fabric.ctl.length = s.fabric.ctl.length + 4 * flits.length ∧ (∀ f ∈ s.fabric.ctl, f ∈ t.fabric.ctl) ∧
        (∀ f ∈ t.fabric.ctl, f ∈ s.fabric.ctl ∨ f.router = 7744 + src.val ∧ f.own = true ∧ fld f.frame 0 4 = 4 ∧ fld f.frame 104 8 = r) ∧
        RegsSame s t ∧ HoldingsSame s t ∧ MemSame s t)))

/-- A region's micro-batch boundary (R48 to R54, R59, R268, R331, R418): the first dead core of a physical row makes its column
the row's skip column, so that no logical core stands on it, with MAPGEN one up; without a recorded fault, or while a micro-batch
of the region's context is under way, nothing changes; a region that the health monitor has given up goes dark. The refetch of
moved cores' crates waits for the repair of any of them; it fills their benches again, poisoned where the crate is, or all of
them where it cannot be read. -/
def Obligations.RepairsAtTheBoundary : Prop :=
  (∀ (region : Fin 64) (failed : List (Fin 143)) (s : State),
    let r := region.val
    let between := ∀ c, (s.region r).owner = some c → s.atBoundary c = true
    (s.isDark r = true ∨ ¬ between → exec (.microBatchBoundary region failed) s = .next s) ∧
    (s.isDark r = false → between → (s.region r).darkDue = false → (s.region r).newDead = [] →
      exec (.microBatchBoundary region failed) s = .next s) ∧
    (∀ f, s.isDark r = false → between → (s.region r).darkDue = false → failed = [] → (s.region r).newDead = [f] → f < 130 →
      (s.region r).dead = [] → s.regFld (REGION_ROWMAP r) 0 4 = 10 →
      (∀ p, p < 11 → s.regFld (REGION_COLMAP r p) 0 4 = 12) → Answers (.microBatchBoundary region failed) s fun t =>
        t.regFld (REGION_COLMAP r (f / 13)) 0 4 = f % 13 ∧ t.regFld (REGION_ROWMAP r) 0 4 = 10 ∧
        t.regFld (REGION_MAPGEN r) 0 16 = (s.regFld (REGION_MAPGEN r) 0 16 + 1) % 65536 ∧
        (∀ i, i < 120 → t.phys (r * 120 + i) ≠ r * 143 + f) ∧ (t.region r).dead = [f] ∧ (t.region r).newDead = [] ∧
        t.isDark r = false ∧ (∀ k, k / 143 ≠ r → t.core k = s.core k) ∧ (∀ q, q ≠ r → t.region q = s.region q) ∧
        RegsSameBut s t ([REGION_ROWMAP r, REGION_MAPGEN r] ++ (List.range 11).map (REGION_COLMAP r)) ∧ MemSame s t) ∧
    (s.isDark r = false → between → (s.region r).darkDue = true → Answers (.microBatchBoundary region failed) s fun t =>
      (t.region r).dark = some .riskLevel ∧ t.regBit HEALTH_FLAGS 0 = true ∧ MemSame s t)) ∧
  (∀ (region : Fin 64) (s : State),
    let x := s.region region
    let repairing := ∃ c st q e, x.owner = some c ∧ (s.ctx c).step = some st ∧ q ∈ st.repairs ∧ e ∈ x.restores ∧ e.2.crate = q.crate
    (x.refetch = false ∨ repairing → exec (.repairRefetchComplete region) s = .next s) ∧
    (x.refetch = true → ¬ repairing → Answers (.repairRefetchComplete region) s fun t =>
      (t.region region).refetch = false ∧ (t.region region).restores = [] ∧ (∀ q, q ≠ region.val → t.region q = s.region q) ∧
      MemSame s t ∧ (x.owner = none ∨ x.restores = [] → RegsSame s t ∧ t.ctxs = s.ctxs ∧ t.cores = s.cores) ∧
      (∀ c l h, x.owner = some c → x.restores = [(l, h)] →
        let p := meplace (s.entry c h.crate)
        let y := t.core (s.phys l)
        CoresSameBut s t (s.phys l) ∧ BenchSameBut s t (s.phys l) (32 * h.first) (32 * h.grans) ∧
        RegsSameBut s t [CTX_MEM_STATUS c, CTX_TIER_ENDS c] ∧
        (s.crateRetired c h.crate = false → y.bench.read (32 * h.first) (32 * h.grans) = s.placeRead p (32 * h.gran) (32 * h.grans) ∧
          ∀ i, i < h.grans → (y.poisoned (h.first + i) 1 = true ↔ s.placeBad p (h.gran + i) 1 = true)) ∧
        (s.crateRetired c h.crate = true → ∀ i, i < h.grans → y.poisoned (h.first + i) 1 = true))))

/-! Weight streaming and the memory tiers. -/

/-- The prefetch schedule issues every entry whose position lies within the window, and no other (R322), in resident-stage mode
every stage's that a slot names (R333); a landed crate stands in the bench of every entry core of its group (R310, R311),
poisoned in a region whose delivery failed (R313), and one under repair does not land yet; a ready gate opens only when every
first-wave crate of its position has landed (R323), its layer starts in an epoch that is not held (R34), and a gate that opens
late deepens the prefetch by one, to KMAX at most (R324). A fetch of a weight crate that ends starts a repair, which asks the
peers of the replica list in turn (R327); the crate that a peer sends is written to a spare and is delivered (R332). A repair that
is disabled, has no peer or no spare left, or passes its deadline fails (R329, R330): the crate awaits rebuild, and every
micro-batch of the module in the step is doubtful. -/
def Obligations.WeightsAreStreamedAndRepaired : Prop :=
  (∀ (ctx : Fin 64) (s : State) (st : StepRun), (s.ctx ctx).step = some st →
     let p := st.prog
     (st.variant ≠ none → s.phase ctx < 4 → s.foremanOn = true → Answers (.prefetchFetch ctx) s fun t =>
       ∃ st', (t.ctx ctx).step = some st' ∧ st'.landed = st.landed ∧ st'.opened = st.opened ∧ t.cores = s.cores ∧
         RegsSame s t ∧ MemSame s t ∧
         (p.stream.resident = false → ∀ (i : Nat) (e : PfEntry), p.entries[i]? = some e → e.pos < p.stream.npos →
           (i ∈ st'.issued ↔ i ∈ st.issued ∨ (e.pos < (match st.pos with | some q => q + 1 | none => 0) + st.k ∧
             (e.pos ≤ p.stream.kmax ∨ e.pos ≤ st.ended + p.stream.kmax)))) ∧
         (p.stream.resident = true → ∀ (i : Nat) (e : PfEntry), p.entries[i]? = some e →
           (i ∈ st'.issued ↔ i ∈ st.issued ∨ e.pos ∈ p.stageOrder))) ∧
     (∀ (entry : Nat) (e : PfEntry) (failed : List (Fin 64)), p.entries[entry]? = some e → e.crate ∉ st.failed →
       (∃ r ∈ st.repairs, r.crate = e.crate) → exec (.crateLanding ctx entry failed) s = .next s) ∧
     (∀ (entry : Nat) (e : PfEntry) (failed : List (Fin 64)), p.entries[entry]? = some e → entry ∈ st.issued → entry ∉ st.landed →
       e.crate ∉ st.failed → (∀ r ∈ st.repairs, r.crate ≠ e.crate) → s.crateRetired ctx e.crate = false →
       Answers (.crateLanding ctx entry failed) s fun t =>
         let g := p.groups.getD e.group default
         let at_ := p.landAt e
         (∃ st', (t.ctx ctx).step = some st' ∧ st'.landed = st.landed ++ [entry] ∧ st'.issued = st.issued) ∧
         (∀ r ∈ markedRegions g.regions, s.isDark r = false → (s.region r).owner = some ctx.val → ∀ l ∈ g.cores r,
           (∀ j, j < 65536 → (t.core (s.phys l)).bench.byte (32 * at_ + j) =
             (s.placeRead (meplace (s.entry ctx e.crate)) 0 65536).getD j 0#8) ∧
           ((∃ f ∈ failed, f.val = r) → ∀ n, n < 2048 → at_ + n ∈ (t.core (s.phys l)).poison)) ∧
         (∀ k, BenchSameBut s t k (32 * at_) 65536) ∧ (failed = [] → RegsSame s t) ∧ MemSame s t) ∧
     (∀ (pos : Nat) (waited : Bool),
       (∀ (i : Nat) (e : PfEntry), p.entries[i]? = some e → e.pos = pos → e.wave1 = true → i ∉ st.landed →
         exec (.readyGateOpen ctx pos waited) s = .next s) ∧
       (s.gateReady ctx pos st = true →
         let late := p.stream.resident = false ∧ 1 ≤ pos ∧ waited = true ∧ s.effFld (STREAM_CONTROL ctx) 0 1 = 1
         Answers (.readyGateOpen ctx pos waited) s fun t =>
           (∃ st', (t.ctx ctx).step = some st' ∧ st'.opened = st.opened ++ [pos] ∧ st'.pos = some pos ∧
             (late → st'.k = min (st.k + 1) p.stream.kmax) ∧ (¬ late → st'.k = st.k)) ∧
           t.regFld (STREAM_STATUS ctx) 0 12 = pos % 4096 ∧
           (late → t.reg (STREAM_LATE_GATES ctx) = s.reg (STREAM_LATE_GATES ctx) + 1#32 ∧ t.regBit (STREAM_FLAGS ctx) 0 = true) ∧
           (¬ late → t.reg (STREAM_LATE_GATES ctx) = s.reg (STREAM_LATE_GATES ctx)) ∧
           (p.stream.resident = false → st.running = true → s.fabric.held = false → t.phase ctx = passPhase (p.slots.getD st.slotNo default).pass) ∧
           RegsSameBut s t [STREAM_STATUS ctx, STREAM_LATE_GATES ctx, STREAM_FLAGS ctx, CTX_STATUS ctx] ∧ MemSame s t))) ∧
  (∀ (ctx : Fin 64) (s : State) (st : StepRun) (crate : W32), (s.ctx ctx).step = some st →
     let n := crate.toNat
     let fails (t : State) : Prop := n ∈ (t.ctx ctx).awaiting ∧ t.regBit (STREAM_FLAGS ctx) 2 = true ∧
       (∀ mb, mb < st.prog.tokens.length → mb ∈ (t.ctx ctx).doubt) ∧
       (∃ st', (t.ctx ctx).step = some st' ∧ n ∈ st'.failed ∧ st'.dropped = true ∧ ∀ r ∈ st'.repairs, r.crate ≠ n) ∧
       (st.dropped = false → t.reg (STREAM_DROPPED ctx) = s.reg (STREAM_DROPPED ctx) + 1#32) ∧ MemSame s t
     (∀ (entry : Nat) (e : PfEntry) (how : TierEnd), st.prog.entries[entry]? = some e → e.crate = n → entry ∈ st.issued →
       entry ∉ st.landed → (∀ r ∈ st.repairs, r.crate ≠ n) →
       (s.effFld (STREAM_CONTROL ctx) 1 1 = 1 → s.replicas ctx ≠ [] → s.repairsOn < 16 →
         (∀ c, c < 64 → ∀ q, (s.ctx c).step = some q → ∀ r ∈ q.repairs, r.peer ≠ none) →
         Answers (.weightFetchEnd ctx entry how) s fun t =>
           (∃ st', (t.ctx ctx).step = some st' ∧ (∃ r ∈ st'.repairs, r.entry = entry ∧ r.crate = n ∧ r.peer = some 0) ∧
             st'.landed = st.landed) ∧ t.reg (STREAM_LAST_CRATE ctx) = crate ∧
           t.reg (CTX_TIER_ENDS ctx) = s.reg (CTX_TIER_ENDS ctx) + 1#32 ∧ t.regBit (CTX_MEM_STATUS ctx) 4 = true ∧ MemSame s t) ∧
       (s.effFld (STREAM_CONTROL ctx) 1 1 = 0 ∨ s.replicas ctx = [] → Answers (.weightFetchEnd ctx entry how) s fun t =>
         fails t ∧ t.reg (STREAM_LAST_CRATE ctx) = crate)) ∧
     (∀ entry q (i : Nat), st.repairs.find? (fun r => r.crate == n) = some ⟨entry, n, some i, q⟩ →
       let asks (c : Instr) : Prop :=
         (∀ m, (s.replicas ctx)[i + 1]? = some m → Answers c s fun t => (t.ctx ctx).awaiting = (s.ctx ctx).awaiting ∧
           (∃ st', (t.ctx ctx).step = some st' ∧ ∃ r ∈ st'.repairs, r.crate = n ∧ r.peer = some (i + 1)) ∧ MemSame s t) ∧
         ((s.replicas ctx)[i + 1]? = none → Answers c s fails)
       asks (.repairPeerSilent ctx crate) ∧ asks (.repairPeerAnswer ctx crate .refuses) ∧
       (∀ tag bytes, tag.toNat ≠ s.tag ctx ∨ bytes.length ≠ 65536 → asks (.repairPeerAnswer ctx crate (.data tag bytes))) ∧
       (∀ tag bytes, tag.toNat = s.tag ctx → bytes.length = 65536 →
         let u := if (s.ctx ctx).awaiting.contains n then s else s.modCtx ctx fun x => { x with awaiting := x.awaiting ++ [n] }
         ((u.rehome ctx n).2 = false → Answers (.repairPeerAnswer ctx crate (.data tag bytes)) s fails) ∧
         ((u.rehome ctx n).2 = true →
         Answers (.repairPeerAnswer ctx crate (.data tag bytes)) s fun t =>
           t.placeRead (meplace (t.entry ctx n)) 0 65536 = bytes ∧ n ∉ (t.ctx ctx).awaiting ∧
           t.reg (STREAM_REPAIRED ctx) = s.reg (STREAM_REPAIRED ctx) + 1#32 ∧ t.regBit (STREAM_FLAGS ctx) 1 = true ∧
           (∃ st', (t.ctx ctx).step = some st' ∧ (∀ r ∈ st'.repairs, r.crate ≠ n) ∧
             ∀ j ∈ st.issued, (st.prog.entries.getD j default).crate = n → j ∈ st'.landed) ∧ HostSame s t)) ∧
       Answers (.repairDeadline ctx crate) s fails))

/-- A late stockroom request ends LATE (R278, R279), and a link transfer of it that has failed all four repeats is a lasting fault
(R397, R398); a stockroom piece that reads badly twice leaves its crate awaiting rebuild (R277, R280), and one that reads well
the second time is a transient fault; an uncorrectable cellar granule is poisoned and its crate due to move, and the
transfer that read it ends with code 4 (R274, R302); an uncorrectable bench word poisons its granule, which is fetched again
where it is a crate's (R53), and a second error of the same word within the step is a lasting fault of the core (R268). Each
that ends a request makes the micro-batch that it served doubtful, and leaves the bench granules it was to fill poisoned. -/
def Obligations.TierErrorsEndRequests : Prop :=
  (∀ (ctx : Fin 64) (crate : W32) (mb : Option (BitVec 16)) (dest : List BenchSpan) (s : State) (st : StepRun),
    (s.ctx ctx).step = some st → (∀ m, mb = some m → m.toNat ∉ st.judged) →
    let n := crate.toNat
    let frame (t : State) : Prop := (∀ m, mb = some m → m.toNat ∈ (t.ctx ctx).doubt) ∧ (mb = none → (t.ctx ctx).doubt = (s.ctx ctx).doubt) ∧
      (∀ d ∈ dest, ∀ i, i < min d.grans (benchGrans - d.first.toNat) → d.first.toNat + i ∈ (t.core (s.phys d.core)).poison) ∧
      (∀ k, (∀ d ∈ dest, s.phys d.core ≠ k) → t.core k = s.core k) ∧ t.regions = s.regions ∧
      t.reg (CTX_TIER_ENDS ctx) = s.reg (CTX_TIER_ENDS ctx) + 1#32 ∧ t.regBit (CTX_MEM_STATUS ctx) 4 = true ∧ MemSame s t
    (meTier (s.entry ctx n) = 2 → s.crateRetired ctx n = false →
      (∀ link : Bool, Answers (.stockroomRequestLate ctx crate link mb dest) s fun t => frame t ∧
        (t.ctx ctx).awaiting = (s.ctx ctx).awaiting ∧
        (link = true → t.reg QUOTA_LINK_RETRY = s.reg QUOTA_LINK_RETRY + 4#32 ∧
          t.reg HEALTH_FAULTS_LASTING = s.reg HEALTH_FAULTS_LASTING + 1#32) ∧
        RegsSameBut s t ([CTX_TIER_ENDS ctx, CTX_MEM_STATUS ctx] ++ if link then [QUOTA_LINK_RETRY, HEALTH_FAULTS_LASTING] else [])) ∧
      (Answers (.stockroomUncorrRead ctx crate true mb dest) s fun t => frame t ∧
        n ∈ (t.ctx ctx).awaiting ∧ t.crateRetired ctx n = true ∧
        t.reg HEALTH_FAULTS_LASTING = s.reg HEALTH_FAULTS_LASTING + 1#32 ∧
        RegsSameBut s t [CTX_TIER_ENDS ctx, CTX_MEM_STATUS ctx, HEALTH_FAULTS_LASTING, HEALTH_FLAGS]) ∧
      (Answers (.stockroomUncorrRead ctx crate false mb dest) s fun t =>
        (t.ctx ctx).doubt = (s.ctx ctx).doubt ∧ (t.ctx ctx).awaiting = (s.ctx ctx).awaiting ∧
        t.reg HEALTH_FAULTS_TRANSIENT = s.reg HEALTH_FAULTS_TRANSIENT + 1#32 ∧
        RegsSameBut s t [HEALTH_FAULTS_TRANSIENT] ∧ t.cores = s.cores ∧ t.regions = s.regions ∧ MemSame s t)) ∧
    (∀ (granule : Fin 2048) (m : BitVec 16), mb = some m → meTier (s.entry ctx n) = 1 → s.crateRetired ctx n = false →
      let poisons (t : State) : Prop := m.toNat ∈ (t.ctx ctx).doubt ∧ n ∈ (t.ctx ctx).cellarDue ∧
        t.placeBad (meplace (t.entry ctx n)) granule 1 = true ∧ t.reg (CTX_TIER_ENDS ctx) = s.reg (CTX_TIER_ENDS ctx) + 1#32 ∧
        t.reg HEALTH_FAULTS_LASTING = s.reg HEALTH_FAULTS_LASTING + 1#32 ∧ MemSame s t
      let regs := [CTX_TIER_ENDS ctx, CTX_MEM_STATUS ctx, HEALTH_FAULTS_LASTING]
      (s.readerOf ctx n granule m.toNat = none → Answers (.cellarUncorrRead ctx crate granule m) s fun t =>
        poisons t ∧ RegsSameBut s t regs ∧ t.cores = s.cores) ∧
      (∀ l k x, s.readerOf ctx n granule m.toNat = some (l, k, x) → s.inBay ctx l n = true →
        let moved := granule.val - x.addr % 65536 / 32
        Answers (.cellarUncorrRead ctx crate granule m) s fun t => poisons t ∧ (t.core k).sreg x.sreg = w32 (4 + moved * 65536) ∧
          (t.core k).xfers = (s.core k).xfers.drop 1 ∧ (∀ i, moved ≤ i → i < x.len → x.bench + i ∈ (t.core k).poison) ∧
          BenchSameBut s t k (32 * x.bench) (32 * x.len) ∧ CoresSameBut s t k ∧ RegsSameBut s t (regs ++ counterRegs k)))) ∧
  (∀ (core : Fin 7680) (granule : BitVec 16) (again : Bool) (reader : BenchReader) (s : State) (c : Nat), s.coreCtx core = some c →
    let k := s.phys core
    let x := s.core k
    let g := granule.toNat
    let r := core.val / 120
    Answers (.benchUncorrRead core granule again reader) s fun t =>
      g ∈ (t.core k).poison ∧ g ∈ (t.core k).uncorr ∧ (t.core k).bench = x.bench ∧ x.readMb reader ∈ (t.ctx c).doubt ∧
      t.reg HEALTH_FAULTS_LASTING = s.reg HEALTH_FAULTS_LASTING + 1#32 ∧ RegsSameBut s t [HEALTH_FAULTS_LASTING] ∧
      (again = true ∧ g ∈ x.uncorr → (t.core k).lasting = true ∧ k % 143 ∈ (t.region r).newDead ∧ x.mb ∈ (t.ctx c).doubt) ∧
      (again = false ∨ g ∉ x.uncorr → (t.core k).lasting = x.lasting ∧ (t.region r).newDead = (s.region r).newDead) ∧
      (∀ h, x.homes.find? (fun h => decide (h.first ≤ g ∧ g < h.first + h.grans)) = some h →
        (t.region r).refetch = true ∧ (core.val, h) ∈ (t.region r).restores) ∧
      (∀ q, q ≠ r → t.region q = s.region q) ∧ CoresSameBut s t k ∧ MemSame s t)

/-- Rebuilding and moving crates: a crate that awaits rebuild is rewritten into a spare physical crate and carries no poisoned mark
(R280); with no spare to be had it stays retired. A migration counts its crate in both tiers (R292), and does not start without
a trigger; at the switch the entry names a copy of every byte and mark, with the source wiped (R293, R306), but a copy whose
target is lost, or whose crate is retired, is given up. A channel's lost pieces come from a replica and the rest from the
stockroom (R413); without an answer of this step the crate stays retired and counts as lost (R415). -/
def Obligations.CratesAreRebuiltAndMoved : Prop :=
  ∀ (ctx : Fin 64) (crate : W32) (s : State),
    let n := crate.toNat
    let e := s.entry ctx n
    (∀ contents : List Byte, n ∈ (s.ctx ctx).awaiting → (s.ctx ctx).noMap = false → contents.length = 65536 →
      ((s.rehome ctx n).2 = true → Answers (.crateRebuild ctx crate contents) s fun t =>
        t.placeRead (meplace (t.entry ctx n)) 0 65536 = contents ∧ t.placeBad (meplace (t.entry ctx n)) 0 2048 = false ∧
        n ∉ (t.ctx ctx).awaiting ∧ RegsSameBut s t [QUOTA_MEM_STATUS, MOD_MGMT_FLAGS] ∧ t.cores = s.cores ∧ HostSame s t) ∧
      ((s.rehome ctx n).2 = false → Answers (.crateRebuild ctx crate contents) s fun t =>
        t.regBit QUOTA_MEM_STATUS 5 = true ∧ (t.ctx ctx).awaiting = (s.ctx ctx).awaiting ∧ t.entry ctx n = e ∧
        RegsSameBut s t [QUOTA_MEM_STATUS, HEALTH_FLAGS] ∧ t.cores = s.cores ∧ MemSame s t)) ∧
    (s.ctxOn ctx = true → s.foremanOn = true → mePin e = false → meBound e = false → s.crateRetired ctx n = false →
      (∀ m ∈ (s.ctx ctx).migrations, m.crate ≠ n) → s.gateWants ctx n = false →
      (∀ l, s.trigger ctx n = some true → 0 < s.cellarRoom ctx → s.homeSlot ctx e = some l →
        Answers (.migrationStart ctx crate) s fun t => (t.ctx ctx).migrations = (s.ctx ctx).migrations ++ [⟨n, true, l⟩] ∧
          t.entry ctx n = e ∧ t.useCellar ctx = s.useCellar ctx + 1 ∧ t.useStock ctx = s.useStock ctx ∧ RegsSame s t ∧ MemSame s t) ∧
      (∀ l, s.trigger ctx n = some false → 0 < s.stockRoom ctx → s.freeStock = some l →
        Answers (.migrationStart ctx crate) s fun t => (t.ctx ctx).migrations = (s.ctx ctx).migrations ++ [⟨n, false, l⟩] ∧
          t.entry ctx n = e ∧ t.useStock ctx = s.useStock ctx + 1 ∧ t.useCellar ctx = s.useCellar ctx ∧ RegsSame s t ∧ MemSame s t) ∧
      (s.trigger ctx n = none → exec (.migrationStart ctx crate) s = .next s)) ∧
    (∀ m, (s.ctx ctx).migrations.find? (fun m => m.crate == n) = some m →
      s.crateRetired ctx n = true ∨ (m.toCellar = true ∧ s.isDark (nfld m.loc 0 6) = true) ∨ (m.toCellar = false ∧ s.stockRetired m.loc = true) →
      Answers (.migrationSwitch ctx crate) s fun t => (∀ q ∈ (t.ctx ctx).migrations, q.crate ≠ n) ∧ t.entry ctx n = e ∧
        RegsSame s t ∧ t.cores = s.cores ∧ MemSame s t) ∧
    (∀ m, (s.ctx ctx).migrations.find? (fun m => m.crate == n) = some m → s.crateRetired ctx n = false →
      (m.toCellar = true → s.isDark (nfld m.loc 0 6) = false) → (m.toCellar = false → s.stockRetired m.loc = false) → meBound e = false → s.requested ctx n = false →
      meTier e = (if m.toCellar then 2 else 1) → Answers (.migrationSwitch ctx crate) s fun t =>
        let new := t.entry ctx n
        meTier new = (if m.toCellar then 1 else 2) ∧ meLoc new = m.loc % 2 ^ 28 ∧
        t.placeRead (meplace new) 0 65536 = s.placeRead (meplace e) 0 65536 ∧
        (∀ g, g < 2048 → t.placeBad (meplace new) g 1 = s.placeBad (meplace e) g 1) ∧
        t.placeRead (meplace e) 0 65536 = List.replicate 65536 0#8 ∧ (∀ q ∈ (t.ctx ctx).migrations, q.crate ≠ n) ∧
        RegsSame s t ∧ t.cores = s.cores ∧ HostSame s t) ∧
    (let p := meLoc e
      let lost := s.lostPieces p
      let gone (t : State) : Prop := n ∈ (t.ctx ctx).orphans ∧ (t.ctx ctx).awaiting = (s.ctx ctx).awaiting ∧
        (n ∉ (s.ctx ctx).orphans → t.regBit HEALTH_FLAGS 5 = true) ∧ t.cores = s.cores ∧ MemSame s t
      n ∈ (s.ctx ctx).awaiting → (s.ctx ctx).noMap = false → meTier e = 2 → lost ≠ [] →
      (∀ (tag : Byte) (bs : List Byte), tag.toNat = s.tag ctx → bs.length = 4096 * lost.length →
        ((∀ f, ({ s with fresh := f }.rehome ctx n).2 = true) → Answers (.channelRebuild ctx crate (.data tag bs)) s fun t =>
          (∀ i, i < 16 → ((t.placeRead (meplace (t.entry ctx n)) 0 65536).drop (4096 * i)).take 4096 =
            (match lost.idxOf? i with
              | some j => (bs.drop (4096 * j)).take 4096
              | none => ((s.placeRead (.stock (stockBase p)) 0 65536).drop (4096 * i)).take 4096)) ∧
          n ∉ (t.ctx ctx).awaiting ∧ t.cores = s.cores ∧ HostSame s t) ∧
        ((∀ f, ({ s with fresh := f }.rehome ctx n).2 = false) → Answers (.channelRebuild ctx crate (.data tag bs)) s fun t =>
          t.regBit QUOTA_MEM_STATUS 5 = true ∧ (t.ctx ctx).awaiting = (s.ctx ctx).awaiting ∧ t.cores = s.cores ∧ MemSame s t)) ∧
      (∀ (tag : Byte) (bs : List Byte), tag.toNat ≠ s.tag ctx ∨ bs.length ≠ 4096 * lost.length →
        Answers (.channelRebuild ctx crate (.data tag bs)) s gone) ∧
      Answers (.channelRebuild ctx crate .refuses) s gone ∧ Answers (.channelRebuild ctx crate .silent) s gone)

/-- The end of a tier's wipe clears its bit of QUOTA_WIPE_STATUS; with the last one the wipe is over, which lets a reset enter RUN
and a finished bring-up set READY (R305, R541). The end of a teardown's wipe leaves every crate that the context has had
zero, and frees the context once every entry is written (R306, R445); a context that has lost both copies of its map is torn
down (R290), and a map that has lost one copy gets another, and so does the scale ledger (R289, R186). -/
def Obligations.WipesAndCopies : Prop :=
  (∀ (tier : MemTier) (s : State),
    let bit := match tier with | .bench => 0 | .cellar => 1 | .stock => 2
    let last := ∀ b, b < 3 → b ≠ bit → s.regBit QUOTA_WIPE_STATUS b = false
    (s.boot.wiping = false → exec (.wipeComplete tier) s = .next s) ∧
    (s.boot.wiping = true → ¬ last → Answers (.wipeComplete tier) s fun t =>
      t.regBit QUOTA_WIPE_STATUS bit = false ∧ (∀ b, b < 32 → b ≠ bit → t.regBit QUOTA_WIPE_STATUS b = s.regBit QUOTA_WIPE_STATUS b) ∧
      t.boot = s.boot ∧ RegsSameBut s t [QUOTA_WIPE_STATUS] ∧ HoldingsSame s t ∧ MemSame s t) ∧
    (s.boot.wiping = true → last → Answers (.wipeComplete tier) s fun t =>
      t.boot.wiping = false ∧ t.boot.inReset = false ∧ t.regFld QUOTA_WIPE_STATUS 0 3 = 0 ∧
      (s.boot.inReset = true → t.modState = 0) ∧ (s.boot.inReset = false → t.modState = s.modState) ∧
      (s.bringup = 4 → s.boot.off = false → s.regFld POWER_STATUS 0 3 = 3 → t.ready = true ∧ t.boot.busy = false) ∧
      (s.bringup ≠ 4 → t.ready = s.ready) ∧
      RegsSameBut s t [QUOTA_WIPE_STATUS, MOD_STATUS, MOD_FABRIC_STATUS] ∧ HoldingsSame s t ∧ MemSame s t)) ∧
  ∀ (ctx : Fin 64) (s : State),
    (ctx.val ∈ s.wipes → s.ctxState ctx = 2 → Answers (.teardownWipeComplete ctx) s fun t =>
      (∀ e ∈ (s.ctx ctx).gone, t.placeRead (meplace e) 0 65536 = List.replicate 65536 0#8) ∧ ctx.val ∉ t.wipes ∧
      ((∀ w ∈ s.wipes, w = ctx.val) → t.regBit QUOTA_WIPE_STATUS 3 = false) ∧
      ((s.ctx ctx).taken = [] → t.ctxState ctx = 0 ∧ t.ctx ctx = Ctx.reset ∧ ∀ r, r < 64 → (t.region r).owner ≠ some ctx.val) ∧
      (∀ c, c ≠ ctx.val → t.ctx c = s.ctx c) ∧ HostSame s t) ∧
    ((s.ctx ctx).noMap = true → s.ctxState ctx = 1 → Answers (.crateMapLost ctx) s fun t =>
      t.ctxState ctx = 2 ∧ (t.ctx ctx).step = none ∧ ctx.val ∈ t.wipes ∧ (∀ d ∈ (t.ctx ctx).taken, d.result ≠ none) ∧
      t.regBit HEALTH_FLAGS 5 = true ∧ MemSame s t) ∧
    (∀ a, (s.ctx ctx).mapAt = [a] → Answers (.crateMapCopyRebuild ctx) s fun t =>
      (t.ctx ctx).mapAt = [a, otherRow ((s.ctxRegions ctx).filter fun r => !s.isDark r) a] ∧ (t.ctx ctx).map = (s.ctx ctx).map ∧
      RegsSame s t ∧ t.cores = s.cores ∧ MemSame s t) ∧
    (∀ a, (s.ctx ctx).scaleAt = [a] → Answers (.scaleCopyRebuild ctx) s fun t =>
      (t.ctx ctx).scaleAt = [a, otherRow ((s.ctxRegions ctx).filter fun r => !s.isDark r) a] ∧
      (t.ctx ctx).scaleA = (s.ctx ctx).scaleA ∧ (t.ctx ctx).scaleB = (s.ctx ctx).scaleA ∧
      t.regBit (CTX_SCALE_STATUS ctx) 24 = false ∧ RegsSameBut s t [CTX_SCALE_STATUS ctx] ∧ t.cores = s.cores ∧ MemSame s t)

/-! The gradient path and the commit. -/

/-- The tally units (R189, R340, R342, R345, R347, R348): a core's fabric sum waits in its region's exit unit until the inputs that the
plan lists have come, and the region's sum then stands in the module's tally unit, as a delivered sum does; one that fails its
CRC or carries another tag is taken as NULL with its micro-batch withheld; a tile word of the first pass is kept, and at the
root the job-wide OBS gives the tile its exponent byte, as one from the parent does below it. A doubtful verdict empties what a
gate holds of its micro-batch; above the gate a failed sum is asked for once more, and then is NULL. Sums that saturate no
accumulator add up exactly; a tile is sealed with the smallest shift at which its elements fit, and a sealed tile that arrives is
kept while its crate fits the quota (R299). -/
def Obligations.SumsAreExact : Prop :=
  (∀ ins : List SumInput, (tallyInt ins).2 = false → ∀ n, (tallyInt ins).1.getD n 0 = (ins.map fun i => i.elems.getD n 0).sum) ∧
  (∀ (tag : Nat) (i : SumInput), shNULL i.hdr = false →
    let q := sealTile false tag i
    let fits (k : Nat) (v : Int) : Prop := ((FVal.ofInt v).scale (-(k : Int))).roundInt.natAbs ≤ 32767
    swSHIFT q.word ≤ 48 ∧ (∀ k, k < swSHIFT q.word → ∃ v ∈ i.elems, ¬ fits k v) ∧ swTAG q.word = tag % 256 ∧
    q.elems.length = i.elems.length ∧ ∀ (n : Nat) (v : Int), i.elems[n]? = some v → fits (swSHIFT q.word) v →
      q.elems[n]? = some ((FVal.ofInt v).scale (-(swSHIFT q.word : Int))).roundInt) ∧
  ∀ (ctx : Fin 64) (s : State) (st : StepRun), (s.ctx ctx).step = some st →
    (∀ (i : SumInput) (h : Shard),
      let t := shTILE i.hdr
      let mb := shMB i.hdr
      let same (u : State) : Prop := MemSame s u ∧ u.cores = s.cores
      s.shardOf ctx t = some h →
      (shTAG i.hdr = s.tag ctx → shGood i.hdr = true → shFP i.hdr = s.gmode ctx →
        (mb = 0xFFFF ∨ s.verdictOn ctx mb st ≠ some false ∨ h.settles = false) →
        (∀ (core : Fin 7680) (stream : Fin 256) (hdr : W256) (of : Nat), s.fabricSum core stream hdr = some i →
          let r := core.val / 120
          let src := SumFrom.fabric core stream
          let ins := fabricInputs r ((st.sum t mb).filter (fun e => e.1 != src) ++ [(src, i)])
          let sum := (combineSums t mb (s.tag ctx) (s.gmode ctx) ins).1
          let keep (e : SumFrom × SumInput) : Bool := match e.1 with | .fabric k _ => k / 120 != r | _ => true
          let u := s.modStep ctx fun st => { st with sums := (putInput t mb (src, i) st.sums).map fun q =>
            if q.tile = t ∧ q.mb = mb then { q with inputs := q.inputs.filter keep } else q }
          (s.region r).owner = some ctx.val → st.regionSent t mb r = false → s.tallyFits ctx t mb (src, i) = true →
          (ins.length < of → Answers (.sumReceive ctx (.fabric core stream hdr of)) s fun u => same u ∧ RegsSame s u ∧
            ∃ st', (u.ctx ctx).step = some st' ∧ (src, i) ∈ st'.sum t mb) ∧
          (of ≤ ins.length → u.tallyFits ctx t mb (.region r, sum) = true →
            Answers (.sumReceive ctx (.fabric core stream hdr of)) s fun u => same u ∧
              ∃ st', (u.ctx ctx).step = some st' ∧ (SumFrom.region r, sum) ∈ st'.sum t mb)) ∧
        (∀ m rest, (s.ctx ctx).delivered = ⟨m, i⟩ :: rest → i.elems ≠ [] ∨ shNULL i.hdr = true ∨ s.gmode ctx = true →
          s.tallyFits ctx t mb (.module m, i) = true →
          Answers (.sumReceive ctx .delivered) s fun u => same u ∧ (u.ctx ctx).delivered = rest ∧
            ∃ st', (u.ctx ctx).step = some st' ∧ (SumFrom.module m, i) ∈ st'.sum t mb)) ∧
      (shTAG i.hdr ≠ s.tag ctx ∨ shGood i.hdr = false →
        (∀ (core : Fin 7680) (stream : Fin 256) (hdr : W256) (of : Nat), s.fabricSum core stream hdr = some i →
          (s.region (core.val / 120)).owner = some ctx.val → st.regionSent t mb (core.val / 120) = false →
          Answers (.sumReceive ctx (.fabric core stream hdr of)) s fun u => same u ∧ mb ∈ (u.ctx ctx).doubt ∧
            u.regBit (STREAM_LEDGER_FLAGS ctx) 2 = true) ∧
        (∀ m rest, (s.ctx ctx).delivered = ⟨m, i⟩ :: rest → mb ≠ 0xFFFF →
          Answers (.sumReceive ctx .delivered) s fun u => same u ∧ (u.ctx ctx).delivered = rest ∧
            u.regBit (STREAM_LEDGER_FLAGS ctx) 2 = true ∧ (h.settles = false → mb ∈ (u.ctx ctx).doubt) ∧
            ∃ st', (u.ctx ctx).step = some st' ∧
              (SumFrom.module m, nullInput t mb (s.tag ctx) (s.gmode ctx)) ∈ st'.sum t mb)) ∧
      (∀ m rest, (s.ctx ctx).delivered = ⟨m, i⟩ :: rest → i.elems = [] → shNULL i.hdr = false → s.gmode ctx = false →
        shTAG i.hdr = s.tag ctx → shGood i.hdr = true →
        (h.root = true ∨ m ≠ h.parent → Answers (.sumReceive ctx .delivered) s fun u => same u ∧ (u.ctx ctx).delivered = rest ∧
          ∃ st', (u.ctx ctx).step = some st' ∧ (SumFrom.module m, shWORD i.hdr) ∈ st'.words t) ∧
        (∀ n, h.root = false → m = h.parent → s.weightEntry ctx t = some n → st.scales[n]? = some none →
          Answers (.sumReceive ctx .delivered) s fun u => same u ∧ (u.ctx ctx).delivered = rest ∧
            ∃ st', (u.ctx ctx).step = some st' ∧ st'.scales[n]? = some (some (recipeByte 2 (fld (shWORD i.hdr) 8 8)))))) ∧
    (∀ (core : Fin 7680) (tile word : W32) (of : Nat) (h : Shard), s.shardOf ctx tile.toNat = some h → s.gmode ctx = false →
      (s.region (core.val / 120)).owner = some ctx.val →
      (Answers (.sumReceive ctx (.word core tile word of)) s fun u => MemSame s u ∧ u.cores = s.cores ∧
        ∃ st', (u.ctx ctx).step = some st' ∧ (SumFrom.fabric core 0, setFld word 0 8 0) ∈ st'.words tile.toNat) ∧
      (∀ n, h.root = true → h.nchild = 0 → s.sumRegions ctx = [core.val / 120] → of ≤ 1 → (∀ q ∈ st.firsts, q.tile ≠ tile.toNat) →
        s.weightEntry ctx tile.toNat = some n → st.scales[n]? = some none →
        Answers (.sumReceive ctx (.word core tile word of)) s fun u => MemSame s u ∧ u.cores = s.cores ∧
          ∃ st', (u.ctx ctx).step = some st' ∧ st'.scales[n]? = some (some (recipeByte 2 (fld word 8 8))))) ∧
    (∀ (m : Fin 131072) (mb : BitVec 16), s.ctxState ctx = 1 → (∀ v ∈ st.verdicts, v.1 = mb.toNat → v.2.1 ≠ m.val) →
      (Answers (.verdictReceive ctx m mb true) s fun u => MemSame s u ∧ u.cores = s.cores ∧
        ∃ st', (u.ctx ctx).step = some st' ∧ st'.verdicts = st.verdicts ++ [(mb.toNat, m.val, true)]) ∧
      (Answers (.verdictReceive ctx m mb false) s fun u => MemSame s u ∧ u.cores = s.cores ∧
        ∃ st', (u.ctx ctx).step = some st' ∧ st'.verdicts = st.verdicts ++ [(mb.toNat, m.val, false)] ∧
          u.verdictOn ctx mb.toNat st' = some false ∧
          ∀ t h, s.shardOf ctx t = some h → h.settles = true → ∀ e ∈ st'.sum t mb.toNat, shNULL e.2.hdr = true)) ∧
    (∀ (m : Fin 131072) (tile : W32) (h : Shard), s.shardOf ctx tile.toNat = some h →
      let asked := ∃ q ∈ st.sums, q.tile = tile.toNat ∧ q.mb = 0xFFFF ∧ m.val ∈ q.again
      let isNull (u : State) : Prop := MemSame s u ∧ u.cores = s.cores ∧ ∃ st', (u.ctx ctx).step = some st' ∧
        (SumFrom.module m, nullInput tile.toNat 0xFFFF (s.tag ctx) (s.gmode ctx)) ∈ st'.sum tile.toNat 0xFFFF
      Answers (.sumAgain ctx m tile true) s isNull ∧ (asked → Answers (.sumAgain ctx m tile false) s isNull) ∧
      (¬ asked → Answers (.sumAgain ctx m tile false) s fun u => MemSame s u ∧ u.cores = s.cores ∧
        u.regBit (STREAM_LEDGER_FLAGS ctx) 2 = true ∧
        ∃ st', (u.ctx ctx).step = some st' ∧ ∃ q ∈ st'.sums, q.tile = tile.toNat ∧ q.mb = 0xFFFF ∧ m.val ∈ q.again)) ∧
    (∀ (tile : W32) (word : W256) (elems : List Int), recGood word.toNat = true → swTAG word = s.tag ctx → tile.toNat < s.tiles ctx →
      let put := s.modCtx ctx fun x => { x with sealed := spSet (fun _ => none) x.sealed tile.toNat (some ⟨word, elems⟩) }
      let fits := put.useStock ctx ≤ s.regFld (CTX_QUOTA_STOCK ctx) 0 28 ∨ put.useStock ctx ≤ s.useStock ctx
      (fits → Answers (.sealedTileReceive ctx tile word elems) s fun u => (u.ctx ctx).sealedTile tile.toNat = some ⟨word, elems⟩ ∧
        (∀ n, n ≠ tile.toNat → (u.ctx ctx).sealedTile n = (s.ctx ctx).sealedTile n) ∧ MemSame s u ∧ u.cores = s.cores) ∧
      (¬ fits → Answers (.sealedTileReceive ctx tile word elems) s fun u => (u.ctx ctx).sealed = (s.ctx ctx).sealed ∧
        u.regBit (CTX_MEM_STATUS ctx) 1 = true ∧ MemSame s u ∧ u.cores = s.cores))

/-- The commit (R27, R359, R361 to R365): an apply starts when every ledger tile has its sealed tile; a norm sum is kept, and with
the last one of the commit set gscale follows; a tile's update is written with its tags advanced, and its narrow copy regenerated
from it; a tile that is skipped only has its tags advanced, and no byte outside the tile changes; beacons of the step are counted, and with the last one, or at the
deadline, the step count advances by one and the step's state is gone. -/
def Obligations.CommitAppliesAndReleases : Prop :=
  ∀ (ctx : Fin 64) (s : State) (st : StepRun), (s.ctx ctx).step = some st →
    let n := s.reg (STREAM_STEP_COUNT ctx)
    let noNorm := (f32 (s.stepOpt ctx).normMax).isZero = true
    let released (t : State) : Prop := t.reg (STREAM_STEP_COUNT ctx) = n + 1#32 ∧ (t.ctx ctx).step = none ∧ t.phase ctx = 0 ∧
      (t.ctx ctx).sealed = [] ∧ (t.ctx ctx).doubt = [] ∧ t.regFld (STREAM_LEDGER_STATUS ctx) 0 3 = 0 ∧ t.stock = s.stock ∧ HostSame s t
    (s.phase ctx = 4 → s.foremanOn = true → (s.tryGates ctx).allSealed ctx = true → Answers (.applyStart ctx) s fun t =>
      t.phase ctx = 5 ∧ t.regFld (STREAM_LEDGER_STATUS ctx) 0 3 = 2 ∧ t.cores = s.cores ∧ MemSame s t ∧
      ((s.ctx ctx).secure ≠ none → t.regBit (HEALTH_SEC_FLAGS ctx) 4 = true) ∧
      ∃ st', (t.ctx ctx).step = some st' ∧ (noNorm → st'.norms = st.norms) ∧
        (¬ noNorm → st'.norms = st.norms ++ [(s.moduleId, s.lowShard ctx, (s.tryGates ctx).ownNorm ctx)])) ∧
    (∀ (m : Fin 131072) (first sum : W32), (∀ e ∈ st.norms, e.1 ≠ m.val) → Answers (.normReceive ctx m first sum) s fun t =>
      let norms := st.norms ++ [(m.val, first.toNat, sum)]
      RegsSame s t ∧ t.cores = s.cores ∧ MemSame s t ∧ ∃ st', (t.ctx ctx).step = some st' ∧ st'.norms = norms ∧
        ((∀ x ∈ s.commitSet ctx, ∃ e ∈ norms, e.1 = x) → ¬ noNorm →
          st'.gscale = gscaleOf (s.stepOpt ctx).normMax (norms.filter fun e => (s.commitSet ctx).contains e.1)) ∧
        ((∃ x ∈ s.commitSet ctx, ∀ e ∈ norms, e.1 ≠ x) → st'.gscale = st.gscale)) ∧
    (∀ (tile : W32) (q : Sealed), (s.ctx ctx).sealedTile tile.toNat = some q → s.phase ctx = 5 → tile.toNat < s.tiles ctx →
      s.foremanOn = true → s.scaleKnown ctx st = true → s.tileLost ctx tile.toNat = false →
      s.tileTagged ctx tile.toNat (s.tag ctx + 1) = false → (s.ctx ctx).swatch = none →
      let d := s.dir ctx tile.toNat
      let es := s.ledgerTile ctx tile.toNat
      let new := applyEntries (s.stepOpt ctx) st.prog.useqs (s.gmode ctx) st.gscale d q (s.tag ctx) es
      let sat := bitAt (swWord q.word) 16
      let bad := bitAt (swWord q.word) 17 || (s.gmode ctx && sealedNonfinite q)
      let still := swEMPTY q.word || swMBS q.word == 0 || d.frozen
      let off := d.addr tile.toNat % 65536
      let writes (t : State) (l : List LEntry) : Prop := HostSame s t ∧ (meTier (s.entry ctx d.lcrate) = 1 ∨ meTier (s.entry ctx d.lcrate) = 2 →
        t.tensorRead ctx (d.addr tile.toNat) (tileSize d.wide) = encodeLedger d.wide l)
      let reads := (s.foremanReads ctx (s.dirAddr ctx tile.toNat) 32).foremanReads ctx (d.addr tile.toNat) (tileSize d.wide)
      let rest (t : State) (l : List Nat) : Prop := t.cores = s.cores ∧ match meplace (s.entry ctx d.lcrate) with
        | .cellar b => (∀ a, a < b + off ∨ b + off + tileSize d.wide ≤ a → t.cellar.byte a = s.cellar.byte a) ∧ (∀ a, t.stock.byte a = s.stock.byte a) ∧
          RegsSameBut s t ([CTX_MEM_STATUS ctx, CTX_TIER_ENDS ctx] ++ l)
        | .stock b => (∀ a, a < b + off ∨ b + off + tileSize d.wide ≤ a → t.stock.byte a = s.stock.byte a) ∧ (∀ a, t.cellar.byte a = s.cellar.byte a) ∧
          RegsSameBut s t ([CTX_MEM_STATUS ctx, CTX_TIER_ENDS ctx] ++ l)
        | .none => True
      (sat = true → Answers (.ledgerTileApply ctx tile) s fun t => writes t (advanceTags (s.tag ctx) es) ∧
        t.reg (CTX_SCALE_SKIP ctx) = s.reg (CTX_SCALE_SKIP ctx) + 1#32 ∧ t.regBit (CTX_SCALE_FLAGS ctx) 0 = true ∧
        rest t [CTX_SCALE_SKIP ctx, CTX_SCALE_FLAGS ctx]) ∧
      (sat = false → bad = true → Answers (.ledgerTileApply ctx tile) s fun t => writes t (advanceTags (s.tag ctx) es) ∧
        t.reg (CTX_SCALE_NONFINITE ctx) = s.reg (CTX_SCALE_NONFINITE ctx) + 1#32 ∧ t.regBit (CTX_SCALE_FLAGS ctx) 1 = true ∧
        rest t [CTX_SCALE_NONFINITE ctx, CTX_SCALE_FLAGS ctx]) ∧
      (sat = false → bad = false → still = true → Answers (.ledgerTileApply ctx tile) s fun t =>
        writes t (advanceTags (s.tag ctx) es) ∧ rest t []) ∧
      (sat = false → bad = false → still = false → new.any badEntry = true → Answers (.ledgerTileApply ctx tile) s fun t =>
        writes t (advanceTags (s.tag ctx) es) ∧ t.reg (STREAM_SKIPPED_TILES ctx) = s.reg (STREAM_SKIPPED_TILES ctx) + 1#32 ∧
        t.regBit (STREAM_LEDGER_FLAGS ctx) 6 = true ∧ rest t [STREAM_SKIPPED_TILES ctx, STREAM_LEDGER_FLAGS ctx]) ∧
      (sat = false → bad = false → still = false → new.any badEntry = false → Answers (.ledgerTileApply ctx tile) s fun t =>
        let u := ((reads.recordTile ctx tile.toNat q).tensorWrite ctx (d.addr tile.toNat) (encodeLedger d.wide new)).1
        writes u new ∧ rest u [] ∧ t = u.writeNarrow ctx d new ∧ HostSame s t)) ∧
    (s.phase ctx = 5 → s.foremanOn = true → (s.ctx ctx).listen = .member → s.allTagged ctx (s.tag ctx + 1) = true →
      (s.ctx ctx).held = [] →
      ((∃ m ∈ s.commitSet ctx, m ≠ s.moduleId ∧ m ∉ st.beacons) → Answers (.applyComplete ctx) s fun t =>
        t.phase ctx = 6 ∧ t.regFld (STREAM_LEDGER_STATUS ctx) 0 3 = 3 ∧ t.reg (STREAM_STEP_COUNT ctx) = n ∧ t.cores = s.cores ∧
        MemSame s t ∧ ∃ st', (t.ctx ctx).step = some st' ∧ s.moduleId ∈ st'.beacons) ∧
      (∀ d, s.commitSet ctx = [s.moduleId] → s.desc ctx st.desc = some d → d.result = none →
        Answers (.applyComplete ctx) s fun t => released t ∧ ∃ r, t.resultOf ctx st.desc = some r ∧
          r.status = (if (s.sealedCounts ctx).1 ≠ st.prog.jobMbs ∨ (s.sealedCounts ctx).2 ≠ st.prog.jobTokens ∨ st.variant = none
            then 1 else 0) ∧ nfld r.result 144 8 = s.tag ctx)) ∧
    (∀ b : W256, s.ctxState ctx = 1 →
      (beaconGood b = false → Answers (.beaconReceive ctx b) s fun t =>
        t.regBit (STREAM_LEDGER_FLAGS ctx) 3 = true ∧ t.ctxs = s.ctxs ∧ RegsSameBut s t [STREAM_LEDGER_FLAGS ctx] ∧ MemSame s t) ∧
      (beaconGood b = true → cbMODULE b ∈ s.commitSet ctx → cbMODULE b ≠ s.moduleId →
        let mine := cbMBS b = (s.sealedCounts ctx).1 % 2 ^ 24 ∧ cbTOKENS b = (s.sealedCounts ctx).2 % 2 ^ 48
        (cbSTEP b = n.toNat → s.phase ctx = 6 → mine → (∃ m ∈ s.commitSet ctx, m ≠ cbMODULE b ∧ m ∉ st.beacons) →
          Answers (.beaconReceive ctx b) s fun t => t.phase ctx = 6 ∧ RegsSame s t ∧ t.cores = s.cores ∧ MemSame s t ∧
            ∃ st', (t.ctx ctx).step = some st' ∧ cbMODULE b ∈ st'.beacons) ∧
        (cbSTEP b = n.toNat → s.phase ctx = 6 → mine → (∀ m ∈ s.commitSet ctx, m = cbMODULE b ∨ m ∈ st.beacons) →
          Answers (.beaconReceive ctx b) s released) ∧
        (cbSTEP b = n.toNat → s.phase ctx = 6 → ¬ mine → (∃ m ∈ s.commitSet ctx, m ∉ st.beacons) →
          Answers (.beaconReceive ctx b) s fun t => t.regBit (STREAM_LEDGER_FLAGS ctx) 3 = true ∧ t.ctxs = s.ctxs ∧
            RegsSameBut s t [STREAM_LEDGER_FLAGS ctx] ∧ MemSame s t) ∧
        (cbSTEP b = (n.toNat + 1) % 2 ^ 32 ∨ cbSTEP b = n.toNat ∧ s.phase ctx ≠ 6 → Answers (.beaconReceive ctx b) s fun t =>
          b ∈ (t.ctx ctx).held ∧ (t.ctx ctx).step = some st ∧ RegsSame s t ∧ t.cores = s.cores ∧ MemSame s t))) ∧
    (s.phase ctx = 6 → (∃ m ∈ s.commitSet ctx, m ∉ st.beacons) → Answers (.commitDeadline ctx) s fun t => released t ∧
      ((s.ctx ctx).listen = .member → t.regBit (STREAM_LEDGER_FLAGS ctx) 4 = true ∧
        ∀ m ∈ s.commitSet ctx, m ∉ st.beacons → m ∉ (s.ctx ctx).joining → m ∈ (t.ctx ctx).removed))

/-- The recovery walk and the rebuild from replicas (R367, R368, R425, R426): a tile whose entries already carry the next tag is
passed over; one that no replica supplies makes the module a listener, and its step ends with the boundary; a member becomes a
listener between steps, takes the tiles that a replica sends within the window, and after sixteen steps its rebuild is reported
stalled. -/
def Obligations.LedgersAreRecovered : Prop :=
  ∀ (ctx : Fin 64) (s : State),
    let posts (code : Nat) (t : State) : Prop := (∀ w ∈ (s.ctx ctx).windows, w.last.code ≠ code) → ∃ e ∈ (t.ctx ctx).events, e.code = code
    (∀ (st : StepRun) (a b : PeerAnswer), (s.ctx ctx).step = some st → s.phase ctx = 5 → s.foremanOn = true →
      s.scaleKnown ctx st = true → st.applied < s.tiles ctx →
      let k := st.applied
      let whole := s.tileLost ctx k = false ∧ (s.ledgerTile ctx k).all (inWindow (s.tag ctx)) = true
      (k + 1 < s.tiles ctx → whole → s.tileTagged ctx k (s.tag ctx + 1) = true → Answers (.recoveryWalk ctx a b) s fun t =>
        (∃ st', (t.ctx ctx).step = some st' ∧ st'.applied = k + 1) ∧ t.phase ctx = 5 ∧
        t.regFld (STREAM_LEDGER_STATUS ctx) 0 3 = 4 ∧ t.regBit (STREAM_LEDGER_FLAGS ctx) 5 = true ∧
        RegsSameBut s t [STREAM_LEDGER_STATUS ctx, STREAM_LEDGER_FLAGS ctx] ∧ t.cores = s.cores ∧ MemSame s t) ∧
      (∀ q, k + 1 < s.tiles ctx → whole → s.tileTagged ctx k (s.tag ctx + 1) = false →
        (s.ctx ctx).sealedTile k = some q → swTAG q.word = s.tag ctx → Answers (.recoveryWalk ctx a b) s fun t =>
          (∃ st', (t.ctx ctx).step = some st' ∧ st'.applied = k + 1) ∧ t.phase ctx = 5 ∧
          t.reg (STREAM_PEER_SEALED ctx) = s.reg (STREAM_PEER_SEALED ctx) ∧
          t.reg (STREAM_PEER_LEDGER ctx) = s.reg (STREAM_PEER_LEDGER ctx) ∧ HostSame s t) ∧
      (s.tileLost ctx k = true → b = .refuses ∨ b = .silent → s.tileTagged ctx k (s.tag ctx + 1) = false →
        (s.ctx ctx).cellarDue = [] → Answers (.recoveryWalk ctx a b) s fun t =>
          (t.ctx ctx).step = none ∧ (t.ctx ctx).listen = .listener 1 [] ∧ t.phase ctx = 0 ∧
          t.reg (STREAM_STEP_COUNT ctx) = s.reg (STREAM_STEP_COUNT ctx) + 1#32 ∧ posts 0x10E t ∧ MemSame s t)) ∧
    (∀ (tile : W32) (a : PeerAnswer), s.ctxState ctx = 1 →
      ((s.ctx ctx).listen = .member → (s.ctx ctx).step = none → Answers (.replicaRebuild ctx tile a) s fun t =>
        (t.ctx ctx).listen = .listener 0 [] ∧ s.moduleId ∈ (t.ctx ctx).removed ∧ (t.ctx ctx).swatch = none ∧ posts 0x10E t ∧
        t.cores = s.cores ∧ MemSame s t) ∧
      (∀ n ts, (s.ctx ctx).listen = .listener n ts → tile.toNat < s.tiles ctx →
        (∀ tag bs v tb e, a = .data tag bs → rebuildParts bs = some (v, tb, e) →
          (decodeTile (dirRec v).wide tb).all (inWindow (s.tag ctx)) = true → Answers (.replicaRebuild ctx tile a) s fun t =>
            (t.ctx ctx).listen = .listener n (insertNew tile.toNat ts) ∧
            t.reg (STREAM_PEER_LEDGER ctx) = s.reg (STREAM_PEER_LEDGER ctx) + 1#32 ∧ HostSame s t) ∧
        (a = .refuses ∨ a = .silent → Answers (.replicaRebuild ctx tile a) s fun t =>
          (t.ctx ctx).listen = .listener n ts ∧ t.cores = s.cores ∧ MemSame s t))) ∧
    (∀ n ts, (s.ctx ctx).listen = .listener n ts →
      (16 ≤ n → Answers (.rebuildStalled ctx) s fun t =>
        posts 0x110 t ∧ (t.ctx ctx).listen = .listener n ts ∧ RegsSame s t ∧ t.cores = s.cores ∧ MemSame s t) ∧
      (n < 16 → exec (.rebuildStalled ctx) s = .next s))

/-! Pipeline stages and swatches. -/

/-- A slot whose three gates are open starts its pass on every core of the context in an epoch that is not held, and one with a closed
gate, or in a held epoch, does not (R34, R374, R378, R379); the next staging crate of a handoff is sent once the pass has
written it, one that is retired makes its micro-batch doubtful, and nothing is sent before (R378, R382); at the deadline the
closed handoff gate opens, and the slot's micro-batch is withheld (R381). -/
def Obligations.SlotsAndHandoffs : Prop :=
  ∀ (ctx : Fin 64) (s : State) (st : StepRun), (s.ctx ctx).step = some st →
    let r := st.prog.slots.getD st.slotNo default
    let opens := st.readyOpen = true ∧ st.handoffOpen = true ∧ s.sendOpen st = true
    (s.waitsSlot ctx st = true → opens → s.fabric.held = false → Answers (.slotStart ctx) s fun t =>
      (∃ st', (t.ctx ctx).step = some st' ∧ st'.running = true ∧ st'.slotNo = st.slotNo) ∧ t.phase ctx = passPhase r.pass ∧
      t.regFld (CTX_PIPE_STATUS ctx) 0 21 = st.slotNo % 2 ^ 21 ∧
      (∀ q ∈ s.ctxRegions ctx, s.isDark q = false → ∀ i, i < 120 →
        (t.core (s.phys (q * 120 + i))).mb = r.mb ∧ (t.core (s.phys (q * 120 + i))).pass = r.pass) ∧
      (r.mb ∉ st.judged → RegsSameBut s t [CTX_STATUS ctx, STREAM_STATUS ctx, CTX_PIPE_STATUS ctx]) ∧ MemSame s t) ∧
    (s.waitsSlot ctx st = false ∨ ¬ opens ∨ s.fabric.held = true → Answers (.slotStart ctx) s fun t => t.ctxs = s.ctxs ∧ t.cores = s.cores ∧
      RegsSameBut s t [CTX_PIPE_STATUS ctx] ∧ MemSame s t) ∧
    (∀ (chan : Fin 256) (h : Handoff) (slot : SlotRec),
      let ch := st.prog.chans.getD chan.val default
      st.handoffs.find? (fun h => h.chan == chan.val && decide (h.crates.length < ch.slotc)) = some h →
      (h.ready = false → exec (.stagingCrateSend ctx chan) s = .next s) ∧
      (h.ready = true → ch.recv = false → ch.peer ≠ s.moduleId → st.prog.slotOfHandoff chan h.q = some slot →
      Answers (.stagingCrateSend ctx chan) s fun t =>
        (∃ st', (t.ctx ctx).step = some st' ∧ { h with crates := h.crates ++ [h.crates.length] } ∈ st'.handoffs) ∧
        (s.crateRetired ctx (ch.crate h.q + h.crates.length) = true → slot.mb ∈ (t.ctx ctx).doubt) ∧
        t.cores = s.cores ∧ MemSame s t)) ∧
    (s.waitsSlot ctx st = true → st.readyOpen = true → s.sendOpen st = true → st.handoffOpen = false →
      Answers (.handoffDeadline ctx) s fun t =>
        (∃ st', (t.ctx ctx).step = some st' ∧ st'.handoffOpen = true ∧ st'.slotNo = st.slotNo) ∧ r.mb ∈ (t.ctx ctx).doubt ∧
        t.reg (CTX_HANDOFF_ENDED ctx) = s.reg (CTX_HANDOFF_ENDED ctx) + 1#32 ∧ t.regBit (CTX_PIPE_FLAGS ctx) 0 = true ∧
        t.phase ctx = s.phase ctx ∧ t.cores = s.cores ∧ HostSame s t)

/-- A swatch to host memory or a sink in it (R386, R388, R390 to R394): it begins to read once the boundary of its step has passed; its next record goes
to its place in the image, and one that nothing can supply is written MISSING; after the last record the header is written, and
the SWATCH completes DONE, or ENDED with code UNCORR when a record is missing. -/
def Obligations.SwatchesAreDelivered : Prop :=
  ∀ (ctx : Fin 64) (s : State) (w : SwatchRun), (s.ctx ctx).swatch = some w →
    let p := w.plan
    let port := s.ctxPort ctx
    let tile := spFIRST p + w.next
    let base := if spDEST p = 2 then ((s.ctx ctx).sink (spSINK p)).base else 0
    let at_ := (base + spADDR p + (32 + w.next * recSize (spFORMAT p))) % 2 ^ 64
    let head := (base + spADDR p) % 2 ^ 64
    let toHost := spDEST p = 0 ∨ spDEST p = 2
    let spilled := w.spill.any (fun e => e.1 == tile)
    (w.phase = 1 →
      (s.swatchOpen ctx w = true → Answers (.swatchReadStart ctx) s fun t =>
        (∃ ph, (ph = 2 ∨ ph = 3) ∧ (t.ctx ctx).swatch = some { w with phase := ph }) ∧
        RegsSameBut s t [CTX_SWATCH_STATUS ctx, CTX_SWATCH_SPILL ctx] ∧ t.cores = s.cores ∧ MemSame s t) ∧
      (s.swatchOpen ctx w = false → exec (.swatchReadStart ctx) s = .next s)) ∧
    (2 ≤ w.phase → w.next < spNTILES p → toHost →
      (∀ r a, s.nextRecord ctx w = some r → r ≠ [] → Answers (.swatchTileEnd ctx none a) s fun t =>
        t.hostRead port at_ r.length = r ∧ HostSameBut s t port at_ r.length ∧
        (∃ w', (t.ctx ctx).swatch = some w' ∧ w'.next = w.next + 1 ∧ w'.missing = w.missing ∧ w'.plan = p) ∧
        RegsSameBut s t [CTX_SWATCH_STATUS ctx, CTX_SWATCH_SPILL ctx, CTX_MEM_STATUS ctx, CTX_TIER_ENDS ctx] ∧ t.cores = s.cores) ∧
      (∀ how a, spilled = false → a = .refuses ∨ a = .silent → Answers (.swatchTileEnd ctx (some how) a) s fun t =>
        let r := swatchRecord (spFORMAT p) tile w.tag (s.dir ctx tile) true false []
        t.hostRead port at_ r.length = r ∧ HostSameBut s t port at_ r.length ∧
        (∃ w', (t.ctx ctx).swatch = some w' ∧ w'.next = w.next + 1 ∧ w'.missing = w.missing + 1 ∧ w'.plan = p) ∧
        t.reg (CTX_TIER_ENDS ctx) = s.reg (CTX_TIER_ENDS ctx) + 1#32 ∧ t.regBit (CTX_PIPE_FLAGS ctx) 4 = true ∧ t.cores = s.cores)) ∧
    (∀ d, 2 ≤ w.phase → spNTILES p ≤ w.next → toHost → s.desc ctx w.desc = some d → d.result = none →
      Answers (.swatchComplete ctx) s fun t =>
        t.hostRead port head 32 = leBytes 32 (swatchHeader w) ∧ HostSameBut s t port head 32 ∧
        RegsSameBut s t [CTX_SWATCH_STATUS ctx, CTX_SWATCH_SPILL ctx, CTX_PIPE_FLAGS ctx] ∧
        (t.ctx ctx).swatch = none ∧ t.cores = s.cores ∧
        (w.missing = 0 → t.resultOf ctx w.desc = some ⟨0, 0, 0, w.step.toNat⟩) ∧
        (w.missing ≠ 0 → t.resultOf ctx w.desc = some ⟨2, 4, 0x21, w.step.toNat + w.missing * 2 ^ 32⟩ ∧
          t.regBit (CTX_PIPE_FLAGS ctx) 5 = true))

/-! Losses, health and securing. -/

/-- The loss of a region marks it dark, withholds every micro-batch of which the region has computed or still owes a part, and
changes no other region (R398, R401, R402; assumption 66 says which it owes); the foreman's loss, 64 wall epochs of silence or its
region's loss, hands over to the standby that R409 names, and without one every step completes ENDED with reason FOREMAN and every
management interface reports the module failed (R64); a takeover starts an apply that it finds again (R410); a base die that works
serves for one whose unit has failed (R414), and a region is dark when its fourth service core fails (R412). -/
def Obligations.LossesAreSurvived : Prop :=
  (∀ (region : Fin 64) (cause : DarkCause) (s : State), s.isDark region = false → Answers (.regionDark region cause) s fun t =>
    (t.region region).dark = some cause ∧ (∀ q, q ≠ region.val → t.region q = s.region q) ∧ t.regBit HEALTH_FLAGS 0 = true ∧
    (∀ c, (s.region region).owner = some c → ∀ mb ∈ s.owing c region, mb ∈ (t.ctx c).doubt) ∧
    (cause = .unitFault → t.reg HEALTH_FAULTS_LASTING = s.reg HEALTH_FAULTS_LASTING + 1#32) ∧
    (cause ≠ .unitFault → t.reg HEALTH_FAULTS_LASTING = s.reg HEALTH_FAULTS_LASTING) ∧
    (cause = .thermal → t.powerOf region = 3) ∧ t.stock = s.stock ∧ HostSame s t ∧
    (cause ≠ .thermal → cause ≠ .power → t.cellar = s.cellar)) ∧
  (∀ s : State, s.foreman.active = true →
    (s.foreman.takeover = none ∧ 64 ≤ (s.epoch + 2 ^ 48 - s.foreman.mirror) % 2 ^ 48 ∨ s.foremanRegionLost = true →
      (∀ x, s.nextStandby = some x → Answers .foremanLost s fun t => t.foreman.takeover = some x ∧ t.foremanOn = false ∧
        x ∉ t.foreman.standbys ∧ RegsSame s t ∧ HoldingsSame s t ∧ MemSame s t) ∧
      (s.nextStandby = none → Answers .foremanLost s fun t => t.regBit HEALTH_FOREMAN 6 = true ∧ t.foremanOn = false ∧
        t.power.failed = true ∧ (∀ p : MgmtPort, p ∈ [.smb, .pcie .h0, .pcie .h1, .mg] → .moduleFailed p ∈ t.out) ∧
        (∀ c, c < 64 → s.ctxState c ≠ 0 → ∀ st d, (s.ctx c).step = some st → s.desc c st.desc = some d → d.result = none →
          (t.ctx c).step = none ∧ t.resultOf c st.desc = some ⟨2, 0, 0x23, 0⟩ ∧
          t.reg (STREAM_STEP_COUNT c) = s.reg (STREAM_STEP_COUNT c)) ∧ t.cores = s.cores ∧ MemSame s t)) ∧
    (∀ x, s.foreman.takeover = some x → x < 64 → s.foremanRegionLost = false → Answers .foremanTakeover s fun t =>
      t.foreman.takeover = none ∧ t.foreman.lost = none ∧ t.regFld HEALTH_FOREMAN 0 6 = x ∧
      t.regFld HEALTH_FOREMAN 16 16 = min 65535 (s.regFld HEALTH_FOREMAN 16 16 + 1) ∧ t.regBit HEALTH_FLAGS 1 = true ∧
      (∀ c st, c < 64 → s.ctxState c ≠ 0 → (s.ctx c).step = some st → s.phase c = 5 →
        t.regFld (STREAM_LEDGER_STATUS c) 0 3 = 4 ∧ ∃ st', (t.ctx c).step = some st' ∧ st'.applied = 0) ∧
      t.cores = s.cores ∧ MemSame s t)) ∧
  (∀ (stack : Fin 48) (unit : BaseDieUnit) (s : State), stack.val < s.stackCount → (s.die stack).failed unit = false →
    Answers (.baseDieUnitFail stack unit) s fun t =>
      (t.die stack).failed unit = true ∧ t.reg HEALTH_FAULTS_LASTING = s.reg HEALTH_FAULTS_LASTING + 1#32 ∧
      t.regBit HEALTH_FLAGS 2 = true ∧ (∀ c, (t.ctx c).step = (s.ctx c).step) ∧
      ((∃ m, m < s.stackCount ∧ m ≠ stack.val ∧ (s.die m).failed unit = false) →
        t.unitServer stack unit < s.stackCount ∧ (t.die (t.unitServer stack unit)).failed unit = false) ∧
      RegsSameBut s t [HEALTH_FAULTS_LASTING, HEALTH_FLAGS] ∧ t.cores = s.cores ∧ MemSame s t) ∧
  ∀ (region : Fin 64) (count : Fin 5) (s : State),
    let old := (s.region region).svcFailed
    let n := min 4 (old + count.val)
    (old = n → exec (.serviceCoreFail region count) s = .next s) ∧
    (old < n → Answers (.serviceCoreFail region count) s fun t => (t.region region).svcFailed = n ∧
      t.reg HEALTH_FAULTS_LASTING = s.reg HEALTH_FAULTS_LASTING + BitVec.ofNat 32 (n - old) ∧
      (n = 4 → t.isDark region = true) ∧ (n < 4 → RegsSameBut s t [HEALTH_FAULTS_LASTING] ∧ t.ctxs = s.ctxs) ∧ MemSame s t)

/-- The health monitor (R416 to R418, R430): HEALTH_RISK shows the highest level of any unit; a level falls by at most one in an
evaluation; at level 7 a channel is retired, and a region is dark or due to be where
HEALTH_CONTROL allows it. -/
def Obligations.HealthIsEvaluated : Prop :=
  ∀ (bench cellar lane : List (Fin 64 × Nat)) (chans : List (Fin 768 × Nat × Nat)) (s : State),
    (s.foremanOn = false → exec (.healthEvaluate bench cellar lane chans) s = .next s) ∧
    (s.foremanOn = true → (∀ u, (s.monitor u).level ≤ 7) → Answers (.healthEvaluate bench cellar lane chans) s fun t =>
      (∀ u ∈ s.units, (t.monitor u).level ≤ t.regFld HEALTH_RISK 0 3 ∧ (s.monitor u).level ≤ (t.monitor u).level + 1) ∧
      (∃ u ∈ s.units, (t.monitor u).level = t.regFld HEALTH_RISK 0 3) ∧
      (∀ r, r < 64 → t.regFld (HEALTH_REGION_RISK (r / 8)) (4 * (r % 8)) 4 = (t.monitor r).level) ∧
      (∀ r, r < 64 → t.reg (REGION_BENCH_CORR r) = s.reg (REGION_BENCH_CORR r) +
        BitVec.ofNat 32 ((bench.filter fun e => e.1.val == r).map (·.2)).sum) ∧
      (∀ stack chan, stack < s.stackCount → chan < 16 → (t.monitor (64 + 16 * stack + chan)).level = 7 →
        .channel stack chan ∈ t.retired) ∧
      (∀ r, r < 64 → t.effFld HEALTH_CONTROL 4 1 = 1 → (t.monitor r).level = 7 → t.isDark r = true ∨ (t.region r).darkDue = true) ∧
      t.cores = s.cores ∧ MemSame s t)

/-- Securing (R419 to R422): it captures the ledger of the last step boundary; to host memory the image's body is written first and
its header last; a failed securing changes no memory and ends its descriptors; a keeping module keeps what it is sent in the slot that
the sender names, within the sender's share, and nothing beyond it. -/
def Obligations.LedgersAreSecured : Prop :=
  (∀ (ctx : Fin 64) (s : State),
    let port := s.ctxPort ctx
    let place (q : SecureRun) : Nat := q.addr + (if q.slotB then Config.secSlotB q.image.length else 0)
    let dest := s.effFld (HEALTH_SEC_CONTROL ctx) 16 2
    (∀ kind, s.ctxState ctx = 1 → dest = 1 ∨ dest = 2 → (s.ctx ctx).secure = none → s.phase ctx < 5 →
      s.secureDue ctx = some kind → Answers (.secureStart ctx) s fun t =>
        t.regFld (HEALTH_SEC_STATUS ctx) 0 2 = kind ∧ TiersSame s t ∧ t.cores = s.cores ∧ (dest = 1 → HostSame s t) ∧
        ∃ q, (t.ctx ctx).secure = some q ∧ q.kind = kind ∧ q.step = s.reg (STREAM_STEP_COUNT ctx) - 1#32 ∧ q.dest = dest ∧
          q.image.drop 32 = s.imageBody ctx ∧
          (dest = 2 → (∀ n, n < s.tiles ctx → s.tileLost ctx n = false ∧ s.tileTagged ctx n (q.step.toNat + 1) = true) →
            t.hostRead port ((place q + 32) % 2 ^ 64) (s.imageBody ctx).length = s.imageBody ctx ∧
            HostSameBut s t port ((place q + 32) % 2 ^ 64) (s.imageBody ctx).length)) ∧
    (∀ q, (s.ctx ctx).secure = some q → q.lost = [] → Answers (.secured ctx) s fun t =>
      (q.dest = 2 → t.hostRead port (place q % 2 ^ 64) (q.image.take 32).length = q.image.take 32 ∧
        HostSameBut s t port (place q % 2 ^ 64) (q.image.take 32).length) ∧ (q.dest ≠ 2 → MemSame s t) ∧
      (t.ctx ctx).secure = none ∧
      t.reg (HEALTH_SEC_STEP ctx) = q.step ∧ t.reg (HEALTH_SEC_COUNT ctx) = s.reg (HEALTH_SEC_COUNT ctx) + 1#32 ∧
      t.regBit (HEALTH_SEC_FLAGS ctx) 0 = true ∧ t.regFld (HEALTH_SEC_STATUS ctx) 0 2 = 0 ∧ t.cores = s.cores ∧
      ∀ e d, e ∈ q.waits → s.desc ctx e = some d → d.result = none → ∃ r, t.resultOf ctx e = some r ∧ r.status = 0) ∧
    ((s.ctx ctx).secure = none → exec (.secured ctx) s = .next s) ∧
    (∀ q (reason : Fin 5), (s.ctx ctx).secure = some q → reason.val ≠ 3 → Answers (.secureFailed ctx reason) s fun t =>
      (t.ctx ctx).secure = none ∧ t.regBit (HEALTH_SEC_FLAGS ctx) 1 = true ∧ t.regFld (HEALTH_SEC_STATUS ctx) 0 2 = 0 ∧
      (∀ e d, e ∈ q.waits → s.desc ctx e = some d → d.result = none → ∃ r, t.resultOf ctx e = some r ∧ r.status = 2) ∧
      RegsSameBut s t [HEALTH_SEC_FLAGS ctx, HEALTH_SEC_STATUS ctx] ∧ t.cores = s.cores ∧ MemSame s t) ∧
    ∀ reason : Fin 5, (s.ctx ctx).secure = none ∨ reason.val = 3 → exec (.secureFailed ctx reason) s = .next s) ∧
  ∀ (m : Fin 131072) (size offset : Nat) (slotB : Bool) (bytes : List Byte) (s : State),
    (s.keepRoom m size = true → offset + bytes.length ≤ size → Answers (.secureImageReceive m size slotB offset bytes) s fun t =>
      (∃ k ∈ t.keep, k.module = m.val ∧ (if slotB then k.slotB else k.slotA).read offset bytes.length = bytes) ∧
      (∀ k ∈ s.keep, k.module ≠ m.val → k ∈ t.keep) ∧ RegsSame s t ∧ HoldingsSame s t ∧ MemSame s t) ∧
    (s.keepRoom m size = false ∨ size < offset + bytes.length → exec (.secureImageReceive m size slotB offset bytes) s = .next s)

/-! Caravan frames and ports. -/

/-- Frames as they arrive: one whose checks fail is discarded and counted, and does nothing else (R482); in direct topology one for
another module leaves unchanged on a port of its route (R489, R490); a class 0 frame that is accepted is delivered once and
acknowledged each time (R494), with the effect of its type: a verdict (R344), a beacon (R365), a norm (R359), or a notice of R347
and R499 (assumption 16 lays out the subheaders of those that the spec does not).
Frames of classes 1 to 3 (R480, R493): one out of its turn is not delivered; in its turn a whole SUM reaches the tally units, a
PUT writes its bytes into the mapped crate that it names, a FETCH of a crate is answered with the crate's pieces or a refusal (R328),
DATA completes a repair, and a HANDOFF piece lands, is dropped where its slot has ended, or is not expected and only marked (R380). -/
def Obligations.FramesTakeEffectOnce : Prop :=
  ((∀ (e : (Fin 16 → Frame → Instr) × Nat) (port : Fin 16) (f : Frame) (s : State),
     e ∈ [(Instr.verdict, 0x03), (Instr.beacon, 0x04), (Instr.norm, 0x05), (Instr.sum, 0x10), (Instr.handoff, 0x20),
       (Instr.put, 0x21), (Instr.fetch, 0x22), (Instr.data, 0x23)] →
     (s.ready = false ∨ s.portUp port = false → exec (e.1 port f) s = .next s) ∧
     (s.ready = true → s.portUp port = true → f.etype.toNat = s.regFld CARAVAN_ETHERTYPE 0 16 → f.type_ = e.2 →
       (f.dst = s.moduleId → f.dmac = macOf s.moduleId port → s.frameGood f = false → Answers (e.1 port f) s fun t =>
         t.reg CARAVAN_DISCARDS = s.reg CARAVAN_DISCARDS + 1#32 ∧ t.out = s.out ∧ RegsSameBut s t [CARAVAN_DISCARDS] ∧
         HoldingsSame s t ∧ MemSame s t) ∧
       (f.dst ≠ s.moduleId → s.switched = false → s.frameGood f = true → s.allowed f.dst ≠ [] → Answers (e.1 port f) s fun t =>
         (∃ p ∈ s.allowed f.dst, t.out = s.out ++ [.frame p f]) ∧ RegsSame s t ∧ HoldingsSame s t ∧ MemSame s t) ∧
       (f.dst ≠ s.moduleId → s.switched = false → s.frameGood f = true → s.allowed f.dst = [] → Answers (e.1 port f) s fun t =>
         t.out = s.out ∧ t.reg CARAVAN_DISCARDS = s.reg CARAVAN_DISCARDS + 1#32 ∧ t.regBit CARAVAN_FLAGS 4 = true ∧
         HoldingsSame s t ∧ MemSame s t))) ∧
   (∀ (port : Fin 16) (f : Frame) (s : State) (c : Nat), s.allowed f.src ≠ [] →
     let once (ty code : Nat) (i : Instr) (act : State → Prop) : Prop := s.accepts port ty c f = true → (ty = 6 → fld f.sub 0 8 = code) →
       ((f.src, f.xid) ∉ s.caravan.seen → Answers i s fun t => act t ∧ t.acked f ∧ (f.src, f.xid) ∈ t.caravan.seen ∧ HostSame s t) ∧
       ((f.src, f.xid) ∈ s.caravan.seen → Answers i s fun t => t.acked f ∧ RegsSame s t ∧ HoldingsSame s t ∧ MemSame s t)
     (∀ st, (s.ctx c).step = some st → fld f.sub 24 8 = s.tag c → (∀ v ∈ st.verdicts, v.1 = fld f.sub 0 16 → v.2.1 ≠ f.src) →
       once 3 0 (.verdict port f) fun t => ∃ st', (t.ctx c).step = some st' ∧
         st'.verdicts = st.verdicts ++ [(fld f.sub 0 16, f.src, bitAt f.sub 16)]) ∧
     (beaconGood f.sub = true → cbMODULE f.sub ∈ s.commitSet c → cbMODULE f.sub ≠ s.moduleId →
       cbSTEP f.sub = ((s.reg (STREAM_STEP_COUNT c)).toNat + 1) % 2 ^ 32 →
       once 4 0 (.beacon port f) fun t => f.sub ∈ (t.ctx c).held) ∧
     (∀ st, (s.ctx c).step = some st → (∀ e ∈ st.norms, e.1 ≠ f.src) →
       once 5 0 (.norm port f) fun t => ∃ st', (t.ctx c).step = some st' ∧
         st'.norms = st.norms ++ [(f.src, fld f.sub 0 32, w32 (fld f.sub 32 32))]) ∧
     (once 6 2 (.join port f) fun t => fld f.sub 32 17 ∈ (t.ctx c).joining) ∧
     (once 6 1 (.commitRemoved port f) fun t => fld f.sub 32 17 ∈ (t.ctx c).leaving) ∧
     (∀ st, (s.ctx c).step = some st → once 6 3 (.withhold port f) fun t =>
       ∀ b, b < st.prog.tokens.length → fld f.sub 64 16 = 0xFFFF ∨ fld f.sub 64 16 = b → b ∈ (t.ctx c).doubt))) ∧
  (∀ (port : Fin 16) (f : Frame) (s : State) (c : Nat),
     (∀ (e : (Fin 16 → Frame → Instr) × Nat) (r : RxFlow),
       e ∈ [(Instr.sum, 0x10), (Instr.handoff, 0x20), (Instr.put, 0x21), (Instr.fetch, 0x22), (Instr.data, 0x23)] →
       s.accepts port e.2 c f = true →
       s.caravan.rx.find? (fun r => r.job == f.job && r.src == f.src && r.cls == f.cls) = some r → f.seq ≠ r.expect →
       Answers (e.1 port f) s fun t => t.caravan.rx = s.caravan.rx ∧ t.caravan.partials = s.caravan.partials ∧ HoldingsSame s t ∧
         MemSame s t) ∧
     (s.inTurn f → (∀ x ∈ s.caravan.tx, x.port ≤ 16) →
       (s.accepts port 0x10 c f = true →
         (∀ fs, (s.collect f).2 = some fs → fs.length ≠ 3 → fs.length ≠ 5 → Answers (.sum port f) s fun t =>
           MemSame s t ∧ t.cores = s.cores ∧ ∃ g ∈ fs.head?, ∃ elems, (shNULL g.sub = true → elems = []) ∧
             (shNULL g.sub = false → elems = (chunks (if shWIDE g.sub then 8 else 4) 4096 (dataOf fs)).map fun b =>
               sext (if shWIDE g.sub then 64 else 32) (leNat b)) ∧
             (t.ctx c).delivered = (s.ctx c).delivered ++ [⟨g.src, ⟨g.sub, elems⟩⟩]) ∧
         ((s.collect f).2 = none → Answers (.sum port f) s fun t => HoldingsSame s t ∧ MemSame s t)) ∧
       (s.accepts port 0x21 c f = true → bitAt f.sub 48 = false →
         let n := fld f.sub 0 32
         let off := fld f.sub 32 16
         let e := s.entry c n
         off + f.data.length ≤ 65536 → meTier e = 1 ∨ meTier e = 2 → s.crateRetired c n = false → Answers (.put port f) s fun t =>
           t.placeRead (meplace e) off f.data.length = f.data ∧ meplace (t.entry c n) = meplace e ∧
           (∀ b, b < off → (t.placeRead (meplace e) 0 65536)[b]? = (s.placeRead (meplace e) 0 65536)[b]?) ∧ HostSame s t) ∧
       (s.accepts port 0x22 c f = true → fld f.sub 0 8 = 0 →
         let n := fld f.sub 32 32
         (∀ st, (s.ctx c).step = some st → ∀ r ∈ st.repairs, r.crate ≠ n) →
         (s.crateRetired c n = false → s.placeBad (meplace (s.entry c n)) 0 2048 = false → Answers (.fetch port f) s fun t =>
           t.repliesTo f 0x23 (fun g => bitAt g.sub 8 = false ∧ g.part = 0 ∧ g.npart = 15 ∧ fld g.sub 0 8 = s.tag c ∧
             g.data = s.placeRead (meplace (s.entry c n)) 0 4096) ∧ t.cores = s.cores ∧ MemSame s t) ∧
         (s.crateRetired c n = true ∨ meTier (s.entry c n) ≠ 0 ∧ s.placeBad (meplace (s.entry c n)) 0 2048 = true → Answers (.fetch port f) s fun t =>
           t.repliesTo f 0x23 (fun g => bitAt g.sub 8 = true ∧ g.data = []) ∧ t.cores = s.cores ∧ MemSame s t)) ∧
       (s.accepts port 0x23 c f = true → ∀ fs q n st, (s.collect f).2 = some fs →
         s.caravan.fetches.find? (fun e => e.xid == f.xid) = some q → q.for_ = .repair n → bitAt f.sub 8 = false →
         (s.ctx q.ctx).step = some st → (∃ r ∈ st.repairs, r.crate = n ∧ r.peer ≠ none) → fld f.sub 0 8 = s.tag q.ctx →
         (dataOf fs).length = 65536 → ((if (s.ctx q.ctx).awaiting.contains n then s else
           s.modCtx q.ctx fun x => { x with awaiting := x.awaiting ++ [n] }).rehome q.ctx n).2 = true → Answers (.data port f) s fun t =>
           t.placeRead (meplace (t.entry q.ctx n)) 0 65536 = dataOf fs ∧ n ∉ (t.ctx q.ctx).awaiting ∧
           t.reg (STREAM_REPAIRED q.ctx) = s.reg (STREAM_REPAIRED q.ctx) + 1#32 ∧ (∀ e ∈ t.caravan.fetches, e.for_ ≠ .repair n ∨ e.ctx ≠ q.ctx) ∧
           HostSame s t) ∧
       (s.accepts port 0x20 c f = true → ∀ st, (s.ctx c).step = some st →
         let ch := fld f.sub 0 8
         let q := fld f.sub 8 24
         let crate := fld f.sub 32 16
         let piece := fld f.sub 48 4
         let r := st.prog.chans.getD ch default
         let rel := (st.chan ch).released
         let expected := r.peer = f.src ∧ f.data.length = 4096 ∧ ch < st.prog.chans.length ∧ r.recv = true ∧
           (∃ slot, st.prog.slotOfHandoff ch q = some slot ∧ slot.mb = fld f.sub 64 16 ∧ slot.pass = fld f.sub 80 2) ∧
           fld f.sub 88 8 = s.tag c ∧ crate < r.slotc ∧ rel ≤ q ∧ q < rel + r.depth
         (expected → (∀ h, st.handoff? ch q = some h → h.ended = false) → Answers (.handoff port f) s fun t =>
           (∃ st', (t.ctx c).step = some st' ∧ ∃ h, st'.handoff? ch q = some h ∧ 16 * crate + piece ∈ h.pieces ∧
             (bitAt f.sub 96 = true → h.doubt = true ∧ fld f.sub 64 16 ∈ (t.ctx c).doubt)) ∧ t.cores = s.cores ∧ HostSame s t ∧
             let n := r.crate q + crate
             (meTier (s.entry c n) = 1 ∨ meTier (s.entry c n) = 2 → s.crateRetired c n = false →
               t.placeRead (meplace (s.entry c n)) (4096 * piece) 4096 = f.data)) ∧
         (expected → (∃ h, st.handoff? ch q = some h ∧ h.ended = true) → Answers (.handoff port f) s fun t =>
           HoldingsSame s t ∧ MemSame s t) ∧
         (¬ expected → Answers (.handoff port f) s fun t =>
           t.regBit (CTX_PIPE_FLAGS c) 1 = true ∧ (t.ctx c).step = some st ∧ t.cores = s.cores ∧ MemSame s t))))


/-- In direct topology HELLO admits its sender, or refuses it and leaves the port NOT_ADMITTED (R497); an ACK ends the frames that it
names, a flow's from the missing one on leave again, and where a resend has brought a frame through a transient fault is counted
(R397, R493, R494); a frame whose time passes leaves again, and after its last resend its transfer ends with SEND_FAILED and a
lasting fault (R398, R495; what a PUT's or a FETCH's end does to the step is not said here); an idle flow's state is released
(R493); a pause holds back the classes whose PCP it names, and never class 0 (R488); a port that is not admitted is sent HELLO, once
each time that the command says a second has passed (R497). -/
def Obligations.FlowsAndPeers : Prop :=
  (∀ (port : Fin 16) (f : Frame) (s : State), s.ready = true → s.switched = false → f.etype.toNat = s.regFld CARAVAN_ETHERTYPE 0 16 →
    f.type_ = 1 → s.frameGood f = true → s.portState port = 1 → s.regFld (CARAVAN_PORT_STATUS port) 4 4 ≠ 0 →
    (f.src, f.xid) ∉ s.caravan.seen →
    let m := fld f.sub 16 17
    (s.helloGood f.sub = true → Answers (.hello port f) s fun t =>
      t.portState port = 2 ∧ (⟨m, BitVec.ofNat 64 (fld f.sub 96 64), port⟩ : Peer) ∈ t.caravan.peers ∧ t.acked f ∧
      HoldingsSame s t ∧ MemSame s t) ∧
    (s.helloGood f.sub = false → Answers (.hello port f) s fun t =>
      t.portState port = 4 ∧ t.caravan.peers = s.caravan.peers ∧ m ∈ t.caravan.refused ∧ t.regBit CARAVAN_FLAGS 1 = true ∧
      HoldingsSame s t ∧ MemSame s t)) ∧
  (∀ (port : Fin 16) (f : Frame) (s : State) (c : Nat), s.accepts port 2 c f = true →
    (bitAt f.sub 0 = false → Answers (.ack port f) s fun t =>
      (∀ e ∈ t.caravan.express, ¬ (e.xid = f.xid ∧ fld e.frame.hdr 64 17 = f.src)) ∧
      (∀ e ∈ s.caravan.express, e.xid ≠ f.xid → e ∈ t.caravan.express) ∧
      (let again := ∃ e ∈ s.caravan.express, e.xid = f.xid ∧ (fld e.frame.hdr 64 17 = f.src ∨ e.frame.type_ = 1) ∧ e.tries ≠ 0
       (again → t.reg HEALTH_FAULTS_TRANSIENT = s.reg HEALTH_FAULTS_TRANSIENT + 1#32) ∧ (¬ again → RegsSame s t)) ∧
      RegsSameBut s t [HEALTH_FAULTS_TRANSIENT] ∧ HoldingsSame s t ∧ MemSame s t) ∧
    (∀ x g gs, bitAt f.sub 0 = true → s.txFlow f.job f.src (fld f.sub 4 2) = some x → x.unacked = g :: gs →
      let done := (fld f.sub 8 24 + 2 ^ 24 - g.seq) % 2 ^ 24
      (x.unacked.length < done → exec (.ack port f) s = .next s) ∧
      (done ≤ x.unacked.length → Answers (.ack port f) s fun t =>
        t.reg HEALTH_FAULTS_TRANSIENT = s.reg HEALTH_FAULTS_TRANSIENT + (if done ≠ 0 ∧ x.tries ≠ 0 then 1#32 else 0#32) ∧
        (∃ y, t.txFlow f.job f.src (fld f.sub 4 2) = some y ∧ x.unacked.drop done <+: y.unacked ∧
          y.unacked ++ y.waiting = x.unacked.drop done ++ x.waiting ∧
          (let tries := if done = 0 then x.tries else 0
           y.tries = tries + (if bitAt f.sub 32 = true ∧ x.unacked.drop done ≠ [] ∧ tries < s.retryCount then 1 else 0))) ∧
        HoldingsSame s t ∧ MemSame s t))) ∧
  (∀ (xid : W32) (s : State),
    (∀ e, s.caravan.express.find? (fun e => e.xid == xid.toNat) = some e → e.frame.type_ ≤ 6 →
      (e.tries < s.retryCount → Answers (.caravanRetryTime xid) s fun t =>
        (∃ x ∈ t.caravan.express, x.xid = e.xid ∧ x.tries = e.tries + 1) ∧
        t.reg CARAVAN_FLAGS = s.reg CARAVAN_FLAGS ∧ HoldingsSame s t ∧ MemSame s t) ∧
      (s.retryCount ≤ e.tries → Answers (.caravanRetryTime xid) s fun t =>
        (∀ x ∈ t.caravan.express, x.xid ≠ e.xid) ∧ t.regBit CARAVAN_FLAGS 3 = true ∧ t.out = s.out ∧
        t.reg HEALTH_FAULTS_LASTING = s.reg HEALTH_FAULTS_LASTING + 1#32 ∧ HoldingsSame s t ∧ MemSame s t)) ∧
    (s.caravan.express.find? (fun e => e.xid == xid.toNat) = none → (∀ x ∈ s.caravan.tx, ∀ f, x.unacked.head? = some f → f.xid ≠ xid.toNat) →
      exec (.caravanRetryTime xid) s = .next s) ∧
    (∀ x f, s.caravan.express.find? (fun e => e.xid == xid.toNat) = none →
      s.caravan.tx.findSome? (fun x => match x.unacked with | f :: _ => if f.xid = xid.toNat then some (x, f) else none | [] => none) =
        some (x, f) →
      (x.tries < s.retryCount → Answers (.caravanRetryTime xid) s fun t =>
        { x with tries := x.tries + 1 } ∈ t.caravan.tx ∧ HoldingsSame s t ∧ MemSame s t) ∧
      (s.retryCount ≤ x.tries → Answers (.caravanRetryTime xid) s fun t => t.regBit CARAVAN_FLAGS 3 = true ∧
        (f.type_ ≠ 0x21 → f.type_ ≠ 0x22 → t.reg HEALTH_FAULTS_LASTING = s.reg HEALTH_FAULTS_LASTING + 1#32 ∧
          (∀ y ∈ t.caravan.tx, y.job = x.job → y.dst = x.dst → y.cls = x.cls → ∀ g ∈ y.unacked, g.xid ≠ f.xid) ∧
          HoldingsSame s t ∧ MemSame s t)))) ∧
  (∀ (job : BitVec 16) (src dst : Fin 131072) (cls : BitVec 2) (s : State), Answers (.flowIdleRelease job src dst cls) s fun t =>
    (src.val = s.moduleId → ∀ x ∈ t.caravan.tx, x.job = job.toNat → x.dst = dst.val → x.cls = cls.toNat →
      x.unacked ≠ [] ∨ x.waiting ≠ []) ∧
    (dst.val = s.moduleId → ∀ x ∈ t.caravan.rx, ¬ (x.job = job.toNat ∧ x.src = src.val ∧ x.cls = cls.toNat)) ∧
    HoldingsSame s t ∧ MemSame s t) ∧
  (∀ (port : Fin 16) (pcps : Byte) (on : Bool) (s : State),
    (s.portUp port = false ∨ s.regBit (CARAVAN_PORT_CONTROL port) 8 = false → exec (.pfcPause port pcps on) s = .next s)) ∧
  (∀ (port : Fin 16) (pcps : Byte) (s : State), s.portUp port = true → s.regBit (CARAVAN_PORT_CONTROL port) 8 = true →
    (Answers (.pfcPause port pcps true) s fun t => (∀ cls, 1 ≤ cls → cls ≤ 3 → bitAt pcps (s.pcp cls) = true → t.pausedOn port cls = true) ∧
      t.pausedOn port 0 = false ∧ t.out = s.out ∧ RegsSame s t ∧ HoldingsSame s t ∧ MemSame s t) ∧
    (Answers (.pfcPause port pcps false) s fun t =>
      (∀ cls, 1 ≤ cls → cls ≤ 3 → bitAt pcps (s.pcp cls) = true → t.pausedOn port cls = false) ∧ HoldingsSame s t ∧ MemSame s t)) ∧
  ∀ (port : Fin 16) (s : State),
    (s.portState port = 4 → Answers (.helloResend port) s fun t =>
      (∃ g, t.out = s.out ++ [.frame port g] ∧ g.type_ = 1) ∧ RegsSame s t ∧ HoldingsSame s t ∧ MemSame s t) ∧
    (s.portState port ≠ 4 → s.switched = false ∨ s.portUp port = false → exec (.helloResend port) s = .next s)

/-- The states of a port (R498, R476, R609): ENABLE trains it when a usable OSFP module is there, a lock admits its peer's HELLO and
makes it UP, lane loss takes its flows away and retrains it at the widest width that is left, and it goes DOWN when no width is
left, no lock comes, its module is removed or it is disabled. -/
def Obligations.PortsComeAndGo : Prop :=
  ∀ (port : Fin 16) (s : State),
    let st := CARAVAN_PORT_STATUS port
    let same (t : State) : Prop := HoldingsSame s t ∧ MemSame s t
    let gone (t : State) : Prop := t.portState port = 0 ∧ t.regFld st 4 4 = 0 ∧ (∀ e ∈ t.caravan.peers, e.port ≠ port.val) ∧
      (∀ x ∈ t.caravan.tx, x.port ≠ port.val) ∧ t.regBit CARAVAN_FLAGS 2 = true ∧ t.regBit HEALTH_FLAGS 2 = true ∧ MemSame s t
    (∀ m : Master, s.portOpen m port = true →
      (s.portState port = 0 → s.moduleIdValid = true →
        (s.osfpFit port = true → Answers (.portEnable m port) s fun t => t.portState port = 1 ∧
          t.regBit (CARAVAN_PORT_CONTROL port) 0 = true ∧ RegsSameBut s t [CARAVAN_PORT_CONTROL port, st] ∧ same t) ∧
        (s.osfpFit port = false → s.regBit st 16 = true → Answers (.portEnable m port) s fun t => t.portState port = 0 ∧
          t.regBit CARAVAN_FLAGS 2 = true ∧ RegsSameBut s t [CARAVAN_PORT_CONTROL port, CARAVAN_FLAGS] ∧ same t)) ∧
      (s.portState port = 0 → Answers (.portDisable m port) s fun t => t.regBit (CARAVAN_PORT_CONTROL port) 0 = false ∧
        t.portState port = 0 ∧ RegsSameBut s t [CARAVAN_PORT_CONTROL port] ∧ same t) ∧
      (s.portState port ≠ 0 →
        (Answers (.portDisable m port) s fun t => gone t ∧ t.regBit (CARAVAN_PORT_CONTROL port) 0 = false) ∧
        (Answers (.retrain m port) s fun t => t.portState port = 1 ∧ t.regFld st 4 4 = 0 ∧ t.regFld st 8 8 = 0 ∧
          (∀ e ∈ t.caravan.peers, e.port ≠ port.val) ∧ (∀ x ∈ t.caravan.tx, x.port ≠ port.val) ∧ same t))) ∧
    (∀ lanes ∈ ([1, 2, 4, 8] : List Nat), lanes ≤ s.widest port →
      (∀ h, s.portState port = 1 → s.helloGood h = true → Answers (.portLock port lanes (some h)) s fun t =>
        t.portState port = 2 ∧ t.regFld st 4 4 = lanes ∧
        (⟨fld h 16 17, BitVec.ofNat 64 (fld h 96 64), port⟩ : Peer) ∈ t.caravan.peers ∧ same t) ∧
      (s.portState port = 1 → s.switched = false → Answers (.portLock port lanes none) s fun t =>
        t.portState port = 1 ∧ t.regFld st 4 4 = lanes ∧ (∃ g, t.out = s.out ++ [.frame port g] ∧ g.type_ = 1) ∧
        RegsSameBut s t [st] ∧ same t) ∧
      (s.portState port = 1 → s.switched = true → Answers (.portLock port lanes none) s fun t =>
        t.portState port = 2 ∧ t.regFld st 4 4 = lanes ∧ same t) ∧
      (∀ h, s.portState port = 3 → lanes = s.widest port → Answers (.portLock port lanes h) s fun t =>
        t.portState port = 2 ∧ t.regFld st 4 4 = lanes ∧
        t.reg (CARAVAN_PORT_RETRAINS port) = s.reg (CARAVAN_PORT_RETRAINS port) + 1#32 ∧ t.regBit HEALTH_FLAGS 3 = true ∧ MemSame s t)) ∧
    (s.portState port = 1 → s.regFld st 4 4 = 0 → Answers (.trainingTimeout port) s fun t =>
      t.portState port = 0 ∧ t.regBit CARAVAN_FLAGS 2 = true ∧ RegsSameBut s t [st, CARAVAN_FLAGS] ∧ same t) ∧
    (∀ lane : Fin 8, s.portState port = 2 → Answers (.laneLoss port lane) s fun t =>
      t.regBit st (8 + lane) = true ∧ (t.widest port ≠ 0 → t.portState port = 3) ∧ (t.widest port = 0 → gone t) ∧
      (∀ x ∈ t.caravan.tx, x.port ≠ port.val) ∧ MemSame s t) ∧
    (s.portState port = 3 → Answers (.retrainTimeout port) s gone) ∧
    (∀ watts class200, port.val < s.ports → spGet (fun _ => none) s.caravan.osfp port = none →
      Answers (.osfpInsert port watts class200) s fun t => t.regBit st 16 = true ∧
        spGet (fun _ => none) t.caravan.osfp port = some (watts, class200) ∧ (30 < watts ∨ class200 = false →
          t.portState port = s.portState port ∧ t.regBit CARAVAN_FLAGS 2 = true) ∧
        (watts ≤ 30 → class200 = true → s.portState port = 0 → s.regBit (CARAVAN_PORT_CONTROL port) 0 = true →
          s.moduleIdValid = true → s.ready = true → t.portState port = 1) ∧ same t) ∧
    (s.portState port ≠ 0 → Answers (.osfpRemove port) s fun t => gone t ∧ t.regBit st 16 = false ∧
      spGet (fun _ => none) t.caravan.osfp port = none)

/-! Power, clocks and cooling. -/

/-- The input states of R506: the auxiliary supply starts at 400 V, a pre-charge begins with the loop closed and VIN in range, the
converter runs once it completes, and a bring-up begins unless the module is switched off; it stops when the loop opens or VIN passes a hard limit, which takes
every supply behind it away; out of range, out of coolant, or with COOL_READY lost the steward writes POWER_OFF, which stays in
force (R508, R526, R605). -/
def Obligations.InputPowerFollowsItsStates : Prop :=
  ∀ s : State,
    let input (t : State) : Nat := t.regFld POWER_STATUS 0 3
    let dead (t : State) : Prop := t.ready = false ∧ t.ctxs = [] ∧ t.cellar = [] ∧ t.stock = [] ∧ t.cores = [] ∧ HostSame s t
    let stops (t : State) : Prop := input t = 1 ∧ (∀ r, r < 64 → t.powerOf r = 3) ∧ t.regFld MOD_STATUS 3 2 = 0 ∧ dead t
    let off (t : State) : Prop := t.modState = 4 ∧ t.power.offForce = true ∧ (∀ r, r < 64 → t.powerOf r = 3) ∧ dead t
    let calm (t : State) : Prop := HoldingsSame s t ∧ MemSame s t
    let charges (v : Nat) : Prop := s.regBit POWER_STATUS 3 = true ∧ 7000 ≤ v ∧ v ≤ 8800
    (∀ vin : BitVec 14, let v := vin.toNat
      (v < 4000 → Answers (.vinUp vin) s fun t => t.regFld POWER_INPUT 16 14 = v ∧ RegsSameBut s t [POWER_INPUT] ∧ calm t) ∧
      (4000 ≤ v → input s = 0 → Answers (.vinUp vin) s fun t => t.regFld POWER_INPUT 16 14 = v ∧ dead t ∧
        (charges v → input t = 2) ∧ (¬ charges v → input t = 1)) ∧
      (4000 ≤ v → input s = 1 → s.power.preFail = false → charges v → Answers (.vinUp vin) s fun t =>
        input t = 2 ∧ t.regFld POWER_INPUT 16 14 = v ∧ RegsSameBut s t [POWER_INPUT, POWER_STATUS] ∧ calm t) ∧
      (4000 ≤ v → input s = 1 → s.power.preFail = true ∨ ¬ charges v → Answers (.vinUp vin) s fun t =>
        t.regFld POWER_INPUT 16 14 = v ∧ RegsSameBut s t [POWER_INPUT] ∧ calm t) ∧
      (4000 ≤ v → 2 ≤ input s → Answers (.vinUp vin) s fun t =>
        t.regFld POWER_INPUT 16 14 = v ∧ RegsSameBut s t [POWER_INPUT] ∧ calm t) ∧
      (input s = 3 → v < 6000 ∨ 9000 < v → Answers (.vinHardLimit vin) s stops) ∧
      (input s ≠ 3 ∨ 6000 ≤ v ∧ v ≤ 9000 → Answers (.vinHardLimit vin) s fun t =>
        t.regFld POWER_INPUT 16 14 = v ∧ RegsSameBut s t [POWER_INPUT] ∧ calm t)) ∧
    (input s = 0 → exec .vinLost s = .next s) ∧
    (input s ≠ 0 → Answers .vinLost s fun t => input t = 0 ∧ dead t ∧ t.reg MOD_LIFECYCLE = s.reg MOD_LIFECYCLE ∧
      t.reg MOD_BRINGUP_STATUS = regReset MOD_BRINGUP_STATUS) ∧
    (Answers .ilkClose s fun t => t.regBit POWER_STATUS 3 = true ∧ RegsSameBut s t [POWER_STATUS] ∧ calm t ∧
      (input s = 1 → s.power.preFail = false → 7000 ≤ s.power.vin → s.power.vin ≤ 8800 → input t = 2) ∧
      (input s ≠ 1 → input t = input s)) ∧
    (Answers .ilkOpen s fun t => t.regBit POWER_STATUS 3 = false ∧ t.power.preFail = false ∧ (input s = 3 → stops t) ∧
      (input s = 2 → input t = 1 ∧ RegsSameBut s t [POWER_STATUS] ∧ calm t) ∧
      (input s ≠ 2 → input s ≠ 3 → input t = input s ∧ RegsSameBut s t [POWER_STATUS] ∧ calm t)) ∧
    (input s ≠ 2 → exec .prechargeComplete s = .next s ∧ exec .prechargeFail s = .next s) ∧
    (input s = 2 →
      (s.boot.off = true → s.power.coolBad < 1000 → Answers .prechargeComplete s fun t =>
        input t = 3 ∧ RegsSameBut s t [POWER_STATUS] ∧ calm t) ∧
      (s.boot.off = false → s.bringup ≠ 5 → s.power.coolBad < 1000 → s.power.oscA = true ∨ s.power.oscB = true →
        Answers .prechargeComplete s fun t => input t = 3 ∧ t.bringup = 1 ∧ t.boot.booted = false ∧ MemSame s t) ∧
      (Answers .prechargeFail s fun t => input t = 1 ∧ t.regBit POWER_FLAGS 5 = true ∧ t.power.preFail = true ∧
        RegsSameBut s t [POWER_STATUS, POWER_FLAGS] ∧ calm t)) ∧
    (s.power.offForce = false → input s = 3 →
      (∀ why, Answers (.inputRange why) s fun t => off t ∧ t.regBit POWER_FLAGS 4 = true) ∧
      (Answers .coolReadyLost s fun t => off t ∧ t.regBit POWER_STATUS 4 = false) ∧
      (1000 ≤ s.power.coolBad → Answers .coolantLimit s off)) ∧
    (input s ≠ 3 → (∀ why, exec (.inputRange why) s = .next s) ∧ exec .coolantLimit s = .next s) ∧
    (s.power.coolBad < 1000 → exec .coolantLimit s = .next s) ∧
    (input s ≠ 3 → Answers .coolReadyLost s fun t =>
      t.regBit POWER_STATUS 4 = false ∧ RegsSameBut s t [POWER_STATUS] ∧ calm t ∧ t.power = s.power) ∧
    (Answers .coolReadyRestored s fun t =>
      t.regBit POWER_STATUS 4 = true ∧ RegsSameBut s t [POWER_STATUS] ∧ calm t ∧ t.power = s.power)

/-- Region power (R509 to R517, R520, R624): an open fuse takes its region to OFF and dark, a group's third failed phase takes it to
dark and its second caps the group's core cycles; a ramp up waits while a neighbour is loaded, at most two run, and one that has
been deferred for 10 ms or is not deferred is granted; a region's clock step is the smallest of its three values, but for one whose
voltage is held for the foreman (R65; assumption 64). -/
def Obligations.RegionPowerFollowsItsEvents : Prop :=
  ∀ (region : Fin 64) (s : State),
    let r := region.val
    let calm (t : State) : Prop := HoldingsSame s t ∧ MemSame s t
    (∀ cause, s.powerOf r = 3 ∨ s.regFld POWER_STATUS 0 3 ≠ 3 → exec (.fuseTrip region cause) s = .next s) ∧
    (∀ cause, s.powerOf r ≠ 3 → s.regFld POWER_STATUS 0 3 = 3 → Answers (.fuseTrip region cause) s fun t =>
      t.powerOf r = 3 ∧ (s.isDark r = false → (t.region r).dark = some .power) ∧ t.regBit (REGION_POWER r) 19 = true ∧
      t.regBit (REGION_POWER_FLAGS r) 4 = true ∧ t.regBit POWER_FLAGS 9 = true ∧
      (∀ q, q < 64 → q ≠ r → t.powerOf q = s.powerOf q) ∧ t.stock = s.stock ∧ HostSame s t) ∧
    (∀ (phase : Fin 64) why, 2 ≤ s.powerOf r ∨ s.regFld POWER_STATUS 0 3 ≠ 3 ∨ bitAt (s.phasesOff r) phase.val = true →
      exec (.phaseFail region phase why) s = .next s) ∧
    (∀ (phase : Fin 64) why, s.powerOf r ≤ 1 → s.regFld POWER_STATUS 0 3 = 3 → bitAt (s.phasesOff r) phase.val = false →
      Answers (.phaseFail region phase why) s fun t =>
        bitAt (t.phasesOff r) phase.val = true ∧ t.groupFailed r (phase.val / 8) = s.groupFailed r (phase.val / 8) + 1 ∧
        t.reg HEALTH_FAULTS_LASTING = s.reg HEALTH_FAULTS_LASTING + 1#32 ∧
        (s.groupFailed r (phase.val / 8) = 1 → t.regBit (REGION_POWER r) (8 + phase.val / 8) = true) ∧
        (s.groupFailed r (phase.val / 8) ≤ 1 → t.powerOf r = s.powerOf r ∧ t.isDark r = s.isDark r ∧ t.ctxs = s.ctxs ∧ MemSame s t) ∧
        (2 ≤ s.groupFailed r (phase.val / 8) → t.isDark r = true ∧ 2 ≤ t.powerOf r)) ∧
    (∀ up : Bool, s.rampWanted r up = false → exec (.rampRequest region up) s = .next s) ∧
    (∀ up : Bool, s.rampWanted r up = true → s.power.ramps.contains (r, up) = false →
      (∀ q ∈ s.power.rampQ, ¬ (q.region = r ∧ q.up = up)) → Answers (.rampRequest region up) s fun t =>
        (⟨r, up, up && s.loadedBeside r, false⟩ : RampWait) ∈ t.power.rampQ ∧ t.power.ramps = s.power.ramps ∧ calm t) ∧
    ((∀ q ∈ s.power.rampQ, s.rampWanted q.region q.up = false) → Answers .rampGrant s fun t =>
      t.power.ramps = s.power.ramps ∧ t.power.rampQ = [] ∧ calm t) ∧
    (∀ q rest, s.power.rampQ = q :: rest → s.rampWanted q.region q.up = true →
      (s.power.ramps.length < 2 →
        q.late = true ∨ (q.up = true ∧ s.loadedBeside q.region = false) ∨ (q.up = false ∧ q.deferred = false) →
        Answers .rampGrant s fun t => t.power.ramps = s.power.ramps ++ [(q.region, q.up)] ∧
          (∀ x ∈ t.power.rampQ, x.region ≠ q.region) ∧ calm t) ∧
      (2 ≤ s.power.ramps.length → Answers .rampGrant s fun t => t.power.ramps = s.power.ramps ∧ calm t)) ∧
    (Answers (.rampDeferTimeout region) s fun t => t.power.rampQ = s.power.rampQ.map (fun q =>
      if q.region = r ∧ q.deferred = true then { q with late := true } else q) ∧ RegsSame s t ∧ calm t) ∧
    ((∀ e ∈ s.power.ramps, e.1 ≠ r) → exec (.rampComplete region) s = .next s) ∧
    (∀ up, s.power.ramps.find? (fun e => e.1 == r) = some (r, up) → Answers (.rampComplete region) s fun t =>
      t.powerOf r = (if up then 1 else 2) ∧ (∀ e ∈ t.power.ramps, e.1 ≠ r) ∧ t.ctxs = s.ctxs ∧ MemSame s t) ∧
    (2 ≤ s.powerOf r ∨ s.vlogHeld r = true → exec (.clockStepChange region) s = .next s) ∧
    (s.powerOf r ≤ 1 → s.vlogHeld r = false → Answers (.clockStepChange region) s fun t =>
      t.regFld (REGION_POWER r) 2 5 = min (min (clampNat 4 16 (s.effFld (REGION_CLOCK_REQ r) 0 5)) s.ceiling) (s.region r).thermal ∧
      RegsSameBut s t [REGION_POWER r] ∧ calm t)

/-- The samples and the reference: the input power and the ceiling that follows it (R522), the temperatures with their throttles and
shutdowns (R523, R524), the coolant (R526), and the oscillators, without both of which the module is reported failed (R519). -/
def Obligations.SamplesAndReference : Prop :=
  ∀ s : State,
    let input := s.regFld POWER_STATUS 0 3
    let calm (t : State) : Prop := HoldingsSame s t ∧ MemSame s t
    (∀ (watts : Nat) (vin : BitVec 14), input = 3 →
      let last := (watts :: s.power.samples).take 10
      let shown (t : State) : Prop := t.regFld POWER_INPUT 16 14 = vin.toNat ∧
        t.regFld POWER_INPUT 0 16 = min 65535 (last.foldl (· + ·) 0 / last.length) ∧
        RegsSameBut s t [POWER_INPUT, POWER_STATUS, POWER_FLAGS, POWER_CAP_STEPS] ∧ calm t
      Answers (.powerSample watts vin) s fun t => shown t ∧ (s.power.samples.length < 9 →
        (11 * s.effCap < 10 * watts → 4 < s.ceiling → t.ceiling = max 4 (s.ceiling - 4) ∧ t.regBit POWER_FLAGS 1 = true ∧
          t.reg POWER_CAP_STEPS = s.reg POWER_CAP_STEPS + 1#32) ∧
        (10 * watts ≤ 11 * s.effCap → t.ceiling = s.ceiling ∧ t.reg POWER_CAP_STEPS = s.reg POWER_CAP_STEPS)) ∧
        (9 ≤ s.power.samples.length → 10 * watts ≤ 11 * s.effCap → 10 * s.effCap < last.foldl (· + ·) 0 → s.power.stepWait ≤ 1 →
        4 < s.ceiling → t.ceiling = s.ceiling - 1 ∧
          t.regBit POWER_FLAGS 0 = true ∧ t.reg POWER_CAP_STEPS = s.reg POWER_CAP_STEPS + 1#32)) ∧
    (input ≠ 3 → (∀ watts vin, exec (.powerSample watts vin) s = .next s) ∧
      ∀ regions temps conv vlog, exec (.thermalSample regions temps conv vlog) s = .next s) ∧
    (∀ (regions : List Reading) (temps : List Nat) (conv : Nat) (vlog : List Nat) (r : Nat) (x : Reading), input = 3 → r < 64 →
      regions[r]? = some x → s.powerOf r ≠ 3 → (∀ t ∈ temps, t < 110) → conv < 125 →
      let hot := x.cellar.foldl max 0
      let j := max x.logic hot
      Answers (.thermalSample regions temps conv vlog) s fun t =>
        t.regFld (REGION_TEMP r) 0 8 = min 255 x.logic ∧ t.regFld (REGION_TEMP r) 8 8 = min 255 hot ∧ HostSame s t ∧
        (j < 110 → x.stage < 125 → 100 ≤ j ∨ 115 ≤ x.stage → (t.region r).thermal = max 4 ((s.region r).thermal - 1) ∧
          t.regBit POWER_FLAGS 7 = true ∧ t.powerOf r = s.powerOf r) ∧
        (j < 97 → x.stage < 112 → (s.region r).thermal ≤ 16 → (s.region r).thermal ≤ (t.region r).thermal ∧
          (t.region r).thermal ≤ 16 ∧ t.isDark r = s.isDark r) ∧
        (110 ≤ j ∨ 125 ≤ x.stage → t.isDark r = true ∧ t.powerOf r = 3 ∧ t.regBit POWER_FLAGS 8 = true)) ∧
    (∀ (regions : List Reading) (temps : List Nat) (conv : Nat) (vlog : List Nat), input = 3 → s.power.offForce = false → 125 ≤ conv →
      Answers (.thermalSample regions temps conv vlog) s fun t => t.modState = 4 ∧ t.regBit POWER_FLAGS 8 = true ∧
        (∀ r, r < 64 → t.powerOf r = 3) ∧ HostSame s t) ∧
    (∀ supA retA flowA supB retB flowB : Nat, input ≠ 0 → Answers (.coolantSample supA retA flowA supB retB flowB) s fun t =>
      t.regFld POWER_COOL_A 0 8 = min 255 supA ∧ t.regFld POWER_COOL_A 16 12 = min 4095 flowA ∧
      t.regFld POWER_COOL_B 0 8 = min 255 supB ∧ t.regFld POWER_COOL_B 16 12 = min 4095 flowB ∧
      t.power.coolBad = (if flowA < 300 ∨ flowB < 100 ∨ 45 < max supA supB then s.power.coolBad + 1 else 0) ∧
      (flowA < 600 ∨ flowB < 200 ∨ 40 < max supA supB → t.regBit POWER_FLAGS 3 = true) ∧
      RegsSameBut s t [POWER_COOL_A, POWER_COOL_B, POWER_FLAGS] ∧ calm t) ∧
    (∀ a : Bool, input = 0 ∨ (if a then s.power.oscA else s.power.oscB) = false → exec (.oscillatorFail a) s = .next s) ∧
    (input ≠ 0 → s.power.oscA = true → s.power.oscB = true →
      (Answers (.oscillatorFail true) s fun t => t.power.oscA = false ∧ t.power.oscB = true ∧ t.regBit POWER_FLAGS 6 = true ∧
        t.regBit POWER_STATUS 5 = true ∧ (s.fabricMode ≠ 0 → t.regBit MOD_FABRIC_FAULT 0 = true) ∧ t.power.failed = s.power.failed ∧
        t.reg HEALTH_FAULTS_LASTING = s.reg HEALTH_FAULTS_LASTING + (if s.fabricMode = 0 then 1#32 else 2#32) ∧ t.cores = s.cores ∧ MemSame s t) ∧
      (Answers (.oscillatorFail false) s fun t => t.power.oscB = false ∧ t.power.oscA = true ∧
        t.reg HEALTH_FAULTS_LASTING = s.reg HEALTH_FAULTS_LASTING + 1#32 ∧ RegsSameBut s t [HEALTH_FAULTS_LASTING] ∧ calm t)) ∧
    (∀ a : Bool, input ≠ 0 → s.power.oscA = a → s.power.oscB = !a → Answers (.oscillatorFail a) s fun t =>
      t.power.failed = true ∧ (∀ p : MgmtPort, p ∈ [.smb, .pcie .h0, .pcie .h1, .mg] → .moduleFailed p ∈ t.out) ∧ (∀ r, r < 64 → t.powerOf r = 3) ∧ HostSame s t)

/-! Bring-up, management and sampling. -/

/-- Secure boot (R533 to R535): a component boots from its active slot, or else from the other, and only a valid image is run; with
none the module is in recovery, where no region is powered. Once every component runs, the steward has read the latest inventory
(R544): every region's dead cores and disabled phases are its. -/
def Obligations.BootRunsValidImages : Prop :=
  ∀ s : State,
    let inSlot (k : Nat) (i : FwImage) : Prop := (s.fwSlots k).a = some i ∨ (s.fwSlots k).b = some i
    let bootable (k : Nat) : Prop := ∃ i, inSlot k i ∧ s.imageValid i = true
    let active (k : Nat) : Option FwImage := if (s.fwSlots k).activeB then (s.fwSlots k).b else (s.fwSlots k).a
    let recovery (t : State) : Prop := t.bringup = 5 ∧ t.boot.booted = false ∧ (∀ r, r < 64 → t.powerOf r = 3) ∧
      HoldingsSame s t ∧ MemSame s t
    let ran (k : Nat) (t : State) : Prop := ∃ i, (t.fwSlots k).running = some i ∧ inSlot k i ∧ s.imageValid i = true ∧
      ∀ j, active k = some j → s.imageValid j = true → i = j
    (s.regFld POWER_STATUS 0 3 = 0 ∨ s.bringup = 5 → exec .boot s = .next s) ∧
    (s.regFld POWER_STATUS 0 3 ≠ 0 → s.bringup ≠ 5 →
    ((s.fwSlots 0).running = none → ¬ bootable 0 → Answers .boot s recovery) ∧
    ((s.fwSlots 0).running = none → bootable 0 → Answers .boot s (ran 0)) ∧
    (s.bringup = 1 → s.boot.booted = false → (s.fwSlots 0).running ≠ none ∨ bootable 0 →
      ((∃ k, 1 ≤ k ∧ k < 4 ∧ ¬ bootable k) → Answers .boot s recovery) ∧
      ((∀ k, 1 ≤ k → k < 4 → bootable k) → Answers .boot s fun t =>
        t.boot.booted = true ∧ t.bringup = 1 ∧ (∀ k, 1 ≤ k → k < 4 → ran k t) ∧ MemSame s t ∧ t.ctxs = s.ctxs ∧ t.cores = s.cores ∧
        (∀ inv b, s.latestInv = some (inv, b) → ∀ r, r < 64 →
          let x := spGet (fun _ => InvRegion.reset) inv.regions r
          (t.region r).dead = x.dead ∧ t.phasesOff r = x.phases ∧ t.regFld (REGION_ROWMAP r) 8 8 = x.dead.length % 256) ∧
        (s.latestInv = none → ∀ r, t.region r = s.region r))))

/-- The repair decisions (R542): no region with two rows of two or more dead cores is serviceable; else each row outside the skip
row has at most one dead core, in its skip column, or p12 when it has none; a row of more keeps its dead skip column, or takes its
lowest dead one. -/
def Obligations.RepairsAreDecided : Prop :=
  ∀ old : RepairMap,
    let dead (p : Nat) : List Nat := old.inRow p
    (decideRepair old = none ↔ ∃ p q, p < q ∧ q < 11 ∧ 2 ≤ (dead p).length ∧ 2 ≤ (dead q).length) ∧
    ∀ m, decideRepair old = some m →
      let col (p : Nat) : Nat := m.skipCol.getD p 12
      m.dead = old.dead ∧
      ((∀ p, p < 11 → (dead p).length < 2) → m.skipRow = 10) ∧
      ((∃ p, p < 11 ∧ 2 ≤ (dead p).length) → m.skipRow < 11 ∧ 2 ≤ (dead m.skipRow).length) ∧
      ∀ p, p < 11 →
        (p ≠ m.skipRow → (dead p).length ≤ 1) ∧
        (dead p = [] → col p = 12) ∧
        (∀ k, dead p = [k] → col p = k % 13) ∧
        (2 ≤ (dead p).length →
          let c := old.skipCol.getD p 12
          (p * 13 + c ∈ old.dead → col p = c) ∧
          (p * 13 + c ∉ old.dead → (∃ k ∈ dead p, col p = k % 13) ∧ ∀ k ∈ dead p, col p ≤ k % 13))

/-- The waves, the region tests and the finish (R537 to R541, R544, R64, R109): wave 0 tests the entry regions, with the fabric on its
way to service mode, a later one every untested neighbour of a proven region; a test that runs out of time or fails a step leaves its region dark, one that passes leaves it proven
with its repair decisions; regions left untested are dark, the foreman starts in the first proven entry region, and the inventory
is written to the older copy. That a timeout records its limit, and that step 5 fails as step 4, is the model's choice (assumption
31). -/
def Obligations.WavesProveRegions : Prop :=
  (∀ s : State, s.regFld POWER_STATUS 0 3 = 3 → s.boot.booted = true →
    let starts (wave : Nat) (l : List Nat) (t : State) : Prop := t.bringup = 2 ∧ t.regFld MOD_BRINGUP_STATUS 3 4 = wave ∧
      t.boot.testing = l ∧ t.boot.proven = s.boot.proven ∧ HoldingsSame s t ∧ MemSame s t ∧
      ∀ r ∈ l, t.regFld (REGION_TEST r) 0 4 = wave ∧ t.regBit (REGION_TEST r) 10 = false ∧
        t.regBit (REGION_TEST r) 14 = (s.regBit MOD_BRINGUP_STATUS 7 || (s.region r).retest) ∧ t.reg (REGION_TEST_TIME r) = 0#32
    (s.bringup = 1 → Answers .waveStart s fun t => starts 0 [1, 22, 41, 62] t ∧ t.regFld MOD_FABRIC_STATUS 0 2 = 3 ∧ t.fabric.change = some (1, 2) ∧
      ∀ r ∈ [1, 22, 41, 62], t.regFld (REGION_TEST r) 4 6 = 0x3F) ∧
    (s.bringup = 2 → s.boot.testing = [] → s.wavesOver = false → s.regFld MOD_BRINGUP_STATUS 3 4 < 12 →
      Answers .waveStart s fun t => starts (s.regFld MOD_BRINGUP_STATUS 3 4 + 1) t.boot.testing t ∧
        (∀ r, r ∈ t.boot.testing ↔ r < 64 ∧ r ∉ s.boot.tested ∧ ∃ q ∈ neighbours r, q ∈ s.boot.proven) ∧
        ∀ r ∈ t.boot.testing, t.regFld (REGION_TEST r) 4 6 ∈ neighbours r ∧ t.regFld (REGION_TEST r) 4 6 ∈ s.boot.proven)) ∧
  (∀ (region : Fin 64) (x : RegionTestResult) (s : State), region.val ∉ s.boot.testing →
    exec (.regionTest region x) s = .next s ∧ exec (.regionTestTimeout region) s = .next s) ∧
  (∀ (region : Fin 64) (x : RegionTestResult) (s : State),
    let r := region.val
    let full := s.regBit (REGION_TEST r) 14
    let ms := if full then 30000 else 4000
    let ends (t : State) : Prop := r ∉ t.boot.testing ∧ r ∈ t.boot.tested ∧ HostSame s t ∧ t.stock = s.stock ∧ t.ctxs = s.ctxs ∧
      (∀ q, q ≠ r → t.region q = s.region q) ∧ ∀ q, q < 64 → q ≠ r → t.powerOf q = s.powerOf q
    let fails (step time : Nat) (cause : DarkCause) (off : Bool) (t : State) : Prop := ends t ∧
      (t.region r).dark = some cause ∧ t.regFld (REGION_TEST r) 11 3 = step ∧ t.reg (REGION_TEST_TIME r) = w32 time ∧
      t.powerOf r = if off then 3 else 2
    let dead := (x.deadCores.filter (· < 143)).foldl (fun d k => insertNew k d) (s.region r).dead
    let decided := decideRepair { s.repairMap r with dead := dead }
    let powered : Prop := x.fuseOpens = false ∧ x.powerOk = true ∧ x.phases = 0#64 ∧ ∀ g, g < 8 → s.groupFailed r g ≤ 2
    r ∈ s.boot.testing →
    Answers (.regionTestTimeout region) s (fails 0 ms .notServiceable false) ∧
    (ms < x.millis → Answers (.regionTest region x) s (fails 0 ms .notServiceable false)) ∧
    (x.millis ≤ ms →
      (x.fuseOpens = true ∨ x.powerOk = false → Answers (.regionTest region x) s fun t => fails 1 x.millis .power true t ∧
        t.regBit (REGION_POWER r) 19 = x.fuseOpens) ∧
      (powered → x.riserOk = false → Answers (.regionTest region x) s (fails 2 x.millis .unitFault false)) ∧
      (powered → x.riserOk = true → 4 ≤ x.svcFailed →
        Answers (.regionTest region x) s (fails 3 x.millis .serviceCores false)) ∧
      (powered → x.riserOk = true → x.svcFailed < 4 →
        (decided = none → Answers (.regionTest region x) s (fails 4 x.millis .notServiceable false)) ∧
        (decided ≠ none → x.bayOk = false → Answers (.regionTest region x) s (fails 6 x.millis .unitFault false)) ∧
        (decided ≠ none → x.bayOk = true → x.seamOk = false ∨ x.columnOk = false →
          Answers (.regionTest region x) s (fails 7 x.millis .unitFault false)) ∧
        (∀ m, decided = some m → x.bayOk = true → x.seamOk = true → x.columnOk = true →
          Answers (.regionTest region x) s fun t => ends t ∧ r ∈ t.boot.proven ∧ (t.region r).proven = true ∧
            (t.region r).dead = dead ∧ (t.region r).svcFailed = x.svcFailed ∧ t.regBit (REGION_TEST r) 10 = true ∧
            t.reg (REGION_TEST_TIME r) = w32 x.millis ∧ t.regFld (REGION_ROWMAP r) 0 4 = m.skipRow ∧ t.reg (REGION_MAPGEN r) = 0#32 ∧
            t.powerOf r = (if r ∈ [1, 22, 41, 62] then 1 else 2) ∧
            (∀ n ∈ x.badSlots, Retired.slot r (n / 262144) (n % 262144) ∈ t.retired) ∧
            ∀ a, t.cellar.byte a = if 171798691840 * r ≤ a ∧ a < 171798691840 * (r + 1) then 0#8 else s.cellar.byte a)))) ∧
  (∀ (failed : List (Fin 768)) (s : State), s.bringup = 1 ∨ s.bringup = 2 → s.boot.stockDone = false →
    Answers (.stockroomTest failed) s fun t => t.boot.stockDone = true ∧ TiersSame s t ∧ t.regions = s.regions ∧
      (∀ f ∈ failed, f.val < 16 * s.stackCount → Retired.channel (f.val / 16) (f.val % 16) ∈ t.retired) ∧
      ∀ e ∈ t.retired, e ∈ s.retired ∨ ∃ f ∈ failed, e = .channel (f.val / 16) (f.val % 16)) ∧
  (∀ (failed : List (Fin 768)) (s : State), ¬ (s.bringup = 1 ∨ s.bringup = 2) ∨ s.boot.stockDone = true →
    exec (.stockroomTest failed) s = .next s) ∧
  (∀ (ok : Bool) (millis : W32) (s : State), s.bringup ≠ 2 ∨ s.boot.testing ≠ [] ∨ s.wavesOver = false ∨ s.boot.stockDone = false →
    exec (.bringupFinish ok millis) s = .next s) ∧
  (∀ (ok : Bool) (millis : W32) (s : State), s.bringup = 2 → s.boot.testing = [] → s.wavesOver = true → s.boot.stockDone = true →
    let entry := [1, 22, 41, 62].filter fun r => (s.region r).proven && s.boot.tested.contains r
    Answers (.bringupFinish ok millis) s fun t =>
      t.bringup = 4 ∧ t.reg MOD_BRINGUP_TIME = millis ∧ MemSame s t ∧ t.ctxs = s.ctxs ∧ t.cores = s.cores ∧
      (∀ r, r < 64 → r ∉ s.boot.tested → (t.region r).dark = some .notServiceable ∧ (t.region r).proven = false) ∧
      (∀ r, r < 64 → r ∈ s.boot.tested → t.region r = s.region r) ∧
      (∀ e es, entry = e :: es → t.foreman.active = true ∧ t.foreman.standbys = es ∧ t.reg HEALTH_FOREMAN = w32 e) ∧
      (entry = [] → t.foreman.active = false ∧ t.reg HEALTH_FOREMAN = 0x40#32 ∧ t.power.failed = true ∧
        ∀ p : MgmtPort, p ∈ [.smb, .pcie .h0, .pcie .h1, .mg] → .moduleFailed p ∈ t.out) ∧
      t.regBit MOD_FABRIC_FAULT 4 = (!ok || s.regBit MOD_FABRIC_FAULT 4) ∧
      (s.boot.wiping = false → s.boot.off = false → s.regFld POWER_STATUS 0 3 = 3 → t.ready = true) ∧
      (s.boot.wiping = true → t.ready = s.ready) ∧ s.svn ≤ t.svn ∧ t.boot.invDue = false) ∧
  (∀ s : State, s.boot.invDue = false ∨ s.bringup ≠ 4 → exec .inventoryWrite s = .next s) ∧
  ∀ s : State, s.boot.invDue = true → s.bringup = 4 → Answers .inventoryWrite s fun t =>
    (∃ inv b, t.latestInv = some (inv, b) ∧
      inv.gen = (match s.latestInv with | some (i, _) => i.gen | none => 0) + 1 ∧ inv.step = s.stepping ∧ inv.serial = s.serial ∧
      (∀ r, r < 64 → spGet (fun _ => InvRegion.reset) inv.regions r = (s.invRegion r).sealed) ∧ inv.retired = s.retired.take 4194304 ∧ inv.valid = true ∧
      (if b then t.boot.invA = s.boot.invA else t.boot.invB = s.boot.invB) ∧
      t.reg MOD_INVENTORY = w32 (inv.gen % 65536 + bitN b 16)) ∧
    t.boot.invDue = false ∧ RegsSameBut s t [ MOD_INVENTORY] ∧ HoldingsSame s t ∧ MemSame s t

/-- Lifecycle and firmware (R536, R550 to R553, R558, R559): a request for a transition that R551 allows, with this module's serial
number and a live nonce, wipes the module and counts; no signature moves a module to BLANK or out of RETIRED; an update fills the
inactive slot, which is active once its image is valid; an activation restarts the steward into a new bring-up. The result codes of
the answers are the model's choice (assumption 29). -/
def Obligations.LifecycleAndFirmware : Prop :=
  (∀ (target : Lifecycle) (signer : Authority), mayTransit 4 target signer = false) ∧
  (∀ (now : Nat) (signer : Authority), mayTransit now .blank signer = false) ∧
  ∀ (src : MgmtPort) (s : State),
    let served (k : ReqKind) : Prop := s.hears src k = some true ∧ s.carries src k = true ∧ (src ≠ .mg ∨ s.mgServes = true)
    let said (n : Nat) (t : State) : Prop := t.out.getLast? = some (.reply src n [])
    let only (n : Nat) (t : State) : Prop := t.out = s.out ++ [.reply src n []] ∧ RegsSame s t ∧ HoldingsSame s t ∧ MemSame s t ∧
      t.boot = s.boot
    (∀ (target : Lifecycle) (serial nonce : W64) (signer : Authority),
      let c : Instr := .lifecycleRequest target serial nonce signer src
      let good : Prop := s.ready = true ∧ s.contexts = [] ∧ serial = s.serial ∧ nonce ∈ s.boot.nonces ∧
        mayTransit (s.regFld MOD_LIFECYCLE 0 3) target signer = true
      (s.hears src .other = none → Answers c s fun t => t = s) ∧
      (s.hears src .other = some false → Answers c s (only 4)) ∧
      (served .other → s.boot.busy = true → Answers c s (only 1)) ∧
      (served .other → s.boot.busy = false → ¬ good → Answers c s (only 4)) ∧
      (served .other → s.boot.busy = false → good → Answers c s fun t => said 0 t ∧
        t.regFld MOD_LIFECYCLE 0 3 = lifecycleNo target ∧
        t.regFld MOD_LIFECYCLE 16 16 = min 65535 (s.regFld MOD_LIFECYCLE 16 16 + 1) ∧ nonce ∉ t.boot.nonces ∧
        t.cellar = [] ∧ t.stock = [] ∧ t.cores = [] ∧ t.keep = [] ∧ t.boot.wiping = true ∧ t.ready = false ∧
        t.regBit MOD_MGMT_FLAGS 5 = true ∧ HostSame s t ∧
        RegsSameBut s t [ MOD_LIFECYCLE, MOD_MGMT_FLAGS, MOD_BRINGUP_CONTROL, QUOTA_WIPE_STATUS, MOD_STATUS])) ∧
    (∀ nonce : W64, s.regFld POWER_STATUS 0 3 ≠ 0 → s.regFld MOD_LIFECYCLE 0 3 ≠ 4 → s.bringup ≠ 5 →
      Answers (.nonceIssue nonce) s fun t =>
        nonce ∈ t.boot.nonces ∧ (∀ n ∈ s.boot.nonces, n ∈ t.boot.nonces) ∧ RegsSame s t ∧ HoldingsSame s t ∧ MemSame s t) ∧
    (∀ i : FwImage, served .update → s.boot.busy = false →
      let k := i.component.val
      let active (x : FwSlots) : Option FwImage := if x.activeB then x.b else x.a
      let other (x : FwSlots) : Option FwImage := if x.activeB then x.a else x.b
      let rest (t : State) : Prop := (t.fwSlots k).running = (s.fwSlots k).running ∧ (∀ j, j ≠ k → t.fwSlots j = s.fwSlots j) ∧
        RegsSame s t ∧ HoldingsSame s t ∧ MemSame s t
      (s.imageValid i = true → Answers (.firmwareUpdate [i] src) s fun t => said 0 t ∧ rest t ∧
        active (t.fwSlots k) = some i ∧ other (t.fwSlots k) = active (s.fwSlots k)) ∧
      (s.imageValid i = false → Answers (.firmwareUpdate [i] src) s fun t => said 4 t ∧ rest t ∧
        active (t.fwSlots k) = active (s.fwSlots k) ∧ other (t.fwSlots k) = some i)) ∧
    (served .update → s.boot.busy = true →
      Answers (.firmwareActivation src) s (only 1) ∧ ∀ l, Answers (.firmwareUpdate l src) s (only 1)) ∧
    (served .update → s.boot.busy = false → s.contexts ≠ [] → Answers (.firmwareActivation src) s (only 4)) ∧
    (served .update → s.boot.busy = false → s.contexts = [] → s.power.offForce = false → s.regFld POWER_STATUS 0 3 = 3 →
      s.power.oscA = true ∨ s.power.oscB = true → Answers (.firmwareActivation src) s fun t => said 0 t ∧
        t.modState = 0 ∧ t.bringup = 1 ∧ t.boot.booted = false ∧ t.boot.nonces = [] ∧ (∀ r, r < 64 → t.powerOf r = 3) ∧
        (∀ k, k < 4 → (t.fwSlots k).running = none ∧ (t.fwSlots k).a = (s.fwSlots k).a ∧ (t.fwSlots k).b = (s.fwSlots k).b) ∧
        t.regBit MOD_MGMT_FLAGS 6 = true ∧ t.reg MOD_LIFECYCLE = s.reg MOD_LIFECYCLE ∧ t.cellar = [] ∧ t.stock = [] ∧ HostSame s t) ∧
    ∀ slot signedBy : Fin 4, s.regFld POWER_STATUS 0 3 ≠ 0 → s.regFld MOD_LIFECYCLE 0 3 ≠ 4 → slot.val ∉ s.boot.revoked →
      signedBy.val ∉ s.boot.revoked →
      ((∃ k, k < 4 ∧ k ≠ slot.val ∧ k ∉ s.boot.revoked) → Answers (.keySlotRevoke slot signedBy) s fun t =>
        slot.val ∈ t.boot.revoked ∧ (∀ i : FwImage, t.imageValid i = (s.imageValid i && i.keySlot != slot)) ∧
        RegsSame s t ∧ HoldingsSame s t ∧ MemSame s t) ∧
      ((∀ k, k < 4 → k ≠ slot.val → k ∈ s.boot.revoked) → Answers (.keySlotRevoke slot signedBy) s fun t => t = s)

/-- The mailbox (R592, R593): a doorbell hands over the first LEN bytes and makes the mailbox BUSY, or a malformed one ends in
BAD_REQUEST, and one that finds it BUSY is dropped with OVERRUN; a reply, or the end of 10 s, makes it DONE with its result.
Attestation and monitoring (R554, R555, R557): an SPDM request that the steward serves is answered with bytes that the spec leaves
open, another is a bad request; a sensor read answers the sensor's value, and takes nothing from the module. The 48 and 4 bytes and
the result codes of both are the model's choice (assumptions 2 and 29). A descriptor whose host access fails ends alone, with
reason 0x20 (R394, R422, R462). -/
def Obligations.RequestsAreAnswered : Prop :=
  (∀ (p : HostPort) (s : State),
     let m := s.mail (portNo p)
     let same (t : State) : Prop := RegsSame s t ∧ HoldingsSame s t ∧ MemSame s t ∧ t.mail (1 - portNo p) = s.mail (1 - portNo p)
     (∀ val : W32, s.hostOpen = true →
       let good := fld val 17 3 = 0 ∧ (fld val 20 4 = 1 ∨ fld val 20 4 = 2) ∧ 1 ≤ fld val 0 17 ∧ fld val 0 17 ≤ 65536
       (m.busy = false → good → Answers (.mbxDoorbell p val) s fun t =>
         let x := t.mail (portNo p)
         fld (x.reg 4) 0 2 = 1 ∧ fld (x.reg 4) 24 8 = fld val 24 8 ∧ x.work = some (m.req.read 0 (fld val 0 17)) ∧
         x.resp = [] ∧ x.req = m.req ∧ t.out = s.out ∧ same t) ∧
       (m.busy = false → ¬ good → Answers (.mbxDoorbell p val) s fun t =>
         let x := t.mail (portNo p)
         fld (x.reg 4) 0 2 = 2 ∧ fld (x.reg 4) 4 4 = 2 ∧ fld (x.reg 4) 24 8 = fld val 24 8 ∧ x.reg 8 = 0#32 ∧ x.req = m.req ∧ same t) ∧
       (m.busy = true → Answers (.mbxDoorbell p val) s fun t =>
         let x := t.mail (portNo p)
         bitAt (x.reg 0x10) 0 = true ∧ x.reg 4 = m.reg 4 ∧ x.work = m.work ∧ x.req = m.req ∧ t.out = s.out ∧ same t)) ∧
     (m.busy = true →
       let done (result : Nat) (resp : List Byte) (t : State) : Prop :=
         let x := t.mail (portNo p)
         fld (x.reg 4) 0 2 = 2 ∧ fld (x.reg 4) 4 4 = result ∧ fld (x.reg 4) 24 8 = fld (m.reg 4) 24 8 ∧
         x.reg 8 = w32 resp.length ∧ (∀ i, i < resp.length → x.resp.byte i = resp.getD i 0#8) ∧ x.req = m.req ∧
         t.out = s.out ++ (if bitAt (m.reg 0xC) 11 then [.msix p (fld (m.reg 0xC) 0 11)] else []) ∧ same t
       (∀ (result : BitVec 4) (resp : List Byte), resp.length ≤ 65536 →
         Answers (.mailboxReply p result resp) s (done result.toNat resp)) ∧
       Answers (.mailboxTimeout p) s (done 3 []))) ∧
  ((∀ (src : MgmtPort) (s : State),
     let served (k : ReqKind) : Prop := s.hears src k = some true ∧ s.carries src k = true ∧ (src ≠ .mg ∨ s.mgServes = true)
     let same (t : State) : Prop := RegsSame s t ∧ HoldingsSame s t ∧ MemSame s t ∧ t.boot = s.boot
     let said (n : Nat) (data : List Byte) (t : State) : Prop := t.out = s.out ++ [.reply src n data] ∧ same t
     let reads (x : Sensor) (c : Instr) : Prop :=
       (∀ v, s.sensor x = some v → Answers c s (said 0 (leBytes 4 v))) ∧ (s.sensor x = none → Answers c s (said 2 []))
     (∀ req : SpdmRequest, served .spdm →
       (s.spdmServed req = true → Answers (.spdmRequest src req) s fun t => ∃ data, data.length = 48 ∧ said 0 data t) ∧
       (s.spdmServed req = false → Answers (.spdmRequest src req) s (said 2 []))) ∧
     (∀ x : Sensor, served .monitor → reads x (.pldmRequest src x)) ∧
     (∀ (cert : ClientCert) (x : Sensor), served .other → src ≠ .mg ∨ s.clientOk cert = true →
       reads x (.redfishRequest src cert (.sensor x)) ∧
       (Answers (.redfishRequest src cert .logs) s fun t => ∃ data, data.length = 48 ∧ said 0 data t) ∧
       ∀ v ∈ [RedfishService.firmwareUpdate, .lifecycleRequest],
         Answers (.redfishRequest src cert v) s (said (if s.boot.busy then 1 else 0) [])) ∧
     (∀ (cert : ClientCert) (v : RedfishService), served .other → src = .mg → s.clientOk cert = false →
       Answers (.redfishRequest src cert v) s (said 4 []))) ∧
   ∀ (ring : Fin 16384) (index : Fin 65536) (error : HostError) (s : State) (d : Desc),
     let c := s.ringCtx ring
     let ended (n : Nat) (t : State) : Prop := t.resultOf c d.no = some ⟨2, 0, 0x20, n⟩ ∧ t.regBit (CTX_HOST_FLAGS c) 5 = true ∧
       (t.ctx c).step = (s.ctx c).step ∧ t.rings = s.rings ∧ t.cores = s.cores
     let plain : Prop := (∀ w, (s.ctx c).swatch = some w → w.desc ≠ d.no) ∧ (∀ q, (s.ctx c).secure = some q → d.no ∉ q.waits)
     s.ctxState c ≠ 0 → s.named c ring index = some d → d.result = none →
     (plain → d.started = true ∨ (d.opc ≠ 3 ∧ d.opc ≠ 4 ∧ d.opc ≠ 8) → Answers (.hostAccessError ring index error) s fun t =>
       ended 0 t ∧ RegsSameBut s t [CTX_HOST_FLAGS c] ∧ MemSame s t ∧ ∀ e, e ≠ c → t.ctx e = s.ctx e) ∧
     (plain → d.started = false → d.opc = 4 ∨ d.opc = 8 → Answers (.hostAccessError ring index error) s fun t =>
       ended 0 t ∧ RegsSameBut s t [CTX_HOST_FLAGS c] ∧ MemSame s t) ∧
     (plain → d.started = false → d.opc = 3 → Answers (.hostAccessError ring index error) s fun t =>
       ∃ n, n ≤ d.f 256 32 ∧ ended n t) ∧
     (∀ w, (s.ctx c).swatch = some w → w.desc = d.no → Answers (.hostAccessError ring index error) s fun t =>
       (t.ctx c).swatch = none ∧ t.regBit (CTX_HOST_FLAGS c) 5 = true ∧ t.regBit (CTX_PIPE_FLAGS c) 5 = true ∧
       t.resultOf c d.no = some ⟨2, 0, 0x20, w.step.toNat + (w.missing <<< 32)⟩ ∧ MemSame s t) ∧
     (∀ q, (∀ w, (s.ctx c).swatch = some w → w.desc ≠ d.no) → (s.ctx c).secure = some q → d.no ∈ q.waits →
       Answers (.hostAccessError ring index error) s fun t => (t.ctx c).secure = none ∧ t.regBit (CTX_HOST_FLAGS c) 5 = true ∧
         (∃ r, t.resultOf c d.no = some r ∧ r.status = 2) ∧ MemSame s t))

/-- Instruction sampling (R568 to R574): an instruction tagged at countdown 0 takes the core's position and its first two counters,
and the countdown is drawn anew between 2^(K−1) and 3 · 2^(K−1); a completed one leaves the core's tags and adds a record to a
buffer of four, or is counted as dropped; the buffer's oldest record goes to its place in the core's sample crate. -/
def Obligations.SamplesAreRecorded : Prop :=
  (∀ (core : Fin 7680) (s : State), s.coreCtx core = none →
    (∀ kind pc word, exec (.sampleTag core kind pc word) s = .next s) ∧ exec (.sampleRecordWrite core) s = .next s ∧
    ∀ which ready run done handoff retried held gated,
      exec (.sampleRecordComplete core which ready run done handoff retried held gated) s = .next s) ∧
  ∀ (core : Fin 7680) (s : State) (c : Nat), s.coreCtx core = some c →
    let k := s.phys core
    let x := s.core k
    (∀ (kind : Fin 5) (pc word : W32), (s.ctx c).step.any (·.sample) = true → s.regBit PERF_STATUS 0 = false → x.countdown = 0 →
      s.powerOf (regionOfPhys k) ≤ 1 → Answers (.sampleTag core kind pc word) s fun t =>
        let y := t.core k
        let r := Config.sampleNext x.sgen
        (∃ n, n < 256 ∧ y.tagged = x.tagged ++ [⟨(s.epoch * 256 + n) % 2 ^ 56, kind.val, word, pc, x.mb, x.pos, x.pass,
          s.reg (CORE_PMC k 0), s.reg (CORE_PMC k 1)⟩]) ∧
        y.sgen = r ∧ y.countdown = 2 ^ (s.sampleK c - 1) + r.toNat % 2 ^ s.sampleK c ∧ y.records = x.records ∧ CoreRest x y ∧
        ScalarsSame x y ∧ y.vregs = x.vregs ∧ CoresSameBut s t k ∧ MemSame s t ∧ RegsSameBut s t (counterRegs k)) ∧
    (∀ (which ready run done : Nat) (handoff retried held gated : Bool) (g : SampleTagged), x.tagged[which]? = some g →
      let sends : Instr := .sampleRecordComplete core which ready run done handoff retried held gated
      let new := s.sampleRecord c core k g ready run done (handoff || g.kind == 4) retried held gated
      let left (t : State) : Prop := (t.core k).tagged = x.tagged.eraseIdx which ∧ CoreRest x (t.core k) ∧ CoresSameBut s t k ∧ MemSame s t
      (x.records.length < 4 → Answers sends s fun t => left t ∧ (t.core k).records = x.records ++ [new] ∧
        RegsSameBut s t [CORE_SAMPLE_SEQ k]) ∧
      (4 ≤ x.records.length → Answers sends s fun t => left t ∧ (t.core k).records = x.records ∧
        t.regBit (PERF_CTX_FLAGS c) 1 = true ∧ t.regBit (CORE_PERF_STATUS k) 10 = true ∧
        RegsSameBut s t (counterRegs k ++ [CORE_SAMPLE_SEQ k, PERF_CTX_DROPS c, PERF_CTX_FLAGS c]))) ∧
    ∀ (rec : W512) (rs : List W512), x.records = rec :: rs →
      let seq := fld rec 288 32 % (1024 * s.sampleC c)
      let n := (s.sampleCrate c core + seq / 1024) % 2 ^ 32
      let off := seq % 1024 * 64
      let e := s.entry c n
      meTier e = 1 ∨ meTier e = 2 → s.crateRetired c n = false → Answers (.sampleRecordWrite core) s fun t =>
        (t.core k).records = rs ∧ CoreRest x (t.core k) ∧ CoresSameBut s t k ∧ HostSame s t ∧ RegsSame s t ∧
        t.placeRead (meplace e) off 64 = leBytes 64 rec.toNat ∧
        (∀ b, meplace e = .cellar b → t.stock = s.stock ∧ ∀ a, (a < b + off ∨ b + off + 64 ≤ a) → t.cellar.byte a = s.cellar.byte a) ∧
        ∀ b, meplace e = .stock b → t.cellar = s.cellar ∧ ∀ a, (a < b + off ∨ b + off + 64 ≤ a) → t.stock.byte a = s.stock.byte a
end

