-- ==== Sys2Proof/Laws/Fields.lean ====
section
/-! SUPPORT. The laws of bit fields: a field reads as it was set, and a field set leaves every other one as it was. -/

namespace Sys2Proof.Machine

theorem fld_testBit {w : Nat} (x : BitVec w) (lo len i : Nat) :
    (fld x lo len).testBit i = (decide (i < len) && x.getLsbD (lo + i)) := by
  unfold fld
  rw [Nat.testBit_mod_two_pow, Nat.testBit_shiftRight]
  rfl

theorem mask_testBit (len i : Nat) : (2 ^ len - 1).testBit i = decide (i < len) := Nat.testBit_two_pow_sub_one len i

/-- The bits of a word after a field is set. -/
theorem getLsbD_setFld {w : Nat} (x : BitVec w) (lo len v j : Nat) (hj : j < w) :
    (setFld x lo len v).getLsbD j = if lo ≤ j ∧ j < lo + len then v.testBit (j - lo) else x.getLsbD j := by
  unfold setFld
  simp only [BitVec.getLsbD_or, BitVec.getLsbD_and, BitVec.getLsbD_not, BitVec.getLsbD_ofNat, Nat.testBit_shiftLeft,
    mask_testBit, Nat.testBit_mod_two_pow, hj, decide_true, Bool.true_and]
  by_cases h : lo ≤ j
  · by_cases h2 : j < lo + len
    · have : j - lo < len := by omega
      simp [h, h2, this]
    · have : ¬ j - lo < len := by omega
      simp [h, h2, this]
  · simp [h]

/-- A field reads as it was set. -/
theorem fld_setFld {w : Nat} (x : BitVec w) (lo len v : Nat) (h : lo + len ≤ w) : fld (setFld x lo len v) lo len = v % 2 ^ len := by
  apply Nat.eq_of_testBit_eq
  intro i
  rw [fld_testBit, Nat.testBit_mod_two_pow]
  by_cases hi : i < len
  · rw [getLsbD_setFld _ _ _ _ _ (by omega)]
    simp [hi]
  · simp [hi]

/-- A field set leaves every other field as it was. -/
theorem fld_setFld_disjoint {w : Nat} (x : BitVec w) (lo len v lo' len' : Nat) (h : lo' + len' ≤ lo ∨ lo + len ≤ lo') :
    fld (setFld x lo len v) lo' len' = fld x lo' len' := by
  apply Nat.eq_of_testBit_eq
  intro i
  rw [fld_testBit, fld_testBit]
  by_cases hi : i < len'
  · by_cases hw : lo' + i < w
    · rw [getLsbD_setFld _ _ _ _ _ hw]
      have : ¬ (lo ≤ lo' + i ∧ lo' + i < lo + len) := by omega
      simp [this]
    · simp [BitVec.getLsbD_of_ge _ _ (Nat.le_of_not_lt hw)]
  · simp [hi]

/-- A bit outside a set field is as it was. -/
theorem bitAt_setFld_out {w : Nat} (x : BitVec w) (lo len v i : Nat) (h : i < lo ∨ lo + len ≤ i) :
    bitAt (setFld x lo len v) i = bitAt x i := by
  unfold bitAt
  by_cases hw : i < w
  · rw [getLsbD_setFld _ _ _ _ _ hw]
    have : ¬ (lo ≤ i ∧ i < lo + len) := by omega
    simp [this]
  · simp [BitVec.getLsbD_of_ge _ _ (Nat.le_of_not_lt hw)]

/-- A bit inside a set field. -/
theorem bitAt_setFld_in {w : Nat} (x : BitVec w) (lo len v i : Nat) (h : lo ≤ i ∧ i < lo + len) (hw : i < w) :
    bitAt (setFld x lo len v) i = v.testBit (i - lo) := by
  unfold bitAt
  rw [getLsbD_setFld _ _ _ _ _ hw]
  simp [h]

end Sys2Proof.Machine
end

