-- ==== Sys2Proof/Laws/State.lean ====
section
/-! SUPPORT. What each update of the state leaves as it was: one lemma per update and field. -/

namespace Sys2Proof.Machine

variable (s : State)

/-! setReg. -/

@[simp] theorem State.setReg_variant (a : Nat) (v : W32) : (s.setReg a v).variant = s.variant := rfl
@[simp] theorem State.setReg_stepping (a : Nat) (v : W32) : (s.setReg a v).stepping = s.stepping := rfl
@[simp] theorem State.setReg_serial (a : Nat) (v : W32) : (s.setReg a v).serial = s.serial := rfl
@[simp] theorem State.setReg_staged (a : Nat) (v : W32) : (s.setReg a v).staged = s.staged := rfl
@[simp] theorem State.setReg_latches (a : Nat) (v : W32) : (s.setReg a v).latches = s.latches := rfl
@[simp] theorem State.setReg_fabric (a : Nat) (v : W32) : (s.setReg a v).fabric = s.fabric := rfl
@[simp] theorem State.setReg_cores (a : Nat) (v : W32) : (s.setReg a v).cores = s.cores := rfl
@[simp] theorem State.setReg_regions (a : Nat) (v : W32) : (s.setReg a v).regions = s.regions := rfl
@[simp] theorem State.setReg_ctxs (a : Nat) (v : W32) : (s.setReg a v).ctxs = s.ctxs := rfl
@[simp] theorem State.setReg_rings (a : Nat) (v : W32) : (s.setReg a v).rings = s.rings := rfl
@[simp] theorem State.setReg_bells (a : Nat) (v : W32) : (s.setReg a v).bells = s.bells := rfl
@[simp] theorem State.setReg_takes (a : Nat) (v : W32) : (s.setReg a v).takes = s.takes := rfl
@[simp] theorem State.setReg_cellar (a : Nat) (v : W32) : (s.setReg a v).cellar = s.cellar := rfl
@[simp] theorem State.setReg_cellarBad (a : Nat) (v : W32) : (s.setReg a v).cellarBad = s.cellarBad := rfl
@[simp] theorem State.setReg_stock (a : Nat) (v : W32) : (s.setReg a v).stock = s.stock := rfl
@[simp] theorem State.setReg_stockBad (a : Nat) (v : W32) : (s.setReg a v).stockBad = s.stockBad := rfl
@[simp] theorem State.setReg_host0 (a : Nat) (v : W32) : (s.setReg a v).host0 = s.host0 := rfl
@[simp] theorem State.setReg_host1 (a : Nat) (v : W32) : (s.setReg a v).host1 = s.host1 := rfl
@[simp] theorem State.setReg_retired (a : Nat) (v : W32) : (s.setReg a v).retired = s.retired := rfl
@[simp] theorem State.setReg_spares (a : Nat) (v : W32) : (s.setReg a v).spares = s.spares := rfl
@[simp] theorem State.setReg_short (a : Nat) (v : W32) : (s.setReg a v).short = s.short := rfl
@[simp] theorem State.setReg_wipes (a : Nat) (v : W32) : (s.setReg a v).wipes = s.wipes := rfl
@[simp] theorem State.setReg_dies (a : Nat) (v : W32) : (s.setReg a v).dies = s.dies := rfl
@[simp] theorem State.setReg_monitors (a : Nat) (v : W32) : (s.setReg a v).monitors = s.monitors := rfl
@[simp] theorem State.setReg_keep (a : Nat) (v : W32) : (s.setReg a v).keep = s.keep := rfl
@[simp] theorem State.setReg_foreman (a : Nat) (v : W32) : (s.setReg a v).foreman = s.foreman := rfl
@[simp] theorem State.setReg_power (a : Nat) (v : W32) : (s.setReg a v).power = s.power := rfl
@[simp] theorem State.setReg_boot (a : Nat) (v : W32) : (s.setReg a v).boot = s.boot := rfl
@[simp] theorem State.setReg_caravan (a : Nat) (v : W32) : (s.setReg a v).caravan = s.caravan := rfl
@[simp] theorem State.setReg_mail0 (a : Nat) (v : W32) : (s.setReg a v).mail0 = s.mail0 := rfl
@[simp] theorem State.setReg_mail1 (a : Nat) (v : W32) : (s.setReg a v).mail1 = s.mail1 := rfl
@[simp] theorem State.setReg_snap (a : Nat) (v : W32) : (s.setReg a v).snap = s.snap := rfl
@[simp] theorem State.setReg_fresh (a : Nat) (v : W32) : (s.setReg a v).fresh = s.fresh := rfl
@[simp] theorem State.setReg_out (a : Nat) (v : W32) : (s.setReg a v).out = s.out := rfl
@[simp] theorem State.setReg_pending (a : Nat) (v : W32) : (s.setReg a v).pending = s.pending := rfl

/-! setCore. -/

@[simp] theorem State.setCore_variant (k : Nat) (c : Core) : (s.setCore k c).variant = s.variant := rfl
@[simp] theorem State.setCore_stepping (k : Nat) (c : Core) : (s.setCore k c).stepping = s.stepping := rfl
@[simp] theorem State.setCore_serial (k : Nat) (c : Core) : (s.setCore k c).serial = s.serial := rfl
@[simp] theorem State.setCore_regs (k : Nat) (c : Core) : (s.setCore k c).regs = s.regs := rfl
@[simp] theorem State.setCore_staged (k : Nat) (c : Core) : (s.setCore k c).staged = s.staged := rfl
@[simp] theorem State.setCore_latches (k : Nat) (c : Core) : (s.setCore k c).latches = s.latches := rfl
@[simp] theorem State.setCore_fabric (k : Nat) (c : Core) : (s.setCore k c).fabric = s.fabric := rfl
@[simp] theorem State.setCore_regions (k : Nat) (c : Core) : (s.setCore k c).regions = s.regions := rfl
@[simp] theorem State.setCore_ctxs (k : Nat) (c : Core) : (s.setCore k c).ctxs = s.ctxs := rfl
@[simp] theorem State.setCore_rings (k : Nat) (c : Core) : (s.setCore k c).rings = s.rings := rfl
@[simp] theorem State.setCore_bells (k : Nat) (c : Core) : (s.setCore k c).bells = s.bells := rfl
@[simp] theorem State.setCore_takes (k : Nat) (c : Core) : (s.setCore k c).takes = s.takes := rfl
@[simp] theorem State.setCore_cellar (k : Nat) (c : Core) : (s.setCore k c).cellar = s.cellar := rfl
@[simp] theorem State.setCore_cellarBad (k : Nat) (c : Core) : (s.setCore k c).cellarBad = s.cellarBad := rfl
@[simp] theorem State.setCore_stock (k : Nat) (c : Core) : (s.setCore k c).stock = s.stock := rfl
@[simp] theorem State.setCore_stockBad (k : Nat) (c : Core) : (s.setCore k c).stockBad = s.stockBad := rfl
@[simp] theorem State.setCore_host0 (k : Nat) (c : Core) : (s.setCore k c).host0 = s.host0 := rfl
@[simp] theorem State.setCore_host1 (k : Nat) (c : Core) : (s.setCore k c).host1 = s.host1 := rfl
@[simp] theorem State.setCore_retired (k : Nat) (c : Core) : (s.setCore k c).retired = s.retired := rfl
@[simp] theorem State.setCore_spares (k : Nat) (c : Core) : (s.setCore k c).spares = s.spares := rfl
@[simp] theorem State.setCore_short (k : Nat) (c : Core) : (s.setCore k c).short = s.short := rfl
@[simp] theorem State.setCore_wipes (k : Nat) (c : Core) : (s.setCore k c).wipes = s.wipes := rfl
@[simp] theorem State.setCore_dies (k : Nat) (c : Core) : (s.setCore k c).dies = s.dies := rfl
@[simp] theorem State.setCore_monitors (k : Nat) (c : Core) : (s.setCore k c).monitors = s.monitors := rfl
@[simp] theorem State.setCore_keep (k : Nat) (c : Core) : (s.setCore k c).keep = s.keep := rfl
@[simp] theorem State.setCore_foreman (k : Nat) (c : Core) : (s.setCore k c).foreman = s.foreman := rfl
@[simp] theorem State.setCore_power (k : Nat) (c : Core) : (s.setCore k c).power = s.power := rfl
@[simp] theorem State.setCore_boot (k : Nat) (c : Core) : (s.setCore k c).boot = s.boot := rfl
@[simp] theorem State.setCore_caravan (k : Nat) (c : Core) : (s.setCore k c).caravan = s.caravan := rfl
@[simp] theorem State.setCore_mail0 (k : Nat) (c : Core) : (s.setCore k c).mail0 = s.mail0 := rfl
@[simp] theorem State.setCore_mail1 (k : Nat) (c : Core) : (s.setCore k c).mail1 = s.mail1 := rfl
@[simp] theorem State.setCore_snap (k : Nat) (c : Core) : (s.setCore k c).snap = s.snap := rfl
@[simp] theorem State.setCore_fresh (k : Nat) (c : Core) : (s.setCore k c).fresh = s.fresh := rfl
@[simp] theorem State.setCore_out (k : Nat) (c : Core) : (s.setCore k c).out = s.out := rfl
@[simp] theorem State.setCore_pending (k : Nat) (c : Core) : (s.setCore k c).pending = s.pending := rfl

/-! setRegion. -/

@[simp] theorem State.setRegion_variant (r : Nat) (x : Region) : (s.setRegion r x).variant = s.variant := rfl
@[simp] theorem State.setRegion_stepping (r : Nat) (x : Region) : (s.setRegion r x).stepping = s.stepping := rfl
@[simp] theorem State.setRegion_serial (r : Nat) (x : Region) : (s.setRegion r x).serial = s.serial := rfl
@[simp] theorem State.setRegion_regs (r : Nat) (x : Region) : (s.setRegion r x).regs = s.regs := rfl
@[simp] theorem State.setRegion_staged (r : Nat) (x : Region) : (s.setRegion r x).staged = s.staged := rfl
@[simp] theorem State.setRegion_latches (r : Nat) (x : Region) : (s.setRegion r x).latches = s.latches := rfl
@[simp] theorem State.setRegion_fabric (r : Nat) (x : Region) : (s.setRegion r x).fabric = s.fabric := rfl
@[simp] theorem State.setRegion_cores (r : Nat) (x : Region) : (s.setRegion r x).cores = s.cores := rfl
@[simp] theorem State.setRegion_ctxs (r : Nat) (x : Region) : (s.setRegion r x).ctxs = s.ctxs := rfl
@[simp] theorem State.setRegion_rings (r : Nat) (x : Region) : (s.setRegion r x).rings = s.rings := rfl
@[simp] theorem State.setRegion_bells (r : Nat) (x : Region) : (s.setRegion r x).bells = s.bells := rfl
@[simp] theorem State.setRegion_takes (r : Nat) (x : Region) : (s.setRegion r x).takes = s.takes := rfl
@[simp] theorem State.setRegion_cellar (r : Nat) (x : Region) : (s.setRegion r x).cellar = s.cellar := rfl
@[simp] theorem State.setRegion_cellarBad (r : Nat) (x : Region) : (s.setRegion r x).cellarBad = s.cellarBad := rfl
@[simp] theorem State.setRegion_stock (r : Nat) (x : Region) : (s.setRegion r x).stock = s.stock := rfl
@[simp] theorem State.setRegion_stockBad (r : Nat) (x : Region) : (s.setRegion r x).stockBad = s.stockBad := rfl
@[simp] theorem State.setRegion_host0 (r : Nat) (x : Region) : (s.setRegion r x).host0 = s.host0 := rfl
@[simp] theorem State.setRegion_host1 (r : Nat) (x : Region) : (s.setRegion r x).host1 = s.host1 := rfl
@[simp] theorem State.setRegion_retired (r : Nat) (x : Region) : (s.setRegion r x).retired = s.retired := rfl
@[simp] theorem State.setRegion_spares (r : Nat) (x : Region) : (s.setRegion r x).spares = s.spares := rfl
@[simp] theorem State.setRegion_short (r : Nat) (x : Region) : (s.setRegion r x).short = s.short := rfl
@[simp] theorem State.setRegion_wipes (r : Nat) (x : Region) : (s.setRegion r x).wipes = s.wipes := rfl
@[simp] theorem State.setRegion_dies (r : Nat) (x : Region) : (s.setRegion r x).dies = s.dies := rfl
@[simp] theorem State.setRegion_monitors (r : Nat) (x : Region) : (s.setRegion r x).monitors = s.monitors := rfl
@[simp] theorem State.setRegion_keep (r : Nat) (x : Region) : (s.setRegion r x).keep = s.keep := rfl
@[simp] theorem State.setRegion_foreman (r : Nat) (x : Region) : (s.setRegion r x).foreman = s.foreman := rfl
@[simp] theorem State.setRegion_power (r : Nat) (x : Region) : (s.setRegion r x).power = s.power := rfl
@[simp] theorem State.setRegion_boot (r : Nat) (x : Region) : (s.setRegion r x).boot = s.boot := rfl
@[simp] theorem State.setRegion_caravan (r : Nat) (x : Region) : (s.setRegion r x).caravan = s.caravan := rfl
@[simp] theorem State.setRegion_mail0 (r : Nat) (x : Region) : (s.setRegion r x).mail0 = s.mail0 := rfl
@[simp] theorem State.setRegion_mail1 (r : Nat) (x : Region) : (s.setRegion r x).mail1 = s.mail1 := rfl
@[simp] theorem State.setRegion_snap (r : Nat) (x : Region) : (s.setRegion r x).snap = s.snap := rfl
@[simp] theorem State.setRegion_fresh (r : Nat) (x : Region) : (s.setRegion r x).fresh = s.fresh := rfl
@[simp] theorem State.setRegion_out (r : Nat) (x : Region) : (s.setRegion r x).out = s.out := rfl
@[simp] theorem State.setRegion_pending (r : Nat) (x : Region) : (s.setRegion r x).pending = s.pending := rfl

/-! setCtx. -/

@[simp] theorem State.setCtx_variant (c : Nat) (x : Ctx) : (s.setCtx c x).variant = s.variant := rfl
@[simp] theorem State.setCtx_stepping (c : Nat) (x : Ctx) : (s.setCtx c x).stepping = s.stepping := rfl
@[simp] theorem State.setCtx_serial (c : Nat) (x : Ctx) : (s.setCtx c x).serial = s.serial := rfl
@[simp] theorem State.setCtx_regs (c : Nat) (x : Ctx) : (s.setCtx c x).regs = s.regs := rfl
@[simp] theorem State.setCtx_staged (c : Nat) (x : Ctx) : (s.setCtx c x).staged = s.staged := rfl
@[simp] theorem State.setCtx_latches (c : Nat) (x : Ctx) : (s.setCtx c x).latches = s.latches := rfl
@[simp] theorem State.setCtx_fabric (c : Nat) (x : Ctx) : (s.setCtx c x).fabric = s.fabric := rfl
@[simp] theorem State.setCtx_cores (c : Nat) (x : Ctx) : (s.setCtx c x).cores = s.cores := rfl
@[simp] theorem State.setCtx_regions (c : Nat) (x : Ctx) : (s.setCtx c x).regions = s.regions := rfl
@[simp] theorem State.setCtx_rings (c : Nat) (x : Ctx) : (s.setCtx c x).rings = s.rings := rfl
@[simp] theorem State.setCtx_bells (c : Nat) (x : Ctx) : (s.setCtx c x).bells = s.bells := rfl
@[simp] theorem State.setCtx_takes (c : Nat) (x : Ctx) : (s.setCtx c x).takes = s.takes := rfl
@[simp] theorem State.setCtx_cellar (c : Nat) (x : Ctx) : (s.setCtx c x).cellar = s.cellar := rfl
@[simp] theorem State.setCtx_cellarBad (c : Nat) (x : Ctx) : (s.setCtx c x).cellarBad = s.cellarBad := rfl
@[simp] theorem State.setCtx_stock (c : Nat) (x : Ctx) : (s.setCtx c x).stock = s.stock := rfl
@[simp] theorem State.setCtx_stockBad (c : Nat) (x : Ctx) : (s.setCtx c x).stockBad = s.stockBad := rfl
@[simp] theorem State.setCtx_host0 (c : Nat) (x : Ctx) : (s.setCtx c x).host0 = s.host0 := rfl
@[simp] theorem State.setCtx_host1 (c : Nat) (x : Ctx) : (s.setCtx c x).host1 = s.host1 := rfl
@[simp] theorem State.setCtx_retired (c : Nat) (x : Ctx) : (s.setCtx c x).retired = s.retired := rfl
@[simp] theorem State.setCtx_spares (c : Nat) (x : Ctx) : (s.setCtx c x).spares = s.spares := rfl
@[simp] theorem State.setCtx_short (c : Nat) (x : Ctx) : (s.setCtx c x).short = s.short := rfl
@[simp] theorem State.setCtx_wipes (c : Nat) (x : Ctx) : (s.setCtx c x).wipes = s.wipes := rfl
@[simp] theorem State.setCtx_dies (c : Nat) (x : Ctx) : (s.setCtx c x).dies = s.dies := rfl
@[simp] theorem State.setCtx_monitors (c : Nat) (x : Ctx) : (s.setCtx c x).monitors = s.monitors := rfl
@[simp] theorem State.setCtx_keep (c : Nat) (x : Ctx) : (s.setCtx c x).keep = s.keep := rfl
@[simp] theorem State.setCtx_foreman (c : Nat) (x : Ctx) : (s.setCtx c x).foreman = s.foreman := rfl
@[simp] theorem State.setCtx_power (c : Nat) (x : Ctx) : (s.setCtx c x).power = s.power := rfl
@[simp] theorem State.setCtx_boot (c : Nat) (x : Ctx) : (s.setCtx c x).boot = s.boot := rfl
@[simp] theorem State.setCtx_caravan (c : Nat) (x : Ctx) : (s.setCtx c x).caravan = s.caravan := rfl
@[simp] theorem State.setCtx_mail0 (c : Nat) (x : Ctx) : (s.setCtx c x).mail0 = s.mail0 := rfl
@[simp] theorem State.setCtx_mail1 (c : Nat) (x : Ctx) : (s.setCtx c x).mail1 = s.mail1 := rfl
@[simp] theorem State.setCtx_snap (c : Nat) (x : Ctx) : (s.setCtx c x).snap = s.snap := rfl
@[simp] theorem State.setCtx_fresh (c : Nat) (x : Ctx) : (s.setCtx c x).fresh = s.fresh := rfl
@[simp] theorem State.setCtx_out (c : Nat) (x : Ctx) : (s.setCtx c x).out = s.out := rfl
@[simp] theorem State.setCtx_pending (c : Nat) (x : Ctx) : (s.setCtx c x).pending = s.pending := rfl

/-! emit. -/

@[simp] theorem State.emit_out (o : Output) : (s.emit o).out = s.out ++ [o] := rfl
@[simp] theorem State.emit_variant (o : Output) : (s.emit o).variant = s.variant := rfl
@[simp] theorem State.emit_stepping (o : Output) : (s.emit o).stepping = s.stepping := rfl
@[simp] theorem State.emit_serial (o : Output) : (s.emit o).serial = s.serial := rfl
@[simp] theorem State.emit_regs (o : Output) : (s.emit o).regs = s.regs := rfl
@[simp] theorem State.emit_staged (o : Output) : (s.emit o).staged = s.staged := rfl
@[simp] theorem State.emit_latches (o : Output) : (s.emit o).latches = s.latches := rfl
@[simp] theorem State.emit_fabric (o : Output) : (s.emit o).fabric = s.fabric := rfl
@[simp] theorem State.emit_cores (o : Output) : (s.emit o).cores = s.cores := rfl
@[simp] theorem State.emit_regions (o : Output) : (s.emit o).regions = s.regions := rfl
@[simp] theorem State.emit_ctxs (o : Output) : (s.emit o).ctxs = s.ctxs := rfl
@[simp] theorem State.emit_rings (o : Output) : (s.emit o).rings = s.rings := rfl
@[simp] theorem State.emit_bells (o : Output) : (s.emit o).bells = s.bells := rfl
@[simp] theorem State.emit_takes (o : Output) : (s.emit o).takes = s.takes := rfl
@[simp] theorem State.emit_cellar (o : Output) : (s.emit o).cellar = s.cellar := rfl
@[simp] theorem State.emit_cellarBad (o : Output) : (s.emit o).cellarBad = s.cellarBad := rfl
@[simp] theorem State.emit_stock (o : Output) : (s.emit o).stock = s.stock := rfl
@[simp] theorem State.emit_stockBad (o : Output) : (s.emit o).stockBad = s.stockBad := rfl
@[simp] theorem State.emit_host0 (o : Output) : (s.emit o).host0 = s.host0 := rfl
@[simp] theorem State.emit_host1 (o : Output) : (s.emit o).host1 = s.host1 := rfl
@[simp] theorem State.emit_retired (o : Output) : (s.emit o).retired = s.retired := rfl
@[simp] theorem State.emit_spares (o : Output) : (s.emit o).spares = s.spares := rfl
@[simp] theorem State.emit_short (o : Output) : (s.emit o).short = s.short := rfl
@[simp] theorem State.emit_wipes (o : Output) : (s.emit o).wipes = s.wipes := rfl
@[simp] theorem State.emit_dies (o : Output) : (s.emit o).dies = s.dies := rfl
@[simp] theorem State.emit_monitors (o : Output) : (s.emit o).monitors = s.monitors := rfl
@[simp] theorem State.emit_keep (o : Output) : (s.emit o).keep = s.keep := rfl
@[simp] theorem State.emit_foreman (o : Output) : (s.emit o).foreman = s.foreman := rfl
@[simp] theorem State.emit_power (o : Output) : (s.emit o).power = s.power := rfl
@[simp] theorem State.emit_boot (o : Output) : (s.emit o).boot = s.boot := rfl
@[simp] theorem State.emit_caravan (o : Output) : (s.emit o).caravan = s.caravan := rfl
@[simp] theorem State.emit_mail0 (o : Output) : (s.emit o).mail0 = s.mail0 := rfl
@[simp] theorem State.emit_mail1 (o : Output) : (s.emit o).mail1 = s.mail1 := rfl
@[simp] theorem State.emit_snap (o : Output) : (s.emit o).snap = s.snap := rfl
@[simp] theorem State.emit_fresh (o : Output) : (s.emit o).fresh = s.fresh := rfl
@[simp] theorem State.emit_pending (o : Output) : (s.emit o).pending = s.pending := rfl

/-! modFabric. -/

@[simp] theorem State.modFabric_fabric (f : Fabric → Fabric) : (s.modFabric f).fabric = f s.fabric := rfl
@[simp] theorem State.modFabric_variant (f : Fabric → Fabric) : (s.modFabric f).variant = s.variant := rfl
@[simp] theorem State.modFabric_stepping (f : Fabric → Fabric) : (s.modFabric f).stepping = s.stepping := rfl
@[simp] theorem State.modFabric_serial (f : Fabric → Fabric) : (s.modFabric f).serial = s.serial := rfl
@[simp] theorem State.modFabric_regs (f : Fabric → Fabric) : (s.modFabric f).regs = s.regs := rfl
@[simp] theorem State.modFabric_staged (f : Fabric → Fabric) : (s.modFabric f).staged = s.staged := rfl
@[simp] theorem State.modFabric_latches (f : Fabric → Fabric) : (s.modFabric f).latches = s.latches := rfl
@[simp] theorem State.modFabric_cores (f : Fabric → Fabric) : (s.modFabric f).cores = s.cores := rfl
@[simp] theorem State.modFabric_regions (f : Fabric → Fabric) : (s.modFabric f).regions = s.regions := rfl
@[simp] theorem State.modFabric_ctxs (f : Fabric → Fabric) : (s.modFabric f).ctxs = s.ctxs := rfl
@[simp] theorem State.modFabric_rings (f : Fabric → Fabric) : (s.modFabric f).rings = s.rings := rfl
@[simp] theorem State.modFabric_bells (f : Fabric → Fabric) : (s.modFabric f).bells = s.bells := rfl
@[simp] theorem State.modFabric_takes (f : Fabric → Fabric) : (s.modFabric f).takes = s.takes := rfl
@[simp] theorem State.modFabric_cellar (f : Fabric → Fabric) : (s.modFabric f).cellar = s.cellar := rfl
@[simp] theorem State.modFabric_cellarBad (f : Fabric → Fabric) : (s.modFabric f).cellarBad = s.cellarBad := rfl
@[simp] theorem State.modFabric_stock (f : Fabric → Fabric) : (s.modFabric f).stock = s.stock := rfl
@[simp] theorem State.modFabric_stockBad (f : Fabric → Fabric) : (s.modFabric f).stockBad = s.stockBad := rfl
@[simp] theorem State.modFabric_host0 (f : Fabric → Fabric) : (s.modFabric f).host0 = s.host0 := rfl
@[simp] theorem State.modFabric_host1 (f : Fabric → Fabric) : (s.modFabric f).host1 = s.host1 := rfl
@[simp] theorem State.modFabric_retired (f : Fabric → Fabric) : (s.modFabric f).retired = s.retired := rfl
@[simp] theorem State.modFabric_spares (f : Fabric → Fabric) : (s.modFabric f).spares = s.spares := rfl
@[simp] theorem State.modFabric_short (f : Fabric → Fabric) : (s.modFabric f).short = s.short := rfl
@[simp] theorem State.modFabric_wipes (f : Fabric → Fabric) : (s.modFabric f).wipes = s.wipes := rfl
@[simp] theorem State.modFabric_dies (f : Fabric → Fabric) : (s.modFabric f).dies = s.dies := rfl
@[simp] theorem State.modFabric_monitors (f : Fabric → Fabric) : (s.modFabric f).monitors = s.monitors := rfl
@[simp] theorem State.modFabric_keep (f : Fabric → Fabric) : (s.modFabric f).keep = s.keep := rfl
@[simp] theorem State.modFabric_foreman (f : Fabric → Fabric) : (s.modFabric f).foreman = s.foreman := rfl
@[simp] theorem State.modFabric_power (f : Fabric → Fabric) : (s.modFabric f).power = s.power := rfl
@[simp] theorem State.modFabric_boot (f : Fabric → Fabric) : (s.modFabric f).boot = s.boot := rfl
@[simp] theorem State.modFabric_caravan (f : Fabric → Fabric) : (s.modFabric f).caravan = s.caravan := rfl
@[simp] theorem State.modFabric_mail0 (f : Fabric → Fabric) : (s.modFabric f).mail0 = s.mail0 := rfl
@[simp] theorem State.modFabric_mail1 (f : Fabric → Fabric) : (s.modFabric f).mail1 = s.mail1 := rfl
@[simp] theorem State.modFabric_snap (f : Fabric → Fabric) : (s.modFabric f).snap = s.snap := rfl
@[simp] theorem State.modFabric_fresh (f : Fabric → Fabric) : (s.modFabric f).fresh = s.fresh := rfl
@[simp] theorem State.modFabric_out (f : Fabric → Fabric) : (s.modFabric f).out = s.out := rfl
@[simp] theorem State.modFabric_pending (f : Fabric → Fabric) : (s.modFabric f).pending = s.pending := rfl

/-! modBoot. -/

@[simp] theorem State.modBoot_boot (f : Boot → Boot) : (s.modBoot f).boot = f s.boot := rfl
@[simp] theorem State.modBoot_variant (f : Boot → Boot) : (s.modBoot f).variant = s.variant := rfl
@[simp] theorem State.modBoot_stepping (f : Boot → Boot) : (s.modBoot f).stepping = s.stepping := rfl
@[simp] theorem State.modBoot_serial (f : Boot → Boot) : (s.modBoot f).serial = s.serial := rfl
@[simp] theorem State.modBoot_regs (f : Boot → Boot) : (s.modBoot f).regs = s.regs := rfl
@[simp] theorem State.modBoot_staged (f : Boot → Boot) : (s.modBoot f).staged = s.staged := rfl
@[simp] theorem State.modBoot_latches (f : Boot → Boot) : (s.modBoot f).latches = s.latches := rfl
@[simp] theorem State.modBoot_fabric (f : Boot → Boot) : (s.modBoot f).fabric = s.fabric := rfl
@[simp] theorem State.modBoot_cores (f : Boot → Boot) : (s.modBoot f).cores = s.cores := rfl
@[simp] theorem State.modBoot_regions (f : Boot → Boot) : (s.modBoot f).regions = s.regions := rfl
@[simp] theorem State.modBoot_ctxs (f : Boot → Boot) : (s.modBoot f).ctxs = s.ctxs := rfl
@[simp] theorem State.modBoot_rings (f : Boot → Boot) : (s.modBoot f).rings = s.rings := rfl
@[simp] theorem State.modBoot_bells (f : Boot → Boot) : (s.modBoot f).bells = s.bells := rfl
@[simp] theorem State.modBoot_takes (f : Boot → Boot) : (s.modBoot f).takes = s.takes := rfl
@[simp] theorem State.modBoot_cellar (f : Boot → Boot) : (s.modBoot f).cellar = s.cellar := rfl
@[simp] theorem State.modBoot_cellarBad (f : Boot → Boot) : (s.modBoot f).cellarBad = s.cellarBad := rfl
@[simp] theorem State.modBoot_stock (f : Boot → Boot) : (s.modBoot f).stock = s.stock := rfl
@[simp] theorem State.modBoot_stockBad (f : Boot → Boot) : (s.modBoot f).stockBad = s.stockBad := rfl
@[simp] theorem State.modBoot_host0 (f : Boot → Boot) : (s.modBoot f).host0 = s.host0 := rfl
@[simp] theorem State.modBoot_host1 (f : Boot → Boot) : (s.modBoot f).host1 = s.host1 := rfl
@[simp] theorem State.modBoot_retired (f : Boot → Boot) : (s.modBoot f).retired = s.retired := rfl
@[simp] theorem State.modBoot_spares (f : Boot → Boot) : (s.modBoot f).spares = s.spares := rfl
@[simp] theorem State.modBoot_short (f : Boot → Boot) : (s.modBoot f).short = s.short := rfl
@[simp] theorem State.modBoot_wipes (f : Boot → Boot) : (s.modBoot f).wipes = s.wipes := rfl
@[simp] theorem State.modBoot_dies (f : Boot → Boot) : (s.modBoot f).dies = s.dies := rfl
@[simp] theorem State.modBoot_monitors (f : Boot → Boot) : (s.modBoot f).monitors = s.monitors := rfl
@[simp] theorem State.modBoot_keep (f : Boot → Boot) : (s.modBoot f).keep = s.keep := rfl
@[simp] theorem State.modBoot_foreman (f : Boot → Boot) : (s.modBoot f).foreman = s.foreman := rfl
@[simp] theorem State.modBoot_power (f : Boot → Boot) : (s.modBoot f).power = s.power := rfl
@[simp] theorem State.modBoot_caravan (f : Boot → Boot) : (s.modBoot f).caravan = s.caravan := rfl
@[simp] theorem State.modBoot_mail0 (f : Boot → Boot) : (s.modBoot f).mail0 = s.mail0 := rfl
@[simp] theorem State.modBoot_mail1 (f : Boot → Boot) : (s.modBoot f).mail1 = s.mail1 := rfl
@[simp] theorem State.modBoot_snap (f : Boot → Boot) : (s.modBoot f).snap = s.snap := rfl
@[simp] theorem State.modBoot_fresh (f : Boot → Boot) : (s.modBoot f).fresh = s.fresh := rfl
@[simp] theorem State.modBoot_out (f : Boot → Boot) : (s.modBoot f).out = s.out := rfl
@[simp] theorem State.modBoot_pending (f : Boot → Boot) : (s.modBoot f).pending = s.pending := rfl

/-! modPower. -/

@[simp] theorem State.modPower_power (f : Power → Power) : (s.modPower f).power = f s.power := rfl
@[simp] theorem State.modPower_variant (f : Power → Power) : (s.modPower f).variant = s.variant := rfl
@[simp] theorem State.modPower_stepping (f : Power → Power) : (s.modPower f).stepping = s.stepping := rfl
@[simp] theorem State.modPower_serial (f : Power → Power) : (s.modPower f).serial = s.serial := rfl
@[simp] theorem State.modPower_regs (f : Power → Power) : (s.modPower f).regs = s.regs := rfl
@[simp] theorem State.modPower_staged (f : Power → Power) : (s.modPower f).staged = s.staged := rfl
@[simp] theorem State.modPower_latches (f : Power → Power) : (s.modPower f).latches = s.latches := rfl
@[simp] theorem State.modPower_fabric (f : Power → Power) : (s.modPower f).fabric = s.fabric := rfl
@[simp] theorem State.modPower_cores (f : Power → Power) : (s.modPower f).cores = s.cores := rfl
@[simp] theorem State.modPower_regions (f : Power → Power) : (s.modPower f).regions = s.regions := rfl
@[simp] theorem State.modPower_ctxs (f : Power → Power) : (s.modPower f).ctxs = s.ctxs := rfl
@[simp] theorem State.modPower_rings (f : Power → Power) : (s.modPower f).rings = s.rings := rfl
@[simp] theorem State.modPower_bells (f : Power → Power) : (s.modPower f).bells = s.bells := rfl
@[simp] theorem State.modPower_takes (f : Power → Power) : (s.modPower f).takes = s.takes := rfl
@[simp] theorem State.modPower_cellar (f : Power → Power) : (s.modPower f).cellar = s.cellar := rfl
@[simp] theorem State.modPower_cellarBad (f : Power → Power) : (s.modPower f).cellarBad = s.cellarBad := rfl
@[simp] theorem State.modPower_stock (f : Power → Power) : (s.modPower f).stock = s.stock := rfl
@[simp] theorem State.modPower_stockBad (f : Power → Power) : (s.modPower f).stockBad = s.stockBad := rfl
@[simp] theorem State.modPower_host0 (f : Power → Power) : (s.modPower f).host0 = s.host0 := rfl
@[simp] theorem State.modPower_host1 (f : Power → Power) : (s.modPower f).host1 = s.host1 := rfl
@[simp] theorem State.modPower_retired (f : Power → Power) : (s.modPower f).retired = s.retired := rfl
@[simp] theorem State.modPower_spares (f : Power → Power) : (s.modPower f).spares = s.spares := rfl
@[simp] theorem State.modPower_short (f : Power → Power) : (s.modPower f).short = s.short := rfl
@[simp] theorem State.modPower_wipes (f : Power → Power) : (s.modPower f).wipes = s.wipes := rfl
@[simp] theorem State.modPower_dies (f : Power → Power) : (s.modPower f).dies = s.dies := rfl
@[simp] theorem State.modPower_monitors (f : Power → Power) : (s.modPower f).monitors = s.monitors := rfl
@[simp] theorem State.modPower_keep (f : Power → Power) : (s.modPower f).keep = s.keep := rfl
@[simp] theorem State.modPower_foreman (f : Power → Power) : (s.modPower f).foreman = s.foreman := rfl
@[simp] theorem State.modPower_boot (f : Power → Power) : (s.modPower f).boot = s.boot := rfl
@[simp] theorem State.modPower_caravan (f : Power → Power) : (s.modPower f).caravan = s.caravan := rfl
@[simp] theorem State.modPower_mail0 (f : Power → Power) : (s.modPower f).mail0 = s.mail0 := rfl
@[simp] theorem State.modPower_mail1 (f : Power → Power) : (s.modPower f).mail1 = s.mail1 := rfl
@[simp] theorem State.modPower_snap (f : Power → Power) : (s.modPower f).snap = s.snap := rfl
@[simp] theorem State.modPower_fresh (f : Power → Power) : (s.modPower f).fresh = s.fresh := rfl
@[simp] theorem State.modPower_out (f : Power → Power) : (s.modPower f).out = s.out := rfl
@[simp] theorem State.modPower_pending (f : Power → Power) : (s.modPower f).pending = s.pending := rfl

/-! modCaravan. -/

@[simp] theorem State.modCaravan_caravan (f : Caravan → Caravan) : (s.modCaravan f).caravan = f s.caravan := rfl
@[simp] theorem State.modCaravan_variant (f : Caravan → Caravan) : (s.modCaravan f).variant = s.variant := rfl
@[simp] theorem State.modCaravan_stepping (f : Caravan → Caravan) : (s.modCaravan f).stepping = s.stepping := rfl
@[simp] theorem State.modCaravan_serial (f : Caravan → Caravan) : (s.modCaravan f).serial = s.serial := rfl
@[simp] theorem State.modCaravan_regs (f : Caravan → Caravan) : (s.modCaravan f).regs = s.regs := rfl
@[simp] theorem State.modCaravan_staged (f : Caravan → Caravan) : (s.modCaravan f).staged = s.staged := rfl
@[simp] theorem State.modCaravan_latches (f : Caravan → Caravan) : (s.modCaravan f).latches = s.latches := rfl
@[simp] theorem State.modCaravan_fabric (f : Caravan → Caravan) : (s.modCaravan f).fabric = s.fabric := rfl
@[simp] theorem State.modCaravan_cores (f : Caravan → Caravan) : (s.modCaravan f).cores = s.cores := rfl
@[simp] theorem State.modCaravan_regions (f : Caravan → Caravan) : (s.modCaravan f).regions = s.regions := rfl
@[simp] theorem State.modCaravan_ctxs (f : Caravan → Caravan) : (s.modCaravan f).ctxs = s.ctxs := rfl
@[simp] theorem State.modCaravan_rings (f : Caravan → Caravan) : (s.modCaravan f).rings = s.rings := rfl
@[simp] theorem State.modCaravan_bells (f : Caravan → Caravan) : (s.modCaravan f).bells = s.bells := rfl
@[simp] theorem State.modCaravan_takes (f : Caravan → Caravan) : (s.modCaravan f).takes = s.takes := rfl
@[simp] theorem State.modCaravan_cellar (f : Caravan → Caravan) : (s.modCaravan f).cellar = s.cellar := rfl
@[simp] theorem State.modCaravan_cellarBad (f : Caravan → Caravan) : (s.modCaravan f).cellarBad = s.cellarBad := rfl
@[simp] theorem State.modCaravan_stock (f : Caravan → Caravan) : (s.modCaravan f).stock = s.stock := rfl
@[simp] theorem State.modCaravan_stockBad (f : Caravan → Caravan) : (s.modCaravan f).stockBad = s.stockBad := rfl
@[simp] theorem State.modCaravan_host0 (f : Caravan → Caravan) : (s.modCaravan f).host0 = s.host0 := rfl
@[simp] theorem State.modCaravan_host1 (f : Caravan → Caravan) : (s.modCaravan f).host1 = s.host1 := rfl
@[simp] theorem State.modCaravan_retired (f : Caravan → Caravan) : (s.modCaravan f).retired = s.retired := rfl
@[simp] theorem State.modCaravan_spares (f : Caravan → Caravan) : (s.modCaravan f).spares = s.spares := rfl
@[simp] theorem State.modCaravan_short (f : Caravan → Caravan) : (s.modCaravan f).short = s.short := rfl
@[simp] theorem State.modCaravan_wipes (f : Caravan → Caravan) : (s.modCaravan f).wipes = s.wipes := rfl
@[simp] theorem State.modCaravan_dies (f : Caravan → Caravan) : (s.modCaravan f).dies = s.dies := rfl
@[simp] theorem State.modCaravan_monitors (f : Caravan → Caravan) : (s.modCaravan f).monitors = s.monitors := rfl
@[simp] theorem State.modCaravan_keep (f : Caravan → Caravan) : (s.modCaravan f).keep = s.keep := rfl
@[simp] theorem State.modCaravan_foreman (f : Caravan → Caravan) : (s.modCaravan f).foreman = s.foreman := rfl
@[simp] theorem State.modCaravan_power (f : Caravan → Caravan) : (s.modCaravan f).power = s.power := rfl
@[simp] theorem State.modCaravan_boot (f : Caravan → Caravan) : (s.modCaravan f).boot = s.boot := rfl
@[simp] theorem State.modCaravan_mail0 (f : Caravan → Caravan) : (s.modCaravan f).mail0 = s.mail0 := rfl
@[simp] theorem State.modCaravan_mail1 (f : Caravan → Caravan) : (s.modCaravan f).mail1 = s.mail1 := rfl
@[simp] theorem State.modCaravan_snap (f : Caravan → Caravan) : (s.modCaravan f).snap = s.snap := rfl
@[simp] theorem State.modCaravan_fresh (f : Caravan → Caravan) : (s.modCaravan f).fresh = s.fresh := rfl
@[simp] theorem State.modCaravan_out (f : Caravan → Caravan) : (s.modCaravan f).out = s.out := rfl
@[simp] theorem State.modCaravan_pending (f : Caravan → Caravan) : (s.modCaravan f).pending = s.pending := rfl

/-! modRing. -/

@[simp] theorem State.modRing_variant (n : Nat) (f : Ring → Ring) : (s.modRing n f).variant = s.variant := rfl
@[simp] theorem State.modRing_stepping (n : Nat) (f : Ring → Ring) : (s.modRing n f).stepping = s.stepping := rfl
@[simp] theorem State.modRing_serial (n : Nat) (f : Ring → Ring) : (s.modRing n f).serial = s.serial := rfl
@[simp] theorem State.modRing_regs (n : Nat) (f : Ring → Ring) : (s.modRing n f).regs = s.regs := rfl
@[simp] theorem State.modRing_staged (n : Nat) (f : Ring → Ring) : (s.modRing n f).staged = s.staged := rfl
@[simp] theorem State.modRing_latches (n : Nat) (f : Ring → Ring) : (s.modRing n f).latches = s.latches := rfl
@[simp] theorem State.modRing_fabric (n : Nat) (f : Ring → Ring) : (s.modRing n f).fabric = s.fabric := rfl
@[simp] theorem State.modRing_cores (n : Nat) (f : Ring → Ring) : (s.modRing n f).cores = s.cores := rfl
@[simp] theorem State.modRing_regions (n : Nat) (f : Ring → Ring) : (s.modRing n f).regions = s.regions := rfl
@[simp] theorem State.modRing_ctxs (n : Nat) (f : Ring → Ring) : (s.modRing n f).ctxs = s.ctxs := rfl
@[simp] theorem State.modRing_bells (n : Nat) (f : Ring → Ring) : (s.modRing n f).bells = s.bells := rfl
@[simp] theorem State.modRing_takes (n : Nat) (f : Ring → Ring) : (s.modRing n f).takes = s.takes := rfl
@[simp] theorem State.modRing_cellar (n : Nat) (f : Ring → Ring) : (s.modRing n f).cellar = s.cellar := rfl
@[simp] theorem State.modRing_cellarBad (n : Nat) (f : Ring → Ring) : (s.modRing n f).cellarBad = s.cellarBad := rfl
@[simp] theorem State.modRing_stock (n : Nat) (f : Ring → Ring) : (s.modRing n f).stock = s.stock := rfl
@[simp] theorem State.modRing_stockBad (n : Nat) (f : Ring → Ring) : (s.modRing n f).stockBad = s.stockBad := rfl
@[simp] theorem State.modRing_host0 (n : Nat) (f : Ring → Ring) : (s.modRing n f).host0 = s.host0 := rfl
@[simp] theorem State.modRing_host1 (n : Nat) (f : Ring → Ring) : (s.modRing n f).host1 = s.host1 := rfl
@[simp] theorem State.modRing_retired (n : Nat) (f : Ring → Ring) : (s.modRing n f).retired = s.retired := rfl
@[simp] theorem State.modRing_spares (n : Nat) (f : Ring → Ring) : (s.modRing n f).spares = s.spares := rfl
@[simp] theorem State.modRing_short (n : Nat) (f : Ring → Ring) : (s.modRing n f).short = s.short := rfl
@[simp] theorem State.modRing_wipes (n : Nat) (f : Ring → Ring) : (s.modRing n f).wipes = s.wipes := rfl
@[simp] theorem State.modRing_dies (n : Nat) (f : Ring → Ring) : (s.modRing n f).dies = s.dies := rfl
@[simp] theorem State.modRing_monitors (n : Nat) (f : Ring → Ring) : (s.modRing n f).monitors = s.monitors := rfl
@[simp] theorem State.modRing_keep (n : Nat) (f : Ring → Ring) : (s.modRing n f).keep = s.keep := rfl
@[simp] theorem State.modRing_foreman (n : Nat) (f : Ring → Ring) : (s.modRing n f).foreman = s.foreman := rfl
@[simp] theorem State.modRing_power (n : Nat) (f : Ring → Ring) : (s.modRing n f).power = s.power := rfl
@[simp] theorem State.modRing_boot (n : Nat) (f : Ring → Ring) : (s.modRing n f).boot = s.boot := rfl
@[simp] theorem State.modRing_caravan (n : Nat) (f : Ring → Ring) : (s.modRing n f).caravan = s.caravan := rfl
@[simp] theorem State.modRing_mail0 (n : Nat) (f : Ring → Ring) : (s.modRing n f).mail0 = s.mail0 := rfl
@[simp] theorem State.modRing_mail1 (n : Nat) (f : Ring → Ring) : (s.modRing n f).mail1 = s.mail1 := rfl
@[simp] theorem State.modRing_snap (n : Nat) (f : Ring → Ring) : (s.modRing n f).snap = s.snap := rfl
@[simp] theorem State.modRing_fresh (n : Nat) (f : Ring → Ring) : (s.modRing n f).fresh = s.fresh := rfl
@[simp] theorem State.modRing_out (n : Nat) (f : Ring → Ring) : (s.modRing n f).out = s.out := rfl
@[simp] theorem State.modRing_pending (n : Nat) (f : Ring → Ring) : (s.modRing n f).pending = s.pending := rfl

end Sys2Proof.Machine
end

