-- ==== Sys2Proof/Laws/Store.lean ====
section
/-! SUPPORT. The laws of sparse maps, memories and bit fields: a read after a write, and the canonical form that every operation
keeps. -/

namespace Sys2Proof.Machine

variable {α : Type} [DecidableEq α] {d : Nat → α}

/-! Reading after writing. -/

omit [DecidableEq α] in
theorem spGet_filter (p : Nat → Bool) (m : Sp α) (k : Nat) :
    spGet d (m.filter fun e => p e.1) k = if p k then spGet d m k else d k := by
  induction m with
  | nil => simp [spGet]
  | cons e m ih =>
    obtain ⟨a, v⟩ := e
    by_cases ha : p a = true
    · rw [List.filter_cons_of_pos (by simpa using ha)]
      by_cases hk : k = a
      · subst hk; simp [spGet, ha]
      · simp [spGet, hk, ih]
    · rw [List.filter_cons_of_neg (by simpa using ha), ih]
      by_cases hk : k = a
      · subst hk; simp [ha]
      · simp [spGet, hk]

omit [DecidableEq α] in
theorem spGet_insert (m : Sp α) (k j : Nat) (v : α) (h : spGet (fun _ => none) (m.map fun e => (e.1, some e.2)) k = none) :
    spGet d (spInsert m k v) j = if j = k then v else spGet d m j := by
  induction m with
  | nil => simp [spInsert, spGet]
  | cons e m ih =>
    obtain ⟨a, w⟩ := e
    by_cases hka : k = a
    · subst hka; simp [spGet] at h
    · have h' : spGet (fun _ => none) (m.map fun e => (e.1, some e.2)) k = none := by
        simpa [spGet, hka] using h
      by_cases hlt : k < a
      · simp [spInsert, hlt, spGet]
      · have := ih h'
        simp only [spInsert, hlt, if_false, spGet, this]
        by_cases hj : j = a
        · subst hj; simp [Ne.symm hka]
        · simp [hj]

omit [DecidableEq α] in
theorem absent_filter (m : Sp α) (k : Nat) :
    spGet (fun _ => none) ((m.filter fun e => e.1 != k).map fun e => (e.1, some e.2)) k = none := by
  induction m with
  | nil => rfl
  | cons e m ih =>
    obtain ⟨a, w⟩ := e
    by_cases h : a = k
    · subst h; simpa using ih
    · have : k ≠ a := fun e => h e.symm
      simp [h, spGet, this]
      simpa using ih

/-- What a map holds at `j` after `k` is set. -/
theorem spGet_spSet (m : Sp α) (k j : Nat) (v : α) : spGet d (spSet d m k v) j = if j = k then v else spGet d m j := by
  have hf (i : Nat) : spGet d (m.filter fun e => e.1 != k) i = if i != k then spGet d m i else d i :=
    spGet_filter (fun a => a != k) m i
  unfold spSet
  split
  · rename_i hv
    rw [hf]
    by_cases h : j = k
    · subst h; simp [hv]
    · simp [h]
  · rw [spGet_insert _ _ _ _ (absent_filter m k), hf]
    by_cases h : j = k <;> simp [h]

@[simp] theorem spGet_spSet_self (m : Sp α) (k : Nat) (v : α) : spGet d (spSet d m k v) k = v := by simp [spGet_spSet]
theorem spGet_spSet_ne (m : Sp α) {k j : Nat} (v : α) (h : j ≠ k) : spGet d (spSet d m k v) j = spGet d m j := by
  simp [spGet_spSet, h]

omit [DecidableEq α] in
/-- What a map holds after the keys that satisfy `p` have been dropped. -/
theorem spGet_spDrop (p : Nat → Bool) (m : Sp α) (k : Nat) :
    spGet d (spDrop p m) k = if p k then d k else spGet d m k := by
  have := spGet_filter (d := d) (fun a => !p a) m k
  unfold spDrop; rw [this]; cases p k <;> simp

/-! The canonical form. -/

theorem spWfFrom_mono (m : Sp α) {lo hi : Nat} (h : lo ≤ hi) (hm : spWfFrom d hi m = true) : spWfFrom d lo m = true := by
  cases m with
  | nil => rfl
  | cons e m =>
    obtain ⟨a, v⟩ := e
    simp only [spWfFrom, Bool.and_eq_true, decide_eq_true_eq] at hm ⊢
    exact ⟨⟨by omega, hm.1.2⟩, hm.2⟩

theorem spWfFrom_filter (p : Nat × α → Bool) (m : Sp α) (lo : Nat) (h : spWfFrom d lo m = true) :
    spWfFrom d lo (m.filter p) = true := by
  induction m generalizing lo with
  | nil => rfl
  | cons e m ih =>
    obtain ⟨a, v⟩ := e
    simp only [spWfFrom, Bool.and_eq_true, decide_eq_true_eq] at h
    have ih' := ih _ h.2
    cases hp : p (a, v)
    · rw [List.filter_cons_of_neg (by simp [hp])]
      exact spWfFrom_mono _ (by omega) ih'
    · rw [List.filter_cons_of_pos hp]
      simp only [spWfFrom, Bool.and_eq_true, decide_eq_true_eq]
      exact ⟨h.1, ih'⟩

theorem spWfFrom_insert (m : Sp α) (lo k : Nat) (v : α) (hk : lo ≤ k) (hv : v ≠ d k) (h : spWfFrom d lo m = true)
    (hab : ∀ e ∈ m, e.1 ≠ k) : spWfFrom d lo (spInsert m k v) = true := by
  induction m generalizing lo with
  | nil => simp [spInsert, spWfFrom, hk, hv]
  | cons e m ih =>
    obtain ⟨a, w⟩ := e
    simp only [spWfFrom, Bool.and_eq_true, decide_eq_true_eq] at h
    have hak : a ≠ k := hab (a, w) (by simp)
    by_cases hlt : k < a
    · simp only [spInsert, hlt, if_true, spWfFrom, Bool.and_eq_true, decide_eq_true_eq]
      exact ⟨⟨hk, hv⟩, ⟨by omega, h.1.2⟩, h.2⟩
    · simp only [spInsert, hlt, if_false, spWfFrom, Bool.and_eq_true, decide_eq_true_eq]
      exact ⟨h.1, ih (a + 1) (by omega) h.2 fun e he => hab e (by simp [he])⟩

/-- Setting a key keeps the canonical form. -/
theorem spWf_spSet (m : Sp α) (k : Nat) (v : α) (h : spWf d m = true) : spWf d (spSet d m k v) = true := by
  have hf := spWfFrom_filter (d := d) (fun e => e.1 != k) m 0 h
  unfold spSet spWf
  split
  · exact hf
  · rename_i hv
    refine spWfFrom_insert _ _ _ _ (by omega) hv hf fun e he => ?_
    have := (List.mem_filter.mp he).2
    simpa using this

theorem spWf_spDrop (p : Nat → Bool) (m : Sp α) (h : spWf d m = true) : spWf d (spDrop p m) = true :=
  spWfFrom_filter _ m 0 h

theorem spWfFrom_append (m n : Sp α) (lo mid : Nat) (hm : spWfFrom d lo m = true) (hn : spWfFrom d mid n = true)
    (hlo : lo ≤ mid) (hb : ∀ e ∈ m, e.1 < mid) : spWfFrom d lo (m ++ n) = true := by
  induction m generalizing lo with
  | nil => exact spWfFrom_mono n hlo hn
  | cons e m ih =>
    obtain ⟨a, v⟩ := e
    simp only [spWfFrom, Bool.and_eq_true, decide_eq_true_eq] at hm
    have := hb (a, v) (by simp)
    simp only [List.cons_append, spWfFrom, Bool.and_eq_true, decide_eq_true_eq]
    exact ⟨hm.1, ih (a + 1) hm.2 (by simp at this; omega) fun e he => hb e (by simp [he])⟩

theorem spWfFrom_shift (m : Sp α) (c : α) (lo k : Nat) (h : spWfFrom (fun _ => c) lo m = true) :
    spWfFrom (fun _ => c) (lo + k) (m.map fun e => (e.1 + k, e.2)) = true := by
  induction m generalizing lo with
  | nil => rfl
  | cons e m ih =>
    obtain ⟨a, v⟩ := e
    simp only [spWfFrom, Bool.and_eq_true, decide_eq_true_eq] at h
    simp only [List.map_cons, spWfFrom, Bool.and_eq_true, decide_eq_true_eq]
    refine ⟨⟨by omega, h.1.2⟩, ?_⟩
    have := ih _ h.2
    rwa [Nat.add_right_comm] at this

theorem spWfFrom_above (p : Nat × α → Bool) (m : Sp α) (lo hi : Nat) (h : spWfFrom d lo m = true)
    (hp : ∀ e, p e = true → hi ≤ e.1) : spWfFrom d hi (m.filter p) = true := by
  induction m generalizing lo with
  | nil => rfl
  | cons e m ih =>
    obtain ⟨a, v⟩ := e
    simp only [spWfFrom, Bool.and_eq_true, decide_eq_true_eq] at h
    cases hpa : p (a, v)
    · rw [List.filter_cons_of_neg (by simp [hpa])]
      exact ih _ h.2
    · rw [List.filter_cons_of_pos hpa]
      simp only [spWfFrom, Bool.and_eq_true, decide_eq_true_eq]
      exact ⟨⟨hp _ hpa, h.1.2⟩, spWfFrom_filter p m (a + 1) h.2⟩

/-- Replacing a block by a canonical one keeps the canonical form. -/
theorem spWf_spPut (c : α) (lo n : Nat) (sl m : Sp α) (hs : spWf (fun _ => c) sl = true) (hm : spWf (fun _ => c) m = true) :
    spWf (fun _ => c) (spPut lo n sl m) = true := by
  unfold spPut spWf
  rw [List.append_assoc]
  refine spWfFrom_append _ _ 0 lo (spWfFrom_filter _ m 0 hm) ?_ (by omega) ?_
  · refine spWfFrom_append _ _ lo (lo + n) ?_ (spWfFrom_above _ m 0 (lo + n) hm (by simp)) (by omega) ?_
    · have := spWfFrom_shift _ c 0 lo (spWfFrom_filter (fun e => decide (e.1 < n)) sl 0 hs)
      simpa using this
    · intro e he
      obtain ⟨x, hx, rfl⟩ := List.mem_map.mp he
      have := (List.mem_filter.mp hx).2
      simp at this ⊢; omega
  · intro e he
    have := (List.mem_filter.mp he).2
    simpa using this

theorem spWf_sparseFrom (c : α) (i : Nat) (l : List α) : spWfFrom (fun _ => c) i (sparseFrom c i l) = true := by
  induction l generalizing i with
  | nil => rfl
  | cons v l ih =>
    unfold sparseFrom
    split
    · exact spWfFrom_mono _ (by omega) (ih (i + 1))
    · rename_i hv
      simp only [spWfFrom, Bool.and_eq_true, decide_eq_true_eq]
      exact ⟨⟨by omega, hv⟩, ih (i + 1)⟩

theorem spWf_spSlice (c : α) (lo n : Nat) (m : Sp α) (h : spWf (fun _ => c) m = true) : spWf (fun _ => c) (spSlice lo n m) = true := by
  have hf := spWfFrom_above (d := fun _ => c) (fun e => decide (lo ≤ e.1) && decide (e.1 < lo + n)) m 0 lo h (by simp; omega)
  have hb : ∀ e ∈ m.filter (fun e => decide (lo ≤ e.1) && decide (e.1 < lo + n)), lo ≤ e.1 := by
    intro e he; have := (List.mem_filter.mp he).2; simp at this; omega
  unfold spSlice spWf
  generalize m.filter (fun e => decide (lo ≤ e.1) && decide (e.1 < lo + n)) = l at hf hb
  have key : ∀ (l : Sp α) (a : Nat), lo ≤ a → (∀ e ∈ l, lo ≤ e.1) → spWfFrom (fun _ => c) a l = true →
      spWfFrom (fun _ => c) (a - lo) (l.map fun e => (e.1 - lo, e.2)) = true := by
    intro l
    induction l with
    | nil => intros; rfl
    | cons e l ih =>
      obtain ⟨b, v⟩ := e
      intro a ha hb h
      simp only [spWfFrom, Bool.and_eq_true, decide_eq_true_eq] at h
      have hlb : lo ≤ b := hb (b, v) (by simp)
      simp only [List.map_cons, spWfFrom, Bool.and_eq_true, decide_eq_true_eq]
      refine ⟨⟨by omega, h.1.2⟩, ?_⟩
      have := ih (b + 1) (by omega) (fun e he => hb e (by simp [he])) h.2
      rwa [Nat.sub_add_comm hlb] at this
  have := key l lo (Nat.le_refl _) hb hf
  simpa using this

/-! Memories. -/

@[simp] theorem Mem.byte_setByte_self (m : Mem) (a : Nat) (b : Byte) : (m.setByte a b).byte a = b := spGet_spSet_self m a b
theorem Mem.byte_setByte_ne (m : Mem) {a x : Nat} (b : Byte) (h : x ≠ a) : (m.setByte a b).byte x = m.byte x :=
  spGet_spSet_ne m b h
theorem Mem.wf_setByte (m : Mem) (a : Nat) (b : Byte) (h : m.wf = true) : (m.setByte a b).wf = true := spWf_spSet m a b h
theorem Mem.wf_write (m : Mem) (a : Nat) (bs : List Byte) (h : m.wf = true) : (m.write a bs).wf = true :=
  spWf_spPut _ a bs.length _ m (spWf_sparseFrom _ 0 bs) h
theorem Mem.wf_clear (m : Mem) (a n : Nat) (h : m.wf = true) : (m.clear a n).wf = true := spWf_spPut _ a n [] m rfl h
theorem Mem.wf_copyTo (m m' : Mem) (src n dst : Nat) (h : m.wf = true) (h' : m'.wf = true) : (m.copyTo src n m' dst).wf = true :=
  spWf_spPut _ dst n _ m' (spWf_spSlice _ src n m h) h'
theorem Mem.wf_writeNat (m : Mem) (a n v : Nat) (h : m.wf = true) : (m.writeNat a n v).wf = true := m.wf_write a _ h

omit [DecidableEq α] in
theorem spGet_append_left (m n : Sp α) (k : Nat) (h : ∀ e ∈ m, e.1 ≠ k) : spGet d (m ++ n) k = spGet d n k := by
  induction m with
  | nil => rfl
  | cons e m ih =>
    obtain ⟨a, v⟩ := e
    have : k ≠ a := fun he => h (a, v) (by simp) he.symm
    simp only [List.cons_append, spGet, this, if_false]
    exact ih fun e he => h e (by simp [he])

omit [DecidableEq α] in
theorem spGet_append_right (m n : Sp α) (k : Nat) (h : ∀ e ∈ n, e.1 ≠ k) : spGet d (m ++ n) k = spGet d m k := by
  induction m with
  | nil =>
    have := spGet_append_left (d := d) n [] k h
    simpa [spGet] using this
  | cons e m ih =>
    obtain ⟨a, v⟩ := e
    simp only [List.cons_append, spGet, ih]

omit [DecidableEq α] in
/-- A block replaced leaves every key outside it as it was. -/
theorem spGet_spPut_out (lo n : Nat) (sl m : Sp α) (k : Nat) (h : k < lo ∨ lo + n ≤ k) :
    spGet d (spPut lo n sl m) k = spGet d m k := by
  have hb : ∀ e ∈ (sl.filter fun e => decide (e.1 < n)).map fun e => (e.1 + lo, e.2), e.1 ≠ k := by
    intro e he
    obtain ⟨x, hx, rfl⟩ := List.mem_map.mp he
    have := (List.mem_filter.mp hx).2
    simp at this ⊢; omega
  unfold spPut
  rcases h with h | h
  · rw [List.append_assoc, spGet_append_right _ _ _ fun e he => ?_, spGet_filter (fun a => decide (a < lo))]
    · simp [h]
    · rcases List.mem_append.mp he with he | he
      · exact hb e he
      · have := (List.mem_filter.mp he).2; simp at this; omega
  · rw [spGet_append_left _ _ _ fun e he => ?_, spGet_filter (fun a => decide (lo + n ≤ a))]
    · simp [h]
    · rcases List.mem_append.mp he with he | he
      · have := (List.mem_filter.mp he).2; simp at this; omega
      · exact hb e he

/-- A write leaves every byte outside it as it was. -/
theorem Mem.byte_write_out (m : Mem) (a x : Nat) (bs : List Byte) (h : x < a ∨ a + bs.length ≤ x) :
    (m.write a bs).byte x = m.byte x := spGet_spPut_out a bs.length _ m x h
theorem Mem.byte_clear_out (m : Mem) (a n x : Nat) (h : x < a ∨ a + n ≤ x) : (m.clear a n).byte x = m.byte x :=
  spGet_spPut_out a n _ m x h

/-- A sparse block reads as the list that it was made of. -/
theorem spGet_sparseFrom (c : α) (i : Nat) (l : List α) (k : Nat) (h : i ≤ k) :
    spGet (fun _ => c) (sparseFrom c i l) k = l.getD (k - i) c := by
  induction l generalizing i with
  | nil => simp [sparseFrom, spGet]
  | cons v l ih =>
    have below : ∀ e ∈ sparseFrom c (i + 1) l, i + 1 ≤ e.1 := by
      intro e he
      have hw := spWf_sparseFrom c (i + 1) l
      generalize sparseFrom c (i + 1) l = m at he hw
      generalize i + 1 = lo at hw
      induction m generalizing lo with
      | nil => cases he
      | cons x m ihm =>
        obtain ⟨a, w⟩ := x
        simp only [spWfFrom, Bool.and_eq_true, decide_eq_true_eq] at hw
        rcases List.mem_cons.mp he with rfl | he
        · exact hw.1.1
        · have := ihm he (a + 1) hw.2; omega
    by_cases hk : k = i
    · subst hk
      have out : spGet (fun _ => c) (sparseFrom c (k + 1) l) k = c := by
        have := spGet_append_left (d := fun _ => c) (sparseFrom c (k + 1) l) [] k fun e he hx => by have := below e he; omega
        simpa [spGet] using this
      by_cases hv : v = c
      · simp [sparseFrom, hv, out]
      · simp [sparseFrom, hv, spGet]
    · have hk' : i + 1 ≤ k := by omega
      have hs : k - i = (k - (i + 1)) + 1 := by omega
      by_cases hv : v = c
      · simp [sparseFrom, hv, ih (i + 1) hk', hs]
      · simp [sparseFrom, hv, spGet, hk, ih (i + 1) hk', hs]

/-- A write is read back, byte by byte. -/
theorem Mem.byte_write_in (m : Mem) (a x : Nat) (bs : List Byte) (h : a ≤ x ∧ x < a + bs.length) :
    (m.write a bs).byte x = bs.getD (x - a) 0#8 := by
  unfold Mem.byte Mem.write spPut
  have h1 : ∀ e ∈ m.filter (fun e => decide (e.1 < a)), e.1 ≠ x := by
    intro e he; have := (List.mem_filter.mp he).2; simp at this; omega
  have h2 : ∀ e ∈ m.filter (fun e => decide (a + bs.length ≤ e.1)), e.1 ≠ x := by
    intro e he; have := (List.mem_filter.mp he).2; simp at this; omega
  rw [List.append_assoc, spGet_append_left _ _ _ h1, spGet_append_right _ _ _ h2]
  have key : ∀ (l : Sp Byte), spGet (fun _ => 0#8) (l.map fun e => (e.1 + a, e.2)) x = spGet (fun _ => 0#8) l (x - a) := by
    intro l
    induction l with
    | nil => rfl
    | cons e l ih =>
      obtain ⟨b, v⟩ := e
      simp only [List.map_cons, spGet, ih]
      have : (x = b + a) ↔ (x - a = b) := by omega
      simp [this]
  rw [key, spGet_filter (fun a => decide (a < bs.length))]
  have : x - a < bs.length := by omega
  simp [this, spGet_sparseFrom 0#8 0 bs (x - a) (Nat.zero_le _)]

/-- A write is read back. -/
theorem Mem.read_write (m : Mem) (a : Nat) (bs : List Byte) : (m.write a bs).read a bs.length = bs := by
  apply List.ext_getElem (by simp [Mem.read])
  intro i h1 h2
  simp only [Mem.read, List.getElem_map, List.getElem_range]
  rw [Mem.byte_write_in _ _ _ _ ⟨by omega, by omega⟩]
  simp [h2]

end Sys2Proof.Machine
end

