-- ==== Sys2Proof/Laws/Ops.lean ====
section
/-! SUPPORT. The laws of the named operations: what a register, a core, a region or a context holds after an update, the compound
updates in terms of the plain ones, and what a fold over updates keeps. -/

namespace Sys2Proof.Machine

variable (s : State)

/-! Registers. -/

theorem State.reg_setReg (a b : Nat) (v : W32) : (s.setReg a v).reg b = if b = a then v else s.reg b := spGet_spSet s.regs a b v
@[simp] theorem State.reg_setReg_self (a : Nat) (v : W32) : (s.setReg a v).reg a = v := by simp [State.reg_setReg]
theorem State.reg_setReg_ne {a b : Nat} (v : W32) (h : b ≠ a) : (s.setReg a v).reg b = s.reg b := by simp [State.reg_setReg, h]

@[simp] theorem State.reg_setCore (k : Nat) (c : Core) (a : Nat) : (s.setCore k c).reg a = s.reg a := rfl
@[simp] theorem State.reg_setRegion (r : Nat) (x : Region) (a : Nat) : (s.setRegion r x).reg a = s.reg a := rfl
@[simp] theorem State.reg_setCtx (c : Nat) (x : Ctx) (a : Nat) : (s.setCtx c x).reg a = s.reg a := rfl
@[simp] theorem State.reg_modCore (k : Nat) (f : Core → Core) (a : Nat) : (s.modCore k f).reg a = s.reg a := rfl
@[simp] theorem State.reg_modRegion (r : Nat) (f : Region → Region) (a : Nat) : (s.modRegion r f).reg a = s.reg a := rfl
@[simp] theorem State.reg_modCtx (c : Nat) (f : Ctx → Ctx) (a : Nat) : (s.modCtx c f).reg a = s.reg a := rfl
@[simp] theorem State.reg_modStep (c : Nat) (f : StepRun → StepRun) (a : Nat) : (s.modStep c f).reg a = s.reg a := rfl
@[simp] theorem State.reg_emit (o : Output) (a : Nat) : (s.emit o).reg a = s.reg a := rfl
@[simp] theorem State.reg_modFabric (f : Fabric → Fabric) (a : Nat) : (s.modFabric f).reg a = s.reg a := rfl
@[simp] theorem State.reg_modBoot (f : Boot → Boot) (a : Nat) : (s.modBoot f).reg a = s.reg a := rfl
@[simp] theorem State.reg_modPower (f : Power → Power) (a : Nat) : (s.modPower f).reg a = s.reg a := rfl
@[simp] theorem State.reg_modCaravan (f : Caravan → Caravan) (a : Nat) : (s.modCaravan f).reg a = s.reg a := rfl

/-- A field of a register reads as it was set. -/
theorem State.regFld_setRegFld (a lo len v : Nat) (h : lo + len ≤ 32) : (s.setRegFld a lo len v).regFld a lo len = v % 2 ^ len := by
  simp [State.regFld, State.setRegFld, fld_setFld _ _ _ _ h]

/-- Another field of the register, or a field of another one, is as it was. -/
theorem State.regFld_setRegFld_disjoint (a lo len v lo' len' : Nat) (h : lo' + len' ≤ lo ∨ lo + len ≤ lo') :
    (s.setRegFld a lo len v).regFld a lo' len' = s.regFld a lo' len' := by
  simp [State.regFld, State.setRegFld, fld_setFld_disjoint _ _ _ _ _ _ h]

theorem State.regFld_setRegFld_ne {a b : Nat} (lo len v lo' len' : Nat) (h : b ≠ a) :
    (s.setRegFld a lo len v).regFld b lo' len' = s.regFld b lo' len' := by
  simp [State.regFld, State.setRegFld, State.reg_setReg_ne _ _ h]

theorem State.reg_setRegFld_ne {a b : Nat} (lo len v : Nat) (h : b ≠ a) : (s.setRegFld a lo len v).reg b = s.reg b :=
  s.reg_setReg_ne _ h
theorem State.reg_orReg_ne {a b : Nat} (m : Nat) (h : b ≠ a) : (s.orReg a m).reg b = s.reg b := s.reg_setReg_ne _ h
theorem State.reg_bump_ne {a b : Nat} (n : Nat) (h : b ≠ a) : (s.bump a n).reg b = s.reg b := s.reg_setReg_ne _ h
@[simp] theorem State.reg_bump (a n : Nat) : (s.bump a n).reg a = s.reg a + BitVec.ofNat 32 n := s.reg_setReg_self a _
@[simp] theorem State.reg_orReg (a m : Nat) : (s.orReg a m).reg a = s.reg a ||| BitVec.ofNat 32 m := s.reg_setReg_self a _
@[simp] theorem State.reg_setRegFld (a lo len v : Nat) : (s.setRegFld a lo len v).reg a = setFld (s.reg a) lo len v :=
  s.reg_setReg_self a _

/-- A sticky bit once set reads 1. -/
theorem State.regBit_orReg (a i m : Nat) (h : i < 32) (hm : m.testBit i = true) : (s.orReg a m).regBit a i = true := by
  unfold State.regBit bitAt
  rw [State.reg_orReg, BitVec.getLsbD_or, BitVec.getLsbD_ofNat, hm]
  simp [h]

/-- The value of every register after a reset of the registers that satisfy `p`. -/
theorem State.reg_resetRegs (p : Nat → Bool) (a : Nat) : (s.resetRegs p).reg a = if p a then regReset a else s.reg a :=
  spGet_spDrop p s.regs a

/-! Cores, regions, contexts. -/

theorem State.core_setCore (k j : Nat) (c : Core) : (s.setCore k c).core j = if j = k then c else s.core j := spGet_spSet s.cores k j c
theorem State.core_modCore (k j : Nat) (f : Core → Core) : (s.modCore k f).core j = if j = k then f (s.core k) else s.core j :=
  s.core_setCore k j _
@[simp] theorem State.core_modCore_self (k : Nat) (f : Core → Core) : (s.modCore k f).core k = f (s.core k) := by
  simp [State.core_modCore]
theorem State.region_setRegion (r q : Nat) (x : Region) : (s.setRegion r x).region q = if q = r then x else s.region q :=
  spGet_spSet s.regions r q x
theorem State.region_modRegion (r q : Nat) (f : Region → Region) :
    (s.modRegion r f).region q = if q = r then f (s.region r) else s.region q := s.region_setRegion r q _
@[simp] theorem State.region_modRegion_self (r : Nat) (f : Region → Region) : (s.modRegion r f).region r = f (s.region r) := by
  simp [State.region_modRegion]
theorem State.ctx_setCtx (c e : Nat) (x : Ctx) : (s.setCtx c x).ctx e = if e = c then x else s.ctx e := spGet_spSet s.ctxs c e x
theorem State.ctx_modCtx (c e : Nat) (f : Ctx → Ctx) : (s.modCtx c f).ctx e = if e = c then f (s.ctx c) else s.ctx e :=
  s.ctx_setCtx c e _
@[simp] theorem State.ctx_modCtx_self (c : Nat) (f : Ctx → Ctx) : (s.modCtx c f).ctx c = f (s.ctx c) := by simp [State.ctx_modCtx]

@[simp] theorem State.ctx_setReg (a : Nat) (v : W32) (c : Nat) : (s.setReg a v).ctx c = s.ctx c := rfl
@[simp] theorem State.ctx_modCore (k : Nat) (f : Core → Core) (c : Nat) : (s.modCore k f).ctx c = s.ctx c := rfl
@[simp] theorem State.ctx_modRegion (r : Nat) (f : Region → Region) (c : Nat) : (s.modRegion r f).ctx c = s.ctx c := rfl
@[simp] theorem State.ctx_emit (o : Output) (c : Nat) : (s.emit o).ctx c = s.ctx c := rfl
@[simp] theorem State.region_setReg (a : Nat) (v : W32) (r : Nat) : (s.setReg a v).region r = s.region r := rfl
@[simp] theorem State.region_modCore (k : Nat) (f : Core → Core) (r : Nat) : (s.modCore k f).region r = s.region r := rfl
@[simp] theorem State.region_modCtx (c : Nat) (f : Ctx → Ctx) (r : Nat) : (s.modCtx c f).region r = s.region r := rfl
@[simp] theorem State.region_emit (o : Output) (r : Nat) : (s.emit o).region r = s.region r := rfl
@[simp] theorem State.core_setReg (a : Nat) (v : W32) (k : Nat) : (s.setReg a v).core k = s.core k := rfl
@[simp] theorem State.core_modRegion (r : Nat) (f : Region → Region) (k : Nat) : (s.modRegion r f).core k = s.core k := rfl
@[simp] theorem State.core_modCtx (c : Nat) (f : Ctx → Ctx) (k : Nat) : (s.modCtx c f).core k = s.core k := rfl
@[simp] theorem State.core_emit (o : Output) (k : Nat) : (s.emit o).core k = s.core k := rfl

/-! What every command keeps. -/

/-- Two states of one module with the same queue: what no command changes; and canonical memories stay canonical. -/
structure Keeps (s t : State) : Prop where
  pending  : t.pending = s.pending
  variant  : t.variant = s.variant
  stepping : t.stepping = s.stepping
  serial   : t.serial = s.serial
  host0    : s.host0.wf = true → t.host0.wf = true
  host1    : s.host1.wf = true → t.host1.wf = true
  cellar   : s.cellar.wf = true → t.cellar.wf = true
  stock    : s.stock.wf = true → t.stock.wf = true

theorem Keeps.refl : Keeps s s := ⟨rfl, rfl, rfl, rfl, id, id, id, id⟩

variable {s}

theorem Keeps.trans {t u : State} (a : Keeps s t) (b : Keeps t u) : Keeps s u :=
  ⟨b.pending.trans a.pending, b.variant.trans a.variant, b.stepping.trans a.stepping, b.serial.trans a.serial,
   b.host0 ∘ a.host0, b.host1 ∘ a.host1, b.cellar ∘ a.cellar, b.stock ∘ a.stock⟩

/-- A fold of updates keeps what each of them keeps. -/
theorem Keeps.foldl {α : Type} {f : State → α → State} (h : ∀ t a, Keeps t (f t a)) (l : List α) (s : State) :
    Keeps s (l.foldl f s) := by
  induction l generalizing s with
  | nil => exact Keeps.refl s
  | cons a l ih => exact (h s a).trans (ih (f s a))

/-- The same of a fold that carries something beside the state. -/
theorem Keeps.foldl_pair {α β : Type} {f : State × β → α → State × β} (h : ∀ t a, Keeps t.1 (f t a).1) (l : List α) (s : State × β) :
    Keeps s.1 (l.foldl f s).1 := by
  induction l generalizing s with
  | nil => exact Keeps.refl s.1
  | cons a l ih => exact (h s a).trans (ih (f s a))

theorem Keeps.ite {c : Prop} [Decidable c] {t u : State} (a : Keeps s t) (b : Keeps s u) : Keeps s (if c then t else u) := by
  split <;> assumption

theorem Keeps.setReg (a : Nat) (v : W32) : Keeps s (s.setReg a v) := ⟨rfl, rfl, rfl, rfl, id, id, id, id⟩
theorem Keeps.setRegFld (a lo len v : Nat) : Keeps s (s.setRegFld a lo len v) := Keeps.setReg a _
theorem Keeps.orReg (a m : Nat) : Keeps s (s.orReg a m) := Keeps.setReg a _
theorem Keeps.bump (a n : Nat) : Keeps s (s.bump a n) := Keeps.setReg a _
theorem Keeps.setCore (k : Nat) (c : Core) : Keeps s (s.setCore k c) := ⟨rfl, rfl, rfl, rfl, id, id, id, id⟩
theorem Keeps.modCore (k : Nat) (f : Core → Core) : Keeps s (s.modCore k f) := Keeps.setCore k _
theorem Keeps.setRegion (r : Nat) (x : Region) : Keeps s (s.setRegion r x) := ⟨rfl, rfl, rfl, rfl, id, id, id, id⟩
theorem Keeps.modRegion (r : Nat) (f : Region → Region) : Keeps s (s.modRegion r f) := Keeps.setRegion r _
theorem Keeps.setCtx (c : Nat) (x : Ctx) : Keeps s (s.setCtx c x) := ⟨rfl, rfl, rfl, rfl, id, id, id, id⟩
theorem Keeps.modCtx (c : Nat) (f : Ctx → Ctx) : Keeps s (s.modCtx c f) := Keeps.setCtx c _
theorem Keeps.modStep (c : Nat) (f : StepRun → StepRun) : Keeps s (s.modStep c f) := Keeps.modCtx c _
theorem Keeps.modRing (n : Nat) (f : Ring → Ring) : Keeps s (s.modRing n f) := ⟨rfl, rfl, rfl, rfl, id, id, id, id⟩
theorem Keeps.modFabric (f : Fabric → Fabric) : Keeps s (s.modFabric f) := ⟨rfl, rfl, rfl, rfl, id, id, id, id⟩
theorem Keeps.modBoot (f : Boot → Boot) : Keeps s (s.modBoot f) := ⟨rfl, rfl, rfl, rfl, id, id, id, id⟩
theorem Keeps.modPower (f : Power → Power) : Keeps s (s.modPower f) := ⟨rfl, rfl, rfl, rfl, id, id, id, id⟩
theorem Keeps.modCaravan (f : Caravan → Caravan) : Keeps s (s.modCaravan f) := ⟨rfl, rfl, rfl, rfl, id, id, id, id⟩
theorem Keeps.emit (o : Output) : Keeps s (s.emit o) := ⟨rfl, rfl, rfl, rfl, id, id, id, id⟩
theorem Keeps.resetRegs (p : Nat → Bool) : Keeps s (s.resetRegs p) := ⟨rfl, rfl, rfl, rfl, id, id, id, id⟩
theorem Keeps.free : Keeps s s.free.2 := ⟨rfl, rfl, rfl, rfl, id, id, id, id⟩

theorem Keeps.postEvent (c code : Nat) (d0 d1 d2 : W32) : Keeps s (s.postEvent c code d0 d1 d2) := by
  unfold State.postEvent; exact Keeps.modCtx c _
theorem Keeps.postAll (code : Nat) (d0 d1 d2 : W32) : Keeps s (s.postAll code d0 d1 d2) :=
  Keeps.foldl (fun _ c => Keeps.postEvent c code d0 d1 d2) _ s
theorem Keeps.doubt (c mb : Nat) : Keeps s (s.doubt c mb) := Keeps.modCtx c _
/-- Sending a frame of class 0 touches nothing but the caravan, its registers and what leaves the module. -/
theorem Keeps.launch (p : Option Nat) (f : Frame) : Keeps s (s.launch p f) := by
  unfold State.launch
  split
  · exact Keeps.ite (Keeps.emit _) (Keeps.refl _)
  · exact Keeps.ite (Keeps.refl _) ((Keeps.bump _ _).trans (Keeps.orReg _ _))
theorem Keeps.newXid : Keeps s s.newXid.2 := ⟨rfl, rfl, rfl, rfl, id, id, id, id⟩
theorem Keeps.sendHello (p : Nat) (dst : Option Nat) : Keeps s (s.sendHello p dst) :=
  Keeps.newXid.trans (Keeps.free.trans ((Keeps.modCaravan _).trans (Keeps.emit _)))
theorem Keeps.greet (dst : Nat) : Keeps s (s.greet dst) := by
  unfold State.greet
  refine Keeps.ite (Keeps.refl _) ?_
  split
  · exact Keeps.refl _
  · exact Keeps.sendHello _ _
theorem Keeps.sendExpress (c dst type_ : Nat) (sub : W256) : Keeps s (s.sendExpress c dst type_ sub) :=
  (Keeps.greet dst).trans (Keeps.newXid.trans ((Keeps.modCaravan _).trans (Keeps.launch _ _)))
theorem Keeps.tellVerdict (c mb : Nat) (clean : Bool) : Keeps s (s.tellVerdict c mb clean) :=
  (Keeps.modStep c _).trans (Keeps.foldl (fun _ _ => Keeps.sendExpress _ _ _ _) _ _)
theorem Keeps.withhold (c mb r : Nat) : Keeps s (s.withhold c mb r) := by
  have h : ∀ t : State, Keeps t (if (t.ctx c).step.any fun st => st.judged.contains mb then
      (t.tellVerdict c mb false).modStep c fun st => { st with recalled := insertNew mb st.recalled } else t) := fun t =>
    Keeps.ite ((Keeps.tellVerdict c mb false).trans (Keeps.modStep c _)) (Keeps.refl _)
  unfold State.withhold
  exact Keeps.trans (Keeps.doubt c mb)
    (Keeps.ite (Keeps.refl _) (((Keeps.modCtx c _).trans (Keeps.postEvent c _ _ _ _)).trans (h _)))
theorem Keeps.complete (c no status reason code result : Nat) :
    Keeps s (s.complete c no status reason code result) := by
  unfold State.complete State.modDesc; exact Keeps.modCtx c _
theorem Keeps.start (c no : Nat) : Keeps s (s.start c no) := by
  unfold State.start State.modDesc; exact Keeps.modCtx c _

/-- Host memory stays canonical when the module writes it. -/
theorem Keeps.hostWrite (port a : Nat) (bs : List Byte) : Keeps s (s.hostWrite port a bs) := by
  unfold State.hostWrite
  split
  · exact ⟨rfl, rfl, rfl, rfl, fun h => Mem.wf_write _ _ _ h, id, id, id⟩
  · exact ⟨rfl, rfl, rfl, rfl, id, fun h => Mem.wf_write _ _ _ h, id, id⟩

end Sys2Proof.Machine
end

