-- ==== Sys2Proof/Laws/Rings.lean ====
section
/-! SUPPORT. The laws of descriptors: what a ready descriptor is, and what its completion leaves. -/

namespace Sys2Proof.Machine

variable {s : State}

/-- A descriptor that is ready has its opcode and number, and has neither started nor completed. -/
theorem State.ready_spec {ring index opc c : Nat} {d : Desc} (h : s.ready? ring index opc = some (c, d)) :
    c = s.ringCtx ring ∧ s.desc c d.no = some d ∧ d.opc = opc ∧ d.started = false ∧ d.result = none ∧ s.mayStart c d = true := by
  unfold State.ready? at h
  simp only at h
  split at h
  · cases h
  · split at h
    · rename_i e he
      split at h
      · rename_i hc
        cases h
        simp only [Bool.and_eq_true, beq_iff_eq] at hc
        have hm := hc.2
        unfold State.mayStart at hm
        simp only [Bool.and_eq_true, Bool.not_eq_true', Option.isNone_iff_eq_none] at hm
        refine ⟨rfl, ?_, hc.1, hm.1.1.1.1.1, hm.1.1.1.1.2, hc.2⟩
        unfold State.named at he
        obtain ⟨x, -, hx⟩ := Option.bind_eq_some_iff.mp he
        have hno : d.no = x.no := by
          unfold State.desc at hx
          simpa using List.find?_some hx
        rw [hno]; exact hx
      · cases h
    · cases h

/-- One taken descriptor after an update that keeps its number. -/
theorem State.desc_modDesc (c no : Nat) (f : Desc → Desc) (hf : ∀ d, (f d).no = d.no) :
    (s.modDesc c no f).desc c no = (s.desc c no).map f := by
  unfold State.desc State.modDesc
  rw [State.ctx_modCtx_self]
  simp only
  generalize (s.ctx c).taken = l
  induction l with
  | nil => rfl
  | cons d l ih =>
    by_cases h : d.no = no
    · subst h; simp [List.find?, hf]
    · have h' : (d.no == no) = false := by simp [h]
      simp only [List.map_cons, List.find?, h', ih, Bool.false_eq_true, if_false]

theorem State.desc_start (c no : Nat) {d : Desc} (h : s.desc c no = some d) :
    (s.start c no).desc c no = some { d with started := true } := by
  unfold State.start
  rw [State.desc_modDesc c no (fun d => { d with started := true }) (fun _ => rfl), h]
  rfl

/-- The result of a completion is the descriptor's, unless it has completed already. -/
theorem State.desc_complete (c no status reason code result : Nat) {d : Desc} (h : s.desc c no = some d) (hr : d.result = none) :
    (s.complete c no status reason code result).desc c no =
      some { d with started := true, result := some ⟨status, code, reason, result⟩ } := by
  unfold State.complete
  rw [State.desc_modDesc _ _ _ (by intro d; split <;> rfl), h]
  simp [hr]

theorem State.resultOf_complete (c no status reason code result : Nat) {d : Desc} (h : s.desc c no = some d) (hr : d.result = none) :
    (s.complete c no status reason code result).resultOf c no = some ⟨status, code, reason, result⟩ := by
  unfold State.resultOf
  rw [State.desc_complete c no status reason code result h hr]
  rfl

end Sys2Proof.Machine
end

