-- ==== Sys2Proof/WellFormed.lean ====
section
/-! DEFINITION. Which commands are well formed: a word carries its row's opcode, an access has a size that a host can send, the
masters that meet in one clock cycle are different ones, and lists are no longer than the module has units. -/

namespace Sys2Proof

/-- An instruction word carries the opcode `opc` in its low byte (R120, R205). -/
def hasOpc {n : Nat} (w : BitVec n) (opc : Nat) : Bool := w.toNat % 256 == opc

/-- The masters of writes that meet in one keeper clock cycle are different (R469). -/
def mastersDiffer (m : Master) (lost : List (Master × ModState)) : Bool :=
  decide ((m :: lost.map (·.1)).Nodup)

/-- What the steps of a region test report fits the region (R538). -/
def RegionTestResult.wf (x : RegionTestResult) : Bool :=
  decide (x.svcFailed ≤ 4) && x.deadCores.all (fun k => decide (k < 143)) && x.badSlots.all (fun n => decide (n < 2621440))

/-- The well-formed commands. -/
def Instr.wf : Instr → Bool
  | .doorbell _ _ size _ => decide (1 ≤ size ∧ size ≤ 8)
  | .registerWrite _ _ _ size _ _ => decide (1 ≤ size ∧ size ≤ 8)
  | .latchedLowRead _ _ _ size => decide (1 ≤ size ∧ size ≤ 4096)
  | .run m lost | .pause m lost | .halt m lost | .reset m lost | .powerOff m lost => mastersDiffer m lost
  | .portLock _ lanes _ => decide (lanes ∈ ([1, 2, 4, 8] : List Nat))
  | .thermalSample regions stackTemps _ vlog =>
    decide (regions.length ≤ 64 ∧ stackTemps.length ≤ 48 ∧ vlog.length ≤ 64) && regions.all fun t => decide (t.cellar.length ≤ 8)
  | .regionTest _ result => result.wf
  | .crateRebuild _ _ contents => decide (contents.length ≤ 65536)
  | .tmma _ w => hasOpc w 0x20
  | .tmmaz _ w => hasOpc w 0x21
  | .tdrain _ w _ => hasOpc w 0x22
  | .tzero _ w => hasOpc w 0x23
  | .vnop _ w _ => hasOpc w 0x00
  | .vadd _ w _ => hasOpc w 0x01
  | .vsub _ w _ => hasOpc w 0x02
  | .vmul _ w _ => hasOpc w 0x03
  | .vfma _ w _ => hasOpc w 0x04
  | .vdiv _ w _ => hasOpc w 0x05
  | .vmax _ w _ => hasOpc w 0x06
  | .vmin _ w _ => hasOpc w 0x07
  | .vabs _ w _ => hasOpc w 0x08
  | .vneg _ w _ => hasOpc w 0x09
  | .vaddw _ w _ => hasOpc w 0x0A
  | .vand _ w _ => hasOpc w 0x0B
  | .vor _ w _ => hasOpc w 0x0C
  | .vxor _ w _ => hasOpc w 0x0D
  | .vexp2 _ w _ => hasOpc w 0x10
  | .vlog2 _ w _ => hasOpc w 0x11
  | .vrcp _ w _ => hasOpc w 0x12
  | .vrsqrt _ w _ => hasOpc w 0x13
  | .vcmp _ w _ => hasOpc w 0x18
  | .vsel _ w _ => hasOpc w 0x19
  | .vmop _ w _ => hasOpc w 0x1A
  | .vcvt _ w _ => hasOpc w 0x20
  | .vcvts _ w _ => hasOpc w 0x21
  | .scaleb _ w _ => hasOpc w 0x22
  | .vld _ w _ => hasOpc w 0x30
  | .vst _ w _ => hasOpc w 0x31
  | .vgather _ w _ => hasOpc w 0x32
  | .vscatter _ w _ => hasOpc w 0x33
  | .vscatadd _ w _ => hasOpc w 0x34
  | .vldx _ w _ => hasOpc w 0x35
  | .vstc _ w _ => hasOpc w 0x36
  | .vldm _ w _ => hasOpc w 0x37
  | .vstm _ w _ => hasOpc w 0x3C
  | .vperm _ w _ => hasOpc w 0x38
  | .vcompress _ w _ => hasOpc w 0x39
  | .vexpand _ w _ => hasOpc w 0x3A
  | .vbcast _ w _ => hasOpc w 0x3B
  | .vred _ w _ => hasOpc w 0x40
  | .vscan _ w _ => hasOpc w 0x41
  | .vnorm _ w _ => hasOpc w 0x50
  | .vsoftmax _ w _ => hasOpc w 0x51
  | .vloss _ w _ => hasOpc w 0x52
  | .vresadd _ w _ => hasOpc w 0x53
  | .lprog _ w _ => hasOpc w 0x60
  | .vsetfill _ w _ => hasOpc w 0x61
  | .vstat _ w _ => hasOpc w 0x62
  | .lpload _ w _ => hasOpc w 0x63
  | .descriptorTake | .step .. | .sched .. | .moveToTensor .. | .moveToHost .. | .moveDiscard .. | .ledgerInit .. | .swatch ..
  | .secure .. | .fence .. | .queryCrateMap .. | .queryCtxWindow .. | .querySinkTable .. | .queryRingWindows ..
  | .queryProgramSlots .. | .queryScaleLedger .. | .queryLedgerDirectory .. | .assign .. | .remove .. | .sinkSet ..
  | .sinkClear .. | .cancel .. | .teardown .. | .completionWrite .. | .eventWrite .. | .eventRepeatWindowClose ..
  | .ringIrqSignal .. | .ctxEnable .. | .ctxAbort .. | .ringEnable .. | .ringDrain .. | .ringDrainComplete .. | .portLoss ..
  | .freeze .. | .snapshot .. | .snapshotComplete | .mbxDoorbell .. | .mailboxReply .. | .mailboxTimeout .. | .tileCheck ..
  | .tileRetry .. | .laneProgramTimeout .. | .encoderCommand .. | .cellarTransfer .. | .cellarTransferEnd ..
  | .cellarTransferLate .. | .rdpmc .. | .barrierArrive .. | .epochStart | .holdLatch .. | .controlSlot ..
  | .controlFrameReceive .. | .scheduleRealign | .segmentStart .. | .hopEntryRun .. | .fabricModeChange .. | .servicePacket ..
  | .microBatchBoundary .. | .repairRefetchComplete .. | .prefetchFetch .. | .crateLanding .. | .readyGateOpen ..
  | .weightFetchEnd .. | .repairPeerAnswer .. | .repairPeerSilent .. | .repairDeadline .. | .stockroomRequestLate ..
  | .stockroomUncorrRead .. | .cellarUncorrRead .. | .benchUncorrRead .. | .migrationStart .. | .migrationSwitch ..
  | .crateMapLost .. | .wipeComplete .. | .teardownWipeComplete .. | .sumReceive .. | .verdictReceive .. | .sumAgain ..
  | .sealedTileReceive .. | .applyStart .. | .normReceive .. | .ledgerTileApply .. | .applyComplete .. | .beaconReceive ..
  | .commitDeadline .. | .recoveryWalk .. | .replicaRebuild .. | .rebuildStalled .. | .join .. | .commitRemoved ..
  | .withhold .. | .scaleCopyRebuild .. | .slotStart .. | .stagingCrateSend .. | .handoff .. | .handoffDeadline ..
  | .swatchReadStart .. | .swatchTileEnd .. | .swatchComplete .. | .regionDark .. | .foremanLost | .foremanTakeover
  | .baseDieUnitFail .. | .channelRebuild .. | .healthEvaluate .. | .secureStart .. | .secured .. | .secureFailed ..
  | .secureImageReceive .. | .hello .. | .ack .. | .verdict .. | .beacon .. | .norm .. | .sum .. | .put .. | .fetch ..
  | .data .. | .caravanRetryTime .. | .flowIdleRelease .. | .pfcPause .. | .portEnable .. | .portDisable .. | .retrain ..
  | .trainingTimeout .. | .laneLoss .. | .retrainTimeout .. | .osfpInsert .. | .osfpRemove .. | .vinUp .. | .vinLost
  | .ilkClose | .ilkOpen | .prechargeComplete | .prechargeFail | .vinHardLimit .. | .inputRange .. | .coolReadyLost
  | .fuseTrip .. | .phaseFail .. | .rampRequest .. | .rampGrant | .rampDeferTimeout .. | .rampComplete ..
  | .clockStepChange .. | .powerSample .. | .coolantSample .. | .coolantLimit | .oscillatorFail .. | .boot | .waveStart
  | .regionTestTimeout .. | .stockroomTest .. | .bringupFinish .. | .inventoryWrite | .lifecycleRequest .. | .nonceIssue ..
  | .firmwareUpdate .. | .firmwareActivation .. | .spdmRequest .. | .pldmRequest .. | .redfishRequest .. | .sampleTag ..
  | .sampleRecordComplete .. | .sampleRecordWrite .. | .hostAccessError .. | .hostLinkUp .. | .serviceCoreFail ..
  | .keySlotRevoke .. | .helloResend .. | .crateMapCopyRebuild .. | .coolReadyRestored => true

end Sys2Proof
end

