-- ==== Sys2Proof/Tests/Slice0.lean ====
section
/-! SUPPORT. Tests of the model: ill-formed commands that the well-formedness check refuses, the spec's worked values, and for
every statement with hypotheses a concrete state and operands that meet them, clause by clause. -/

open Sys2Proof Sys2Proof.Machine

namespace Sys2Proof.Tests

set_option Elab.async false

/-! States that the tests use. -/

/-- Registers put at values, by address. -/
def put (l : List (Nat × Nat)) (s : State) : State := l.foldl (fun s e => s.setReg e.1 (w32 e.2)) s
def put1 (a v : Nat) (s : State) : State := put [(a, v)] s

/-- After a bring-up: region 0 in RUN, the entry region 1 in DOZE with the foreman, region 2 in RUN. -/
def base : State :=
  put [(MOD_STATUS, 0x20), (MOD_BRINGUP_STATUS, 4), (MOD_FABRIC_STATUS, 1), (POWER_STATUS, 3 + 8 + 16 + 16 * 64), (HEALTH_FOREMAN, 1),
       (REGION_POWER 0, 16 * 4), (REGION_POWER 1, 1 + 16 * 4), (REGION_POWER 2, 16 * 4), (MOD_LIFECYCLE, 2)]
    { State.reset with
      foreman := { Foreman.reset with active := true, standbys := [22] }
      boot := { Boot.reset with wiping := false }
      regions := [(0, { Region.reset with proven := true }), (1, { Region.reset with proven := true }), (2, { Region.reset with proven := true })] }

/-- A taken descriptor, not started. -/
def desc (no ring index : Nat) (words : Nat) : Desc := ⟨no, ring, index, BitVec.ofNat 512 words, true, 0, false, none⟩
/-- A descriptor's words from its fields: low bit and value. -/
def fields (l : List (Nat × Nat)) : Nat := l.foldl (fun n e => n + (e.2 <<< e.1)) 0

/-- Context 0 of port H0 with region 0, a submission ring 4 with its completion ring 5, an event ring 6. -/
def ctx0 : State :=
  let s := put [(CTX_STATUS 0, 1), (CTX_QUOTA_RINGS 0, 16), (CTX_QUOTA_CELLAR 0, 2000), (CTX_QUOTA_STOCK 0, 2000),
    (RING_CONFIG 4, 1 + (4 <<< 2) + (5 <<< 16)), (RING_CONFIG 5, 2 + (4 <<< 2)), (RING_CONFIG 6, 3 + (4 <<< 2)),
    (RING_ENABLE 4, 1), (RING_ENABLE 5, 1), (RING_ENABLE 6, 1), (RING_STATUS 4, 9), (RING_STATUS 5, 9), (RING_STATUS 6, 9),
    (RING_BASE_LO 4, 0x10000), (RING_BASE_LO 5, 0x20000), (RING_BASE_LO 6, 0x30000),
    (CTX_EVENT_RING 0, 6 + 2 ^ 31)] base
  { s.modRegion 0 fun r => { r with owner := some 0 } with
    rings := [(4, { Ring.reset with on := true }), (5, { Ring.reset with on := true }), (6, { Ring.reset with on := true })] }

/-- Context 0 with one descriptor taken from ring 4 at index 0. -/
def took (opc : Nat) (l : List (Nat × Nat)) (s : State := ctx0) : State :=
  (s.modCtx 0 fun x => { x with taken := [desc 7 4 0 (opc + fields l)] })

/-- Map crate `n` of context 0 at the stockroom crate of the same number, and put bytes at its start. -/
def crate (n : Nat) (bs : List Byte) (s : State) : State :=
  { s.modCtx 0 fun x => { x with map := spSet (fun _ => 0#64) x.map n (BitVec.ofNat 64 (2 + (n <<< 32))) } with
    stock := s.stock.write (stockBase n) bs }

/-- A schedule image in crates 8 and 9: one position with one weight crate (16), one micro-batch of 5 tokens, one slot, one shard. -/
def imageHdr : Nat := 0x5347 + (1 <<< 16) + (1 <<< 32) + (3 <<< 40) + (1 <<< 64) + (100 <<< 128) + (100 <<< 160) + (1 <<< 224) + (5 <<< 256)
def part (kind cr gran len : Nat) : List Byte := leBytes 16 (kind + (cr <<< 32) + (gran <<< 64) + (len <<< 96))
def imageA : List Byte :=
  leBytes 60 imageHdr ++ leBytes 4 796040251 ++ part 1 8 4 2 ++ part 2 8 8 1 ++ part 4 8 10 1 ++ List.replicate 16 0#8 ++
  leBytes 16 ((1 <<< 4) + (1 <<< 8) + (2048 <<< 32) + (1 <<< 80) + (1 <<< 96) + (1 <<< 117)) ++ leBytes 16 (1 + (1 <<< 64)) ++
  leBytes 16 ((1 <<< 12) + (16 <<< 32)) ++ List.replicate 80 0#8 ++
  leBytes 16 (1 + (1 <<< 16) + (1 <<< 40) + (1 <<< 44)) ++ leBytes 8 5 ++ leBytes 8 (0xFF000000 + (0xFF <<< 32)) ++ List.replicate 32 0#8 ++
  leBytes 16 (9 <<< 64)
def imageB : List Byte :=
  part 0x10 9 32 0 ++ part 0x11 9 4 2 ++ part 0x12 9 8 1 ++ part 0x13 9 32 0 ++ part 0x14 9 32 0 ++ List.replicate 48 0#8 ++
  [0xFF#8] ++ List.replicate 63 0xFE#8 ++
  List.replicate 64 0#8 ++ leBytes 16 ((1 <<< 32) + (1 <<< 61)) ++ leBytes 8 0

/-- The image is loaded in no slot yet; crate 16 is a weight crate, 20 the job list, 21 the directory, 22 a ledger tile, 23 the
optimiser block. -/
def job : State :=
  put [(CARAVAN_MODULE_ID, 2 ^ 31), (CARAVAN_CTX_COUNT 0, 1), (CARAVAN_CTX_LIST 0, 20), (STREAM_LEDGER_TILES 0, 1), (STREAM_LEDGER_DIR 0, 21)]
    (crate 8 imageA (crate 9 imageB (crate 16 [] (crate 20 [] (crate 21 (leBytes 32 (sealRec (22 <<< 16))) (crate 22 [] (crate 23 [1] ctx0)))))))
/-- A program of one variant, one micro-batch and one slot, for region 0. -/
def prog : Program := { (default : Program) with
  icrate := 8, regions := 1, cellar := 100, stock := 100, jobMbs := 1, jobTokens := 5, tokens := [5], slots := [default],
  variants := [{ (default : Variant) with tree := 0xFF :: List.replicate 63 0xFE }], crates := [8, 9] }
/-- The program is in slot 0. -/
def jobs : State := job.modCtx 0 fun x => { x with slots := [(0, some prog)] }
def stepD : List (Nat × Nat) := [(128, 23 * 65536), (192, 77)]
/-- Context 0 with core 0 changed. -/
def core0 (f : Core → Core) (s : State := ctx0) : State := s.modCore 0 f
/-- A sparse INT8 tile with one element: 3 granules. -/
def tileHdr : Nat := 5 + (1 <<< 16) + (1 <<< 24) + (3 <<< 40) + (1 <<< 64)
def tileBytes (v : Nat) : List Byte := leBytes 32 tileHdr ++ leBytes 32 1 ++ leBytes 32 v
def tiles : State := core0 fun k => { k with bench := (Mem.write [] 0 (tileBytes 3)).write 256 (tileBytes 5) }
def tmmaW (opc acc : Nat) : BitVec 128 := BitVec.ofNat 128 (opc + (5 <<< 8) + (5 <<< 12) + (acc <<< 22) + (8 <<< 48) + (64 <<< 64))
/-- A TMMA or TMMAZ of the tile of 3 by the tile of 5, at a stage. -/
def operand (v : Nat) : TileOperand := loadOperand (Mem.write [] 0 (tileBytes v)) 0 false
def mmaOp (acc : Nat) (z : Bool) (st : TileStage := .computing) (again : Bool := false) : TileOp :=
  { kind := .mma z true (tmmaW (if z then 0x21 else 0x20) acc) (operand 3) (operand 5), acc := acc, stage := st, retried := again }
/-- A core with a few vector elements, masks, scalars and bench bytes. -/
def vec : State := core0 (fun k => { k with
  vregs := [(0, 0x40000000#32), (1, 0x3F800000#32), (2, 0xC0400000#32), (8192, 1#32), (8193, 2#32), (8194, 0x7F800000#32), (16384, 0x3F000000#32),
            (24576, 7#32), (24577, 8#32), (24578, 9#32)]
  mregs := [(1, true), (2, true), (8192, true), (8194, true)], sregs := [(1, 2#32), (2, 0x87654380#32), (3, 3#32)]
  bench := Mem.write [] 60 [1, 2, 3, 4, 5, 6, 7, 8, 9, 10, 11, 12, 13, 14, 15, 16, 17] })
/-- VD 3, VA 0, VB 1, VC 2 or 3. -/
def vw (opc fmt count : Nat) (more : Nat := 0) (vc : Nat := 3) : W64 :=
  BitVec.ofNat 64 (opc + (fmt <<< 8) + (3 <<< 12) + (1 <<< 20) + (vc <<< 24) + (count <<< 35) + more)
/-- A step in progress in context 0. -/
def stepping (st : StepRun) (s : State := ctx0) : State := s.modCtx 0 fun x => { x with step := some st }
/-- A step whose program has one variant. -/
def oneVar (v : Variant) : StepRun := { (default : StepRun) with variant := some 0, prog := { (default : Program) with variants := [v], slots := [(default : SlotRec)], tokens := [5] } }
/-- Crate `n` of context 0 in slot 3 of row-bay 0 of region 0. -/
def cellarCrate (n : Nat) (s : State) : State :=
  s.modCtx 0 fun x => { x with map := spSet (fun _ => 0#64) x.map n (BitVec.ofNat 64 (1 + ((3 <<< 10) <<< 32))) }

/-- The state that a command answers. -/
def after (c : Instr) (s : State) : State := match exec c s with | .next t => t | _ => s
/-- Whether a command answers a next state. -/
def goes (c : Instr) (s : State) : Bool := match exec c s with | .next _ => true | _ => false
/-- The descriptor at the head of ring 4. -/
def head (s : State) : Desc := match (s.ctx 0).taken with | d :: _ => d | [] => desc 0 0 0 0
/-- With a swatch of context 0 in progress. -/
def sw (s : State) : State := s.modCtx 0 fun x => { x with swatch := some { (default : SwatchRun) with desc := 33, plan := 8, phase := 2 } }

/-- The checkable form of `settled`. -/
def settledB (ops : List TileOp) : Bool := (List.range ops.length).all fun n => match ops[n]? with
  | some o => !tileReady (ops.take n) o
  | none => true
theorem settled_of (ops : List TileOp) (h : settledB ops = true) : settled ops := by
  rintro pre post o rfl
  have := List.all_eq_true.mp h pre.length (by simp)
  simpa using this
/-- The checkable form of `Core.wf`. -/
def wfB (c : Core) : Bool :=
  c.bench.wf && spWf zeroW c.vregs && spWf (fun _ => false) c.mregs && c.accs.all (fun e => spWf zeroW e.2.elems) &&
  c.ops.all (fun o => match o.stage with | .passed p _ => spWf zeroW p | _ => true) && settledB c.ops
theorem spGet_cases {α : Type} (d : Nat → α) (m : Sp α) (k : Nat) : spGet d m k = d k ∨ ∃ e ∈ m, spGet d m k = e.2 := by
  induction m with
  | nil => exact .inl rfl
  | cons e m ih =>
    obtain ⟨a, v⟩ := e
    by_cases h : k = a
    · exact .inr ⟨(a, v), by simp, by simp [spGet, h]⟩
    · simp only [spGet, h, if_false]
      exact ih.imp_right fun ⟨e, he, hv⟩ => ⟨e, by simp [he], hv⟩
theorem wf_of (c : Core) (h : wfB c = true) : c.wf := by
  simp only [wfB, Bool.and_eq_true, List.all_eq_true] at h
  obtain ⟨⟨⟨⟨⟨h1, h2⟩, h3⟩, h4⟩, h5⟩, h6⟩ := h
  refine ⟨h1, h2, h3, fun a => ?_, fun o ho p fl hk => ?_, settled_of _ h6⟩
  · rcases spGet_cases (fun _ => TileAcc.zero) c.accs a with h | ⟨e, he, h⟩
    · rw [Core.acc, h]; rfl
    · rw [Core.acc, h]; exact h4 e he
  · have := h5 o ho
    rw [hk] at this
    exact this
/-- Every core of the state with vector operands is in canonical form. -/
theorem test_cores_wf : vec.coresWf := by
  intro k
  rcases spGet_cases (fun _ => Core.reset) vec.cores k with h | ⟨e, he, h⟩
  · rw [State.core, h]; exact wf_of _ (by decide +kernel)
  · rw [State.core, h]
    have : ∀ e ∈ vec.cores, wfB e.2 = true := by decide +kernel
    exact wf_of _ (this e he)
/-- A tile instruction of core 0 waits. -/
def waitS : State := core0 (fun k => { k with waiting := [.tzero 0x23] }) tiles

/-! Ledger tiles whose bytes are all 0. -/

theorem mem_of_chunks (n fuel : Nat) (l b : List Byte) (h : b ∈ chunks n fuel l) (x : Byte) (hx : x ∈ b) : x ∈ l := by
  induction fuel generalizing l with
  | zero => simp [chunks] at h
  | succ m ih =>
    unfold chunks at h
    split at h
    · simp at h
    · rcases List.mem_cons.mp h with h | h
      · exact List.mem_of_mem_take (h ▸ hx)
      · exact List.mem_of_mem_drop (ih _ h)
theorem leNat_zeros (l : List Byte) (h : ∀ x ∈ l, x = 0#8) : leNat l = 0 := by
  induction l with
  | nil => rfl
  | cons x l ih =>
    have hx : x = 0#8 := h x (by simp)
    have hl := ih fun y hy => h y (by simp [hy])
    simp [leNat, hl, hx]
theorem decode_zeros (l : List Byte) (h : ∀ x ∈ l, x = 0#8) (e : LEntry) (he : e ∈ decodeTile false l) : e = ⟨0#32, 0#32, 0#32, 0⟩ := by
  obtain ⟨b, hb, rfl⟩ := List.mem_map.mp he
  rw [leNat_zeros b fun y hy => h y (mem_of_chunks _ _ _ _ hb y hy)]
  decide
/-! Ill-formed commands: one for each check. -/

theorem test_wf_tile_opcode : Instr.wf (.tmma 0 (tmmaW 0x21 0)) = false ∧ Instr.wf (.tmma 0 (tmmaW 0x20 0)) = true := by decide
theorem test_wf_vector_opcode : Instr.wf (.vadd 0 (vw 2 9 3) {}) = false ∧ Instr.wf (.vadd 0 (vw 1 9 3) {}) = true := by decide
theorem test_wf_doorbell_size : Instr.wf (.doorbell .h0 0 0 0) = false ∧ Instr.wf (.doorbell .h0 0 9 0) = false ∧
    Instr.wf (.doorbell .h0 0 8 0) = true := by decide
theorem test_wf_write_size : Instr.wf (.registerWrite .h0 false 0 9 0 []) = false ∧ Instr.wf (.registerWrite .h0 false 0 4 0 []) = true := by
  decide
theorem test_wf_read_size : Instr.wf (.latchedLowRead .h0 false 0 4097) = false ∧ Instr.wf (.latchedLowRead .h0 false 0 4096) = true := by
  decide
theorem test_wf_masters : Instr.wf (.run .h0 [(.h0, .halt)]) = false ∧ Instr.wf (.pause .h1 [(.h0, .halt), (.h0, .run)]) = false ∧
    Instr.wf (.halt .h0 [(.h1, .run)]) = true := by decide
theorem test_wf_lanes : Instr.wf (.portLock 0 3 (some 0)) = false ∧ Instr.wf (.portLock 0 8 (some 0)) = true := by decide +kernel
theorem test_wf_sample : Instr.wf (.thermalSample (List.replicate 65 default) [] 0 []) = false ∧
    Instr.wf (.thermalSample [] (List.replicate 49 0) 0 []) = false ∧ Instr.wf (.thermalSample [] [] 0 (List.replicate 65 0)) = false ∧
    Instr.wf (.thermalSample [⟨0, List.replicate 9 0, 0⟩] [] 0 []) = false ∧
    Instr.wf (.thermalSample [⟨0, List.replicate 8 0, 0⟩] [] 0 []) = true := by decide +kernel
theorem test_wf_region_test : Instr.wf (.regionTest 0 { (default : RegionTestResult) with svcFailed := 5 }) = false ∧
    Instr.wf (.regionTest 0 { (default : RegionTestResult) with deadCores := [143] }) = false ∧
    Instr.wf (.regionTest 0 { (default : RegionTestResult) with badSlots := [2621440] }) = false ∧
    Instr.wf (.regionTest 0 { (default : RegionTestResult) with deadCores := [142], badSlots := [2621439] }) = true := by decide +kernel
theorem test_wf_rebuild : Instr.wf (.crateRebuild 0 0 (List.replicate 65537 0#8)) = false ∧
    Instr.wf (.crateRebuild 0 0 (List.replicate 65536 0#8)) = true := by
  have h (n : Nat) : Instr.wf (.crateRebuild 0 0 (List.replicate n 0#8)) = decide (n ≤ 65536) := by
    show decide (_ ≤ _) = _; rw [List.length_replicate]
  rw [h, h]; decide
/-! Witnesses: the machine and the host rings. -/

theorem test_front_command : ({ ctx0 with pending := [.boot, .waveStart] } : State).pending = .boot :: [.waveStart] := by decide
theorem test_canonical_memory : ctx0.memWf = true ∧ goes .boot ctx0 = true := by decide +kernel
theorem test_idle : State.reset.pending = [] := by decide

/-- The doorbell word of ring index 1, and of index 0, for ring 4 with the form R449 gives it. -/
def bell (idx : Nat) : W64 := BitVec.ofNat 64 idx
/-- Ring 4 has an entry, a FENCE or a reserved opcode. -/
def ringy (opc : Byte) : State :=
  (put [(RING_PROD 4, 1)] { ctx0 with host0 := ctx0.host0.write 0x10000 [opc] }).modRing 4 fun r => { r with bells := [(1, 0)] }
def doneD (s : State) : State :=
  s.modCtx 0 fun x => { x with taken := x.taken.map fun d => { d with started := true, result := some ⟨0, 0, 0, 3⟩ } }
def ev : Event := ⟨5, 0, 9, 0, 1, 0, 0⟩
def evs (n : Nat) : State := ctx0.modCtx 0 fun x => { x with events := [ev], windows := [⟨6, n, ev⟩] }
def noRing : State := put [(CTX_EVENT_RING 0, 6)] (evs 0)
def irq : State := put [(RING_IRQ 5, 2048 + 3)] (ctx0.modRing 5 fun r => { r with unsig := 1 })
def tear : State := put [(CTX_STATUS 0, 2)] (doneD (took 9 [(64, 6)]))
def en : State := put [(RING_CONFIG 7, 3 + (4 <<< 2)), (RING_CONFIG 8, 1 + (4 <<< 2) + (5 <<< 16))] ctx0

/-- A doorbell for ring 4 that is dropped (its RING field is 0), one that moves the producer index, one that does not, and one
for the event ring 6. -/
theorem test_wit_doorbell : ctx0.hostOpen = true ∧ ctx0.bellCause .h0 (4 * 64) 8 1#64 = some 2 ∧
    ctx0.bellCause .h0 (4 * 64) 8 0x40001#64 = none ∧ ctx0.ringKind 4 = 1 ∧ fld 0x40001#64 0 16 ≠ ctx0.prod 4 % ctx0.ringDepth 4 ∧
    ctx0.bellCause .h0 (4 * 64) 8 0x40000#64 = none ∧ fld 0x40000#64 0 16 = ctx0.prod 4 % ctx0.ringDepth 4 ∧
    ctx0.bellCause .h0 (6 * 64) 8 0x60000#64 = none ∧ ctx0.ringKind 6 ≠ 1 := by decide +kernel

/-- Every cause of R452, in its order. -/
theorem test_bell_causes : ctx0.bellCause .h0 (7 * 64) 8 0x70000#64 = some 0 ∧ ctx0.bellCause .h1 (4 * 64) 8 0x40001#64 = some 1 ∧
    ctx0.bellCause .h0 (4 * 64) 4 0x40001#64 = some 5 ∧ ctx0.bellCause .h0 (4 * 64) 8 0x40010#64 = some 3 ∧
    ctx0.bellCause .h0 (4 * 64) 8 0x40040001#64 = some 4 ∧ (ringy 7).bellCause .h0 (4 * 64) 8 0x40000#64 = some 6 ∧
    ctx0.bellCause .h0 (6 * 64) 8 0x60001#64 = some 7 := by decide +kernel

/-- A descriptor waits whose opcode is FENCE, or 0x11, which is reserved. -/
theorem test_wit_take : (ringy 7).modState = 0 ∧ (ringy 7).ready = true ∧ (ringy 7).foremanOn = true ∧ (ringy 7).nextCtx = some 0 ∧
    (ringy 7).nextRing 0 = some 4 ∧ (ringy 0x11).nextCtx = some 0 ∧ (ringy 0x11).nextRing 0 = some 4 := by decide +kernel

theorem test_take_reserved : (((after .descriptorTake (ringy 0x11)).ctx 0).taken.map fun d => (d.reserved, d.result)) =
    [(true, some ⟨3, 0, 1, 0⟩)] ∧ (((after .descriptorTake (ringy 7)).ctx 0).taken.map fun d => (d.reserved, d.result)) = [(false, none)] := by
  decide +kernel

/-- A completed descriptor of an enabled context, and the last one of a context that is being torn down. -/
theorem test_wit_completion :
    (∃ d, ((doneD (took 7 [])).ctx 0).taken = [d] ∧ d.ring = 4 ∧ d.result = some ⟨0, 0, 0, 3⟩ ∧ ((doneD (took 7 [])).ctx 0).tearDesc ≠ some d.no) ∧
    (doneD (took 7 [])).ringCtx 4 = 0 ∧ (doneD (took 7 [])).ringPair 4 = 5 ∧ (doneD (took 7 [])).foreman.takeover = none ∧
    (doneD (took 7 [])).foreman.lost = none ∧ (doneD (took 7 [])).ringFull 5 = false ∧ (doneD (took 7 [])).ringOn 5 = true ∧
    (doneD (took 7 [])).ctxState 0 ≠ 2 ∧
    (∃ d, (tear.ctx 0).taken = [d] ∧ d.ring = 4 ∧ d.result = some ⟨0, 0, 0, 3⟩ ∧ (tear.ctx 0).tearDesc ≠ some d.no) ∧ tear.ctxState 0 = 2 ∧
    tear.wipes.contains 0 = false ∧ tear.ringFull 5 = false ∧ tear.ringOn 5 = true ∧ tear.foreman.takeover = none ∧
    tear.foreman.lost = none :=
  ⟨⟨_, rfl, by decide +kernel⟩, by decide +kernel, by decide +kernel, by decide +kernel, by decide +kernel, by decide +kernel, by decide +kernel,
   by decide +kernel, ⟨_, rfl, by decide +kernel⟩, by decide +kernel, by decide +kernel, by decide +kernel, by decide +kernel,
   by decide +kernel, by decide +kernel⟩

/-- An event with room in its ring, and with no ring; a repeat window with and without repeats; an interrupt due. -/
theorem test_wit_events : ((evs 0).ctx 0).events = [ev] ∧ bitAt ((evs 0).eff (CTX_EVENT_RING 0)) 31 = true ∧
    (evs 0).effFld (CTX_EVENT_RING 0) 0 14 = 6 ∧ (evs 0).ringOn 6 = true ∧ (evs 0).ringKind 6 = 3 ∧ (evs 0).ringCtx 6 = 0 ∧
    (evs 0).ctxState 0 ≠ 0 ∧ (evs 0).ringFull 6 = false ∧ (noRing.ctx 0).events = [ev] ∧
    bitAt (noRing.eff (CTX_EVENT_RING 0)) 31 ≠ true ∧
    takeFirst (fun w : EventWin => w.last.code == 5 && w.last.d0 == 1#32) ((evs 0).ctx 0).windows = some (⟨6, 0, ev⟩, []) ∧
    takeFirst (fun w : EventWin => w.last.code == 5 && w.last.d0 == 1#32) ((evs 2).ctx 0).windows = some (⟨6, 2, ev⟩, []) ∧
    irq.ringOn 5 = true ∧ irq.ringKind 5 ≠ 1 ∧ bitAt (irq.reg (RING_IRQ 5)) 11 = true ∧ 0 < (irq.ring 5).unsig ∧
    max 1 (irq.regFld (RING_IRQ 5) 12 8) ≤ (irq.ring 5).unsig := by decide +kernel

/-- Ring 7 may be enabled as an event ring and ring 8 as a submission ring, ring 9 may not; ring 4 may drain, ring 6 be
disabled; and ring 4 has drained. -/
theorem test_wit_rings : en.hostOpen = true ∧ en.ready = true ∧ (∀ r ∈ [4, 6, 7, 8, 9], en.foreign 0 (RING_ENABLE r) = false) ∧
    en.draining 7 = false ∧ en.ringOn 7 = false ∧ en.ringKind 7 = 3 ∧ en.ringSize 7 = 4 ∧ en.ctxOn 0 = true ∧ en.ctxPort 0 = 0 ∧
    en.ringCtx 7 = 0 ∧ en.ringUse 0 < en.regFld (CTX_QUOTA_RINGS 0) 0 15 ∧
    en.draining 8 = false ∧ en.ringOn 8 = false ∧ en.ringKind 8 = 1 ∧ en.ringSize 8 = 4 ∧ en.ringCtx 8 = 0 ∧ en.ringPair 8 = 5 ∧
    en.ringOn 5 = true ∧ en.ringKind 5 = 2 ∧ en.ringCtx 5 = 0 ∧ en.ringOn 9 = false ∧ en.ringKind 9 = 0 ∧
    en.ringOn 4 = true ∧ en.ringKind 4 = 1 ∧ en.ringOn 6 = true ∧ en.ringKind 6 = 3 ∧
    (put [(RING_STATUS 4, 11)] ctx0).drained 4 = true := by decide +kernel

/-- Ring 4 drains; completion ring 5 is named by ring 4, and not when ring 4 is off. -/
def drains : State := put [(RING_STATUS 4, 11)] ctx0
def unnamed : State := ctx0.modRing 4 fun r => { r with on := false }
theorem test_wit_rings_refused : drains.draining 4 = true ∧ drains.foreign 0 (RING_ENABLE 4) = false ∧
    (ctx0.rings.any fun e => e.2.on && ctx0.ringKind e.1 == 1 && ctx0.ringPair e.1 == 5) = true ∧ ctx0.ringKind 5 = 2 ∧
    (unnamed.rings.any fun e => e.2.on && unnamed.ringKind e.1 == 1 && unnamed.ringPair e.1 == 5) = false ∧ unnamed.ringOn 5 = true ∧
    unnamed.foreign 0 (RING_ENABLE 5) = false := by decide +kernel
/-! Witnesses: descriptors. -/

/-- A query of a kind, from a first entry on, of a count. -/
def qry (kind first n : Nat) : State := took 8 [(64, kind), (128, 0x1000), (192, first), (224, n)]

theorem test_wit_fence : (took 7 []).ready? 4 0 7 = some (0, desc 7 4 0 7) := by decide +kernel
theorem test_wit_queries : ∀ e ∈ [(1, 0, 2), (2, 0, 1), (3, 0, 2), (4, 3, 2), (5, 0, 2), (6, 0, 2), (7, 0, 2)],
    (qry e.1 e.2.1 e.2.2).ready? 4 0 8 = some (0, head (qry e.1 e.2.1 e.2.2)) ∧ (head (qry e.1 e.2.1 e.2.2)).reserved = false ∧
    (head (qry e.1 e.2.1 e.2.2)).f 64 8 = e.1 := by decide +kernel

def oth : State := ctx0.modRegion 2 fun r => { r with owner := some 3 }
def drk : State := ctx0.modRegion 2 fun r => { r with dark := some .power }
def snk : State := ctx0.modCtx 0 fun x => { x with sinks := [(3, ⟨0x1000, 0x1000, true⟩)] }
def ring9 : State := put [(RING_CONFIG 9, 1 + (4 <<< 2) + (5 <<< 16)), (RING_PROD 9, 2)] 
  ((ctx0.modRing 9 fun r => { r with on := true, bells := [(2, 1)] }).modCtx 0 fun x => { x with cancels := [(7, 9, 2)] })
def noQuota (s : State) : State := put [(CTX_QUOTA_CELLAR 0, 0)] s

/-- Whether a region that the descriptor names is dark or another context's. -/
def barred (s : State) : Bool := (markedRegions ((head s).f 128 64)).any fun r =>
  s.isDark r || !((s.region r).owner == none || (s.region r).owner == some 0)

theorem test_wit_regions : ∀ e ∈ [(took 9 [(64, 1), (128, 4)], 1, false), (took 9 [(64, 1), (128, 5)] oth, 1, true),
      (took 9 [(64, 1), (128, 5)] drk, 1, true), (took 9 [(64, 2), (128, 1)] (noQuota ctx0), 2, false),
      (took 9 [(64, 2), (128, 1)], 2, false), (took 9 [(64, 2), (128, 4)] oth, 2, true)],
    e.1.ready? 4 0 9 = some (0, head e.1) ∧ (head e.1).f 64 8 = e.2.1 ∧ barred e.1 = e.2.2 := by decide +kernel

/-- The quota keeps the region of the first state's REMOVE, not the second's. -/
theorem test_wit_remove_short :
    2618880 * (((took 9 [(64, 2), (128, 1)]).ctxRegions 0).length - 1) < (took 9 [(64, 2), (128, 1)]).regFld (CTX_QUOTA_CELLAR 0) 0 28 ∧
    ¬ (2618880 * (((took 9 [(64, 2), (128, 1)] (noQuota ctx0)).ctxRegions 0).length - 1) <
      (took 9 [(64, 2), (128, 1)] (noQuota ctx0)).regFld (CTX_QUOTA_CELLAR 0) 0 28) ∧
    (noQuota ctx0).cellarHolds 0 0 = false ∧ (cellarCrate 30 ctx0).cellarHolds 0 0 = true := by decide +kernel

theorem test_wit_sinks : ∀ e ∈ [(took 9 [(64, 3), (128, 3), (192, 0x1000), (256, 0x2000)], 3, true, false),
      (took 9 [(64, 3), (128, 3), (192, 0x1001), (256, 0x2000)], 3, false, false), (took 9 [(64, 4), (128, 3)] snk, 4, true, false),
      (took 9 [(64, 4), (128, 0)] (sw snk), 4, true, true)],
    e.1.ready? 4 0 9 = some (0, head e.1) ∧ (head e.1).f 64 8 = e.2.1 ∧
    decide ((head e.1).f 192 64 % 4096 = 0 ∧ (head e.1).f 256 64 % 4096 = 0) = e.2.2.1 ∧ e.1.sinkUsed 0 ((head e.1).f 128 4) = e.2.2.2 := by
  decide +kernel

theorem test_wit_cancel : (took 9 [(64, 5), (128, 9)] ring9).ready? 4 0 9 = some (0, head (took 9 [(64, 5), (128, 9)] ring9)) ∧
    (head (took 9 [(64, 5), (128, 9)] ring9)).f 64 8 = 5 ∧ (head (took 9 [(64, 5), (128, 9)] ring9)).f 142 1 = 0 ∧
    (head (took 9 [(64, 5), (128, 9)] ring9)).f 128 14 = 9 ∧ ring9.ringOn 9 = true ∧ ring9.ringKind 9 = 1 ∧ ring9.ringCtx 9 = 0 ∧
    (((took 9 [(64, 5), (128, 9)] ring9).ctx 0).cancels.find? fun e => e.1 == 7 && e.2.1 == 9) = some (7, 9, 2) ∧
    ringDist (ring9.ringDepth 9) (ring9.cons 9) 2 ≤ ringDist (ring9.ringDepth 9) (ring9.cons 9) (ring9.prod 9) ∧
    2 < ring9.ringDepth 9 ∧ ring9.cons 9 < ring9.ringDepth 9 ∧ ring9.ringSize 9 ≤ 16 ∧
    (took 9 [(64, 5), (128, 4)] ring9).ready? 4 0 9 = some (0, head (took 9 [(64, 5), (128, 4)] ring9)) ∧
    (head (took 9 [(64, 5), (128, 4)] ring9)).f 128 14 = 4 ∧
    (took 9 [(64, 5), (128, 77)]).ready? 4 0 9 = some (0, head (took 9 [(64, 5), (128, 77)])) ∧ ctx0.regFld (RING_CONFIG 77) 0 2 = 0 ∧
    (took 9 [(64, 6)] (sw ctx0)).ready? 4 0 9 = some (0, head (took 9 [(64, 6)] (sw ctx0))) ∧ (sw ctx0).ctxState 0 = 1 ∧
    (sw ctx0).wipes.contains 0 = false := by decide +kernel

/-- A MOVE of a direction and home: host address 0x4000, tensor address and length. -/
def mv (dir h t n : Nat) (s : State) : State := took 3 [(64, dir), (66, h), (128, 0x4000), (192, t), (256, n)] s
def img : State := ctx0.modCtx 0 fun x => { x with slots := [(0, some { (default : Program) with crates := [2] })] }
def pre : State := ctx0.modCtx 0 fun x =>
  { x with step := some { (default : StepRun) with prog := { (default : Program) with entries := [{ (default : PfEntry) with crate := 1 }] } } }
def mapped : State := { ctx0.modCtx 0 fun x => { x with map := [(1, BitVec.ofNat 64 2)] } with stock := [(5, 9)] }
/-- What a MOVE meets: reserved, in an image, prefetched. -/
def meets (s : State) : Bool × Bool × Bool :=
  let d := head s
  let lo := d.f 192 48 / 65536
  let hi := (d.f 192 48 + 32 * d.f 256 32 + 65535) / 65536
  (s.moveReserved 0 d, s.imageInUse 0 lo hi, s.prefetched 0 lo hi)
def noMap : State := ctx0.modCtx 0 fun x => { x with noMap := true }
/-- Whether a MOVE's crates are all mapped to crates not retired, and whether they all read back. -/
def movable (s : State) : Bool × Bool :=
  let sps := spans ((head s).f 192 48) ((head s).f 256 32)
  (sps.all fun sp => meTier (s.entry 0 sp.1) != 0 && !s.crateRetired 0 sp.1,
   sps.all fun sp => !s.crateRetired 0 sp.1 && !s.placeBad (meplace (s.entry 0 sp.1)) (sp.2.1 / 32) (sp.2.2 / 32))
def moveCode (s : State) : Nat :=
  let d := head s
  s.moveQuota 0 (d.f 66 2) (d.f 68 6) (d.f 74 4) ((spans (d.f 192 48) (d.f 256 32)).map (·.1))

theorem test_wit_moves : ∀ e ∈ [(mv 0 2 0x10001 4 ctx0, 0, (true, false, false)), (mv 0 2 0x20000 4 img, 0, (false, true, false)),
      (mv 0 2 0x10000 4 pre, 0, (false, false, true)), (mv 0 2 0x10000 4 ctx0, 0, (false, false, false)),
      (mv 0 2 0x10000 4 (put [(CTX_QUOTA_STOCK 0, 0)] ctx0), 0, (false, false, false)),
      (mv 2 0 0x10001 2048 ctx0, 2, (true, false, false)), (mv 2 0 0x20000 2048 img, 2, (false, true, false)),
      (mv 2 0 0x10000 2048 pre, 2, (false, false, true)), (mv 2 0 0x10000 2048 mapped, 2, (false, false, false)),
      (mv 1 0 0x10000 4 mapped, 1, (false, false, false)), (mv 1 0 0x10000 4 ctx0, 1, (false, false, false))],
    e.1.ready? 4 0 3 = some (0, head e.1) ∧ (head e.1).f 64 2 = e.2.1 ∧ meets e.1 = e.2.2 ∧ e.1.ctxState 0 ≠ 0 := by decide +kernel

theorem test_wit_move_quota : moveCode (mv 0 2 0x10000 4 ctx0) = 0 ∧ moveCode (mv 0 2 0x10000 4 (put [(CTX_QUOTA_STOCK 0, 0)] ctx0)) ≠ 0 := by
  decide +kernel

/-- A MOVE of one crate that is mapped, of one that is not, without the crate map, and one that a tier ends. -/
theorem test_wit_move_ends : movable (mv 0 2 0x10000 4 mapped) = (true, true) ∧ movable (mv 0 2 0x10000 4 ctx0) = (false, true) ∧
    spans 0x10000 4 = [(1, 0, 128)] ∧ meTier (ctx0.entry 0 1) = 0 ∧ ctx0.crateRetired 0 1 = false ∧ ctx0.stockRoom 0 ≠ 0 ∧
    meTier (mapped.entry 0 1) = 2 ∧ mapped.crateRetired 0 1 = false ∧ meets (mv 0 2 0x10000 4 mapped) = (false, false, false) ∧
    meets (mv 0 2 0x10000 4 noMap) = (false, false, false) ∧ meets (mv 2 0 0x10000 2048 noMap) = (false, false, false) ∧
    (noMap.ctx 0).noMap = true ∧ (mv 2 0 0x10000 2048 noMap).ready? 4 0 3 = some (0, head (mv 2 0 0x10000 2048 noMap)) ∧
    (ctx0.ctx 0).noMap = false ∧ meets (mv 1 0 0x10001 4 ctx0) = (true, false, false) := by decide +kernel
theorem test_wit_move_free : ctx0.freeStock ≠ none := by decide +kernel
/-! Witnesses: steps, programs, swatches, ledgers, the module's state and contexts. -/

def lowStock : State := put [(CTX_QUOTA_STOCK 0, 3)] jobs
def running : State := after (.step 4 0) (took 1 stepD jobs)
theorem test_wit_step : ∀ e ∈ [(took 1 stepD jobs, false, true), (took 1 stepD lowStock, false, false),
      (took 1 stepD (put [(HEALTH_FOREMAN, 0x40)] jobs), true, true)],
    e.1.ready? 4 0 1 = some (0, head e.1) ∧ e.1.regBit HEALTH_FOREMAN 6 = e.2.1 ∧ (e.2.1 = true ∨ (e.1.stepRefusal 0 (head e.1) = none ↔ e.2.2 = true)) := by
  decide +kernel

theorem test_step_phase : running.phase 0 = 1 ∧ (running.ctx 0).step.isSome = true := by decide +kernel

theorem test_wit_step_quota : ∃ p, spGet (fun _ => none) ((took 1 stepD lowStock).ctx 0).slots 0 = some p ∧ (head (took 1 stepD lowStock)).f 64 2 = 0 ∧
    lowStock.regFld (CTX_QUOTA_STOCK 0) 0 28 < p.stock := by
  have h : ((spGet (fun _ => none) ((took 1 stepD lowStock).ctx 0).slots 0).map fun p =>
      decide ((head (took 1 stepD lowStock)).f 64 2 = 0 ∧ lowStock.regFld (CTX_QUOTA_STOCK 0) 0 28 < p.stock)) = some true := by decide +kernel
  obtain ⟨p, hp, hd⟩ := Option.map_eq_some_iff.mp h
  exact ⟨p, hp, of_decide_eq_true hd⟩

theorem test_wit_second_swatch : (took 5 [] (sw ctx0)).ready? 4 0 5 = some (0, head (took 5 [] (sw ctx0))) ∧
    (((took 5 [] (sw ctx0)).ctx 0).swatch.map fun w => w.phase) = some 2 := by decide +kernel

/-- The header of the image, with its checksum, and its part records. -/
def hdrRaw : Nat := imageHdr + (796040251 <<< 480)
theorem hdr_crc : crc32 60 hdrRaw = 796040251 := by
  have h : leBytes 60 hdrRaw = leBytes 30 hdrRaw ++ leBytes 30 (hdrRaw >>> 240) := by decide +kernel
  have h1 : crcLsb 32 0xEDB88320#32 0xFFFFFFFF#32 (leBytes 30 hdrRaw) = 2539805413#32 := by decide +kernel
  unfold crc32; unfold crcLsb at *
  rw [h, List.foldl_append, h1]
  decide +kernel
def parts : List PartRec := [⟨1, 8, 4, 2, false⟩, ⟨2, 8, 8, 1, false⟩, ⟨4, 8, 10, 1, false⟩]
theorem hdr_ok : imageHdrOk hdrRaw parts = true := by unfold imageHdrOk; rw [hdr_crc]; decide +kernel
theorem image_read (s : State) (h1 : s.tensorNat 0 (8 * 65536) 64 = hdrRaw)
    (h2 : (s.recs 0 (8 * 65536 + 64) (nfld hdrRaw 40 8) 16).map partRec = parts)
    (h3 : ((s.imageOf 0 8 hdrRaw parts ⟨1, 8, 4, 2, false⟩ ⟨2, 8, 8, 1, false⟩ ⟨4, 8, 10, 1, false⟩).filter fun p =>
      p.reloc || p.groups.all fun g => g.regions &&& (2 ^ 64 - 1 - maskOf (s.ctxRegions 0)) == 0).isSome = true) :
    (s.imageFor 0 8).isSome = true := by
  rw [State.imageFor, State.readImage]
  simp only [h1, h2, hdr_ok, if_true]
  exact h3

/-- SCHED of an image, with no step and within one, and of crates that hold none. -/
def schedS : State := took 2 [(96, 8)] job
def schedIn : State := stepping (oneVar default) schedS
theorem test_image_read : (schedS.imageFor 0 8).isSome = true ∧ (schedIn.imageFor 0 8).isSome = true :=
  ⟨image_read _ (by decide +kernel) (by decide +kernel) (by decide +kernel), image_read _ (by decide +kernel) (by decide +kernel) (by decide +kernel)⟩
theorem test_wit_sched : schedS.ready? 4 0 2 = some (0, head schedS) ∧ (head schedS).f 96 32 = 8 ∧ schedS.inStep 0 = false ∧
    (schedS.ctx 0).sched.length = 0 ∧ schedIn.ready? 4 0 2 = some (0, head schedIn) ∧ (head schedIn).f 96 32 = 8 ∧ schedIn.inStep 0 = true ∧
    (took 2 [(96, 9)] job).ready? 4 0 2 = some (0, head (took 2 [(96, 9)] job)) ∧ ((took 2 [(96, 9)] job).imageFor 0 9).isSome = false := by
  decide +kernel

/-- A swatch plan: one entry of everything. -/
def plan0 : Nat := 1 + (0xFFFFFFFF <<< 32) + (1 <<< 96)
def planS (s : State) : Bool := s.planRefused 0 (BitVec.ofNat 512 (s.tensorNat 0 ((head s).f 128 48) 64))
theorem test_wit_swatch : ∀ e ∈ [(took 5 [(128, 24 * 65536)] (crate 24 (leBytes 64 plan0) job), false), (took 5 [(128, 20 * 65536)] job, true)],
    e.1.ready? 4 0 5 = some (0, head e.1) ∧ (e.1.ctx 0).swatch = none ∧ planS e.1 = e.2 := by decide +kernel

theorem test_wit_secure : ∀ e ∈ [(took 6 [] job, 0), (took 6 [] (put [(HEALTH_SEC_CONTROL 0, 1 <<< 16)] job), 1)],
    e.1.ready? 4 0 6 = some (0, head e.1) ∧ e.1.effFld (HEALTH_SEC_CONTROL 0) 16 2 = e.2 := by decide +kernel

/-- A ledger image of no tiles, and one that is none. -/
def ledger0 : State := put [(STREAM_LEDGER_TILES 0, 0)] (crate 24 (leBytes 32 (sealRec (1 + (4 <<< 32)))) job)
def initM (s : State) : LedgerImage := readImageFrom (s.initSource 0 (head s) .refuses)
theorem test_wit_ledger_init : ∀ e ∈ [(took 4 [(128, 24 * 65536)] ledger0, false), (took 4 [(64, 0), (128, 0x8000)] job, true)],
    e.1.ready? 4 0 4 = some (0, head e.1) ∧ e.1.imageBad 0 (initM e.1) = e.2 ∧ (e.1.ctx 0).swatch.isNone = true ∧
    (e.1.ctx 0).noMap = false ∧
    (e.2 = true ∨ ((initM e.1).dirs.length = 0 ∧ e.1.moveQuota 0 2 0 0 (e.1.initCrates 0 (initM e.1)) = 0)) := by decide +kernel

/-- A ledger image in host memory of one tile, whose narrow tensor lies in crate `n`; the tile's bytes are all 0. -/
def hdr1 : Nat := sealRec (1 + (4 <<< 32) + (1 <<< 64))
def dir1 (n : Nat) : Nat := sealRec ((22 <<< 16) + (n <<< 96))
def tileHead : List Byte := leBytes 32 (sealRec (0x30 + (1 <<< 16) + (1 <<< 32) + (1 <<< 48) + (133 <<< 80) + (1 <<< 96)))
def hostImage (n : Nat) (s : State) : State := took 4 [(64, 1), (128, 0x8000)]
  { crate 25 tileHead s with host0 := s.host0.write 0x8000 (leBytes 32 hdr1 ++ leBytes 32 (dir1 n)) }
def noRoom : State := put [(CTX_QUOTA_STOCK 0, 0), (CTX_QUOTA_CELLAR 0, 0)]
  ((hostImage 25 job).modCtx 0 fun x => { x with map := x.map.filter fun e => e.1 != 21 })
/-- The image of one tile of zeros is not bad, and what it holds. -/
theorem one_tile (s : State) (n : Nat) (h1 : leNat (s.initSource 0 (head s) .refuses 0 32) = hdr1)
    (h2 : (chunks 32 1 (s.initSource 0 (head s) .refuses 32 32)).map leNat = [dir1 n])
    (h3 : siGood hdr1 = true ∧ siNTILES hdr1 = 1 ∧ siNSCALE hdr1 = 0 ∧ siTAG hdr1 = 0 ∧ (dirRec (dir1 n)).wide = false)
    (h4 : (head s).f 64 2 = 1) (h5 : siGMODE hdr1 = s.gmode 0 ∧ s.tiles 0 = 1)
    (h6 : ∀ i, i < 32768 → (if s.ctxPort 0 = 0 then s.host0 else s.host1).byte (((head s).f 128 64 + 64) % 2 ^ 64 + i) = 0#8) :
    (initM s).dirs = [dir1 n] ∧ s.imageBad 0 (initM s) = false := by
  obtain ⟨g1, g2, g3, g4, g5⟩ := h3
  have hm : initM s = ⟨hdr1, [dir1 n], [s.initSource 0 (head s) .refuses 64 32768], []⟩ := by
    simp only [initM, readImageFrom, h1, g1, g2, g3, Nat.mul_one, h2, Bool.not_true, Bool.false_eq_true, if_false, readTiles, tileSize, g5]
    rfl
  rw [hm]
  refine ⟨rfl, ?_⟩
  have hz : ∀ e ∈ decodeTile false (s.initSource 0 (head s) .refuses 64 32768), e.tag = 0 := by
    refine fun e he => (decode_zeros _ (fun x hx => ?_) e he) ▸ rfl
    simp only [State.initSource, h4, State.hostRead, Mem.read, List.mem_map, List.mem_range] at hx
    obtain ⟨i, hi, rfl⟩ := hx
    exact h6 i hi
  have ha : (decodeTile false (s.initSource 0 (head s) .refuses 64 32768)).any (fun e => e.tag != 0) = false := by
    rw [List.any_eq_false]; intro e he; simp [hz e he]
  simp only [State.imageBad, g1, g2, g4, h5, g5, List.zipWith_cons_cons, List.zipWith_nil_left, ha]
  simp
theorem byte_above (m : Mem) (a : Nat) (h : m.all (fun e => decide (e.1 < a)) = true) (i : Nat) : m.byte (a + i) = 0#8 := by
  induction m with
  | nil => rfl
  | cons e m ih =>
    simp only [List.all_cons, Bool.and_eq_true, decide_eq_true_eq] at h
    obtain ⟨x, v⟩ := e
    have h' : x < a := h.1
    simp only [Mem.byte, spGet] at ih ⊢
    rw [if_neg (by omega)]
    exact ih h.2
/-- Sound, with a tensor header that does not hold, and with no quota for its crates. -/
theorem test_ledger_image : ((initM (hostImage 25 job)).dirs = [dir1 25] ∧ (hostImage 25 job).imageBad 0 (initM (hostImage 25 job)) = false) ∧
    ((initM (hostImage 26 job)).dirs = [dir1 26] ∧ (hostImage 26 job).imageBad 0 (initM (hostImage 26 job)) = false) ∧
    ((initM noRoom).dirs = [dir1 25] ∧ noRoom.imageBad 0 (initM noRoom) = false) := by
  refine ⟨one_tile _ _ ?_ ?_ ?_ ?_ ?_ ?_, one_tile _ _ ?_ ?_ ?_ ?_ ?_ ?_, one_tile _ _ ?_ ?_ ?_ ?_ ?_ ?_⟩
  all_goals first | (intro i _; exact byte_above _ _ (by decide +kernel) i) | decide +kernel
theorem test_ledger_checks : ∀ e ∈ [(hostImage 25 job, 25, true), (hostImage 26 job, 26, false), (noRoom, 25, true)],
    e.1.ready? 4 0 4 = some (0, head e.1) ∧ (e.1.ctx 0).noMap = false ∧
    ((dirRec (dir1 e.2.1)).good && e.1.tensorGood 0 (dirRec (dir1 e.2.1)).ntensor) = e.2.2 := by decide +kernel
theorem test_ledger_quota : ∀ e ∈ [(hostImage 25 job, true), (noRoom, false)],
    (e.1.moveQuota 0 2 0 0 (e.1.initCrates 0 ⟨hdr1, [dir1 25], [], []⟩) == 0) = e.2 := by decide +kernel

def offd : State := { base with boot := { base.boot with off := true } }
/-- The steward has switched the module off; off, with the converter running. -/
def forced : State := { base with power := { base.power with offForce := true } }
def offForced : State := { offd with power := { base.power with offForce := true } }
/-- The host ports are shut. -/
def shut : State := put [(MOD_LIFECYCLE, 4)] base
def inReset : State := { base with boot := { base.boot with inReset := true } }
theorem test_wit_control : base.hostOpen = true ∧ base.boot.busy = false ∧ base.power.offForce = false ∧ base.boot.inReset = false ∧
    base.boot.off = false ∧ base.bringingUp = false ∧ inReset.hostOpen = true ∧ inReset.power.offForce = false ∧ inReset.boot.inReset = true ∧
    running.hostOpen = true ∧ running.ctxState 0 ≠ 0 ∧ 1 ≤ running.phase 0 ∧ (running.ctx 0).step.isSome = true ∧
    running.boot.inReset = false ∧ running.power.offForce = false := by decide +kernel

theorem test_wit_contexts : ctx0.hostOpen = true ∧ ctx0.ready = true ∧ ctx0.ctxState 1 = 0 ∧ ctx0.mayEnable = true ∧
    ctx0.suLocked (CTX_CONTROL 1) = false ∧ (put [(MOD_LIFECYCLE, 0)] base).mayEnable = false ∧
    (put [(MOD_LIFECYCLE, 0)] base).hostOpen = true ∧ (put [(MOD_LIFECYCLE, 0)] base).ready = true ∧
    (put [(MOD_LIFECYCLE, 0)] base).ctxState 1 = 0 ∧ ctx0.ctxState 0 = 1 ∧ ctx0.ctxPort 0 = portNo .h0 ∧
    ctx0.regFld POWER_STATUS 0 3 = 3 := by decide +kernel

/-! Witnesses: registers. -/

/-- What a register is, and what a write of H0 to it meets: SU-locked, AP-active, no act of the write, admitted. -/
def regIs (s : State) (a : Nat) (acc : Access) (cls : RegClass) (ap : Bool) : Bool := match regRow a with
  | some r => r.acc == acc && r.cls == cls && (cls != .su || !s.suLocked a) && s.apActive a == ap && (s.actWrite .h0 a 1#32).isNone && s.admits .h0 a
  | none => false
/-- RW registers that no class locks, in an idle block, and staged in an active one; W1C, RO and locked ones. -/
theorem test_wit_writes : regIs ctx0 POWER_CAP .rw .lv false = true ∧ regIs ctx0 (RING_CONFIG 9) .rw .su false = true ∧
    regIs ctx0 (CTX_EVENT_RING 1) .rw .ap false = true ∧
    regIs (stepping (oneVar default)) (CTX_EVENT_RING 0) .rw .ap true = true ∧
    regIs ctx0 MOD_HOST_FLAGS .w1c .lv false = true ∧ (regRow MOD_STATUS).map (·.acc) = some .ro ∧ ctx0.admits .h0 MOD_STATUS = true ∧
    (regRow (RING_CONFIG 4)).map (·.cls) = some .su ∧ ctx0.suLocked (RING_CONFIG 4) = true ∧ ctx0.contexts ≠ [] ∧
    ctx0.admits .h0 (RING_CONFIG 4) = true := by decide +kernel

def latched : State := { base with latches := [(0, some (MOD_EPOCH_HI, 3#32))] }
def taken : State := { put [(PERF_STATUS, 2)] base with snap := { base.snap with asked := false, epoch := 5 } }
theorem test_wit_reads : base.hostOpen = true ∧ base.ready = true ∧ base.foreign 0 POWER_CAP = false ∧ base.foreign 0 MOD_EPOCH_LO = false ∧
    base.foreign 0 MOD_EPOCH_HI = false ∧ base.foreign 0 0x3FFFF00 = false ∧
    (regRow POWER_CAP).map (·.acc) = some .rw ∧ base.admits .h0 POWER_CAP = true ∧ POWER_CAP ≠ CARAVAN_ROUTE_DATA ∧
    spGet (fun _ => none) base.latches 0 = none ∧ 0x3FFFF00 % 4 = 0 ∧ regRow 0x3FFFF00 = none ∧
    spGet (fun _ => none) latched.latches 0 = some (MOD_EPOCH_HI, 3#32) ∧ latched.hostOpen = true ∧ latched.ready = true ∧
    (BitVec.ofNat 26 POWER_CAP).toNat = POWER_CAP ∧ (BitVec.ofNat 26 0x3FFFF00).toNat = 0x3FFFF00 := by decide +kernel

theorem test_wit_performance : base.admits .h0 PERF_CONTROL = true ∧ base.regBit PERF_STATUS 1 = false ∧ taken.regBit PERF_STATUS 1 = true ∧
    taken.snap.asked = false := by decide +kernel

theorem test_wit_control_off : shut.hostOpen = false ∧ shut.boot.busy = false ∧ forced.hostOpen = true ∧ forced.power.offForce = true ∧
    forced.boot.inReset = false ∧ offForced.hostOpen = true ∧ offForced.boot.off = true ∧ offForced.regFld POWER_STATUS 0 3 = 3 ∧
    offForced.bringup ≠ 5 ∧ (offForced.power.oscA = true ∨ offForced.power.oscB = true) ∧ offd.hostOpen = true ∧ offd.boot.off = true ∧
    offd.boot.inReset = false ∧ offd.power.offForce = false ∧ (put [(POWER_STATUS, 0)] base).regFld POWER_STATUS 0 3 ≠ 3 := by decide +kernel
/-! Witnesses: cores. -/

theorem test_cores_step : goes (.vadd 0 (vw 1 9 3) {}) vec = true := by decide +kernel

/-- Core 0 with an accumulator and operations that wait. -/
def ops (l : List TileOp) : State := core0 (fun k => { k with ops := l, accs := [(0, ⟨true, 0, 2, [(0, 7), (1, 9)]⟩)] }) tiles
/-- What a TMMA or TMMAZ of core 0 meets: its operands are readable, fit and are whole. -/
def multiplies (s : State) (w : BitVec 128) (zeroing : Bool) : Bool :=
  let c := s.core (s.phys 0)
  let i := TileInstr.ofWord w
  match i.pair with
  | some (_, _, cls) => i.resv && (zeroing || classAfter i.acc (c.acc i.acc).isInt c.ops == cls) && operandOk c.bench i.aa i.fa i.sa &&
      operandOk c.bench i.ba i.fb i.sb && operandFits c.bench i.aa && operandFits c.bench i.ba
  | none => false
/-- The core's fault is lasting, or a granule of an operand is poisoned. -/
def doubtsTile (s : State) (w : BitVec 128) : Bool :=
  let c := s.core (s.phys 0)
  let i := TileInstr.ofWord w
  c.lasting || c.poisoned i.aa (TileHdr.ofNat (c.bench.readNat (i.aa * 32) 32)).total ||
    c.poisoned i.ba (TileHdr.ofNat (c.bench.readNat (i.ba * 32) 32)).total
def drainOp : TileOp := { kind := .drain 100 true true, acc := 0 }
def retryOp (z : Bool) : TileOp := mmaOp 0 z .retry true
def lastingS : State := core0 (fun k => { k with lasting := true }) tiles
def poisonS (s : State) : State := core0 (fun k => { k with poison := [8] }) s
/-- The first operand's bitmap has an element too many. -/
def malformed : State := core0 (fun k => { k with bench := (Mem.write (Mem.write [] 0 (tileBytes 3)) 0 [5, 0, 9]).write 256 (tileBytes 5) })
/-- TDRAIN of accumulator 0 to granule 64 with CLR; TZERO of accumulator 1. -/
def drainW : BitVec 128 := BitVec.ofNat 128 (0x22 + (1 <<< 25) + (64 <<< 64))
def zeroW1 : BitVec 128 := BitVec.ofNat 128 (0x23 + (1 <<< 22))
theorem test_wit_tiles_wf : (∀ s ∈ [ops [], ops [mmaOp 0 false], ops [retryOp false], ops [retryOp true], ops [mmaOp 0 false, drainOp],
    ops [mmaOp 0 false, mmaOp 2 false], ops [retryOp false, mmaOp 2 false], lastingS, malformed],
    wfB (s.core (s.phys 0)) = true ∧ (s.core (s.phys 0)).waiting = []) ∧ (waitS.core (waitS.phys 0)).waiting ≠ [] := by decide +kernel
theorem test_wit_tiles : multiplies (ops []) (tmmaW 0x20 0) false = true ∧ multiplies tiles (tmmaW 0x21 1) true = true ∧
    doubtsTile (ops []) (tmmaW 0x20 0) = false ∧ doubtsTile lastingS (tmmaW 0x20 0) = true ∧ doubtsTile (poisonS tiles) (tmmaW 0x20 0) = true ∧
    fld (tmmaW 0x20 0) 0 8 = 0x20 ∧ fld (tmmaW 0x21 1) 0 8 = 0x21 ∧
    fld drainW 0 8 = 0x22 ∧ (TileInstr.ofWord drainW).resv = true ∧ (TileInstr.ofWord drainW).da + 513 ≤ 65536 ∧
    (TileInstr.ofWord drainW).acc = 0 ∧ fld zeroW1 0 8 = 0x23 ∧ (TileInstr.ofWord zeroW1).resv = true := by decide +kernel
/-- Reserved bits, no pair of formats, a TDRAIN past the end of the bench, another opcode, and a malformed tile. -/
theorem test_wit_tiles_illegal : (TileInstr.ofWord (BitVec.ofNat 128 (0x20 + (1 <<< 27)))).resv = false ∧
    (TileInstr.ofWord (BitVec.ofNat 128 (0x21 + (7 <<< 8) + (5 <<< 12)))).pair = none ∧
    65536 < (TileInstr.ofWord (BitVec.ofNat 128 (0x22 + (65024 <<< 64)))).da + 513 ∧
    (TileInstr.ofWord (BitVec.ofNat 128 (0x22 + (65023 <<< 64)))).da + 513 = 65536 ∧
    (TileInstr.ofWord (BitVec.ofNat 128 (0x23 + (1 <<< 27)))).resv = false ∧ fld (BitVec.ofNat 128 0x1F) 0 8 < 0x20 ∧
    0x23 < fld (BitVec.ofNat 128 0x24) 0 8 ∧ (TileInstr.ofWord (tmmaW 0x20 0)).resv = true ∧
    operandOk (malformed.core 0).bench (TileInstr.ofWord (tmmaW 0x20 0)).aa (TileInstr.ofWord (tmmaW 0x20 0)).fa
      (TileInstr.ofWord (tmmaW 0x20 0)).sa = false ∧ multiplies malformed (tmmaW 0x20 0) false = false := by decide +kernel
/-- An operation at its check, alone, behind a retry and before a TDRAIN, and at its retry, accumulating or zeroing. -/
theorem test_wit_checks :
    nextCheck ((ops [mmaOp 0 false]).core 0).ops = some ([], mmaOp 0 false, []) ∧
    nextCheck ((ops [mmaOp 0 true]).core 0).ops = some ([], mmaOp 0 true, []) ∧
    nextCheck ((ops [retryOp false, mmaOp 2 false]).core 0).ops = some ([retryOp false], mmaOp 2 false, []) ∧
    nextRetry ((ops [retryOp false]).core 0).ops = some ([], retryOp false, []) ∧
    nextRetry ((ops [retryOp true]).core 0).ops = some ([], retryOp true, []) ∧
    ((ops [mmaOp 0 false, drainOp]).core 0).ops = [mmaOp 0 false, drainOp] ∧
    (((ops []).core 0).acc 0).isInt = true ∧ settled ([] : List TileOp) :=
  ⟨by decide +kernel, by decide +kernel, by decide +kernel, by decide +kernel, by decide +kernel, by decide +kernel, by decide +kernel,
   settled_of _ rfl⟩
/-- What the checks of a run find: nothing, and a sum, an operand's word or an expander; the poisoned operand is read again. -/
theorem test_wit_mismatch : tileMismatch true (operand 3) (operand 5) {} = false ∧
    tileMismatch true (operand 3) (operand 5) { sums := true } = true ∧
    tileMismatch true (operand 3) (operand 5) { operand := [false] } = true ∧
    tileMismatch true (operand 3) (operand 5) { expander := [true] } = true ∧
    doubtsTile (poisonS (ops [mmaOp 0 false])) (tmmaW 0x20 0) = true := by decide +kernel
/-! Witnesses: vector instructions. -/

/-- A legal instruction of an opcode, COUNT at most 8,192, on core 0 of `vec`, which is in canonical form. -/
def runs (opc : Nat) (w : W64) : Bool := (VInstr.ofWord w).opc == opc && (VInstr.ofWord w).legal && decide ((VInstr.ofWord w).count ≤ 8192)
theorem runs_vec (opc : Nat) (w : W64) (h : runs opc w = true) (met : LaneMet) : vec.runsVec 0 w opc met := by
  simp only [runs, Bool.and_eq_true, beq_iff_eq, decide_eq_true_eq] at h
  have h0 : (vec.core (vec.phys (0 : Fin 7680))).ops = [] ∧ (vec.core (vec.phys (0 : Fin 7680))).waiting = [] := by decide +kernel
  exact ⟨test_cores_wf _, h.1.1, h.1.2, h.2, h0.2, fun _ _ o ho => by rw [h0.1] at ho; exact absurd ho (by simp)⟩
/-- Every statement of a vector instruction has its premise met with any operand of what the instruction meets. -/
theorem test_runs_any : vec.runsVec 0 (vw 1 9 3) 1 { faults := [⟨1, false⟩, ⟨2, true⟩], corr := 3, wait := 5, lost := [0] } :=
  runs_vec _ _ (by decide +kernel) _
def masked : Nat := (1 <<< 31) + (1 <<< 32)
/-- A word with an AUX field and VC 2. -/
def ax (o f n aux : Nat) (more : Nat := 0) : W64 := vw o f n ((aux <<< 49) + more) 2
def intOps : List Nat := [0x0A, 0x0B, 0x0C, 0x0D, 0x63]
def fmtOf (o : Nat) : Nat := if intOps.contains o then 0xB else 9

/-- Each elementwise, mask, scalar, memory and permutation instruction, with COUNT 3, 0 and 8,192 under MASKEN and ZERO. -/
theorem test_wit_vector : ∀ o ∈ [1, 2, 3, 4, 5, 6, 7, 8, 9, 0xA, 0xB, 0xC, 0xD, 0x10, 0x11, 0x12, 0x13, 0x19, 0x3B, 0x18, 0x1A, 0, 0x61, 0x62, 0x22,
      0x30, 0x32, 0x35, 0x37, 0x63, 0x31, 0x33, 0x36, 0x3C, 0x34, 0x38, 0x39, 0x3A],
    runs o (vw o (fmtOf o) 3) = true ∧ runs o (vw o (fmtOf o) 0) = true ∧ runs o (vw o (fmtOf o) 8192 masked) = true := by decide +kernel

/-- An illegal VADD (a format of no vector instruction), a word of no vector opcode, and a VADD of 8,193 elements. -/
theorem test_wit_vector_faults : (VInstr.ofWord (vw 1 5 3)).opc = 1 ∧ (VInstr.ofWord (vw 1 5 3)).legal = false ∧
    vOpcodes.contains (VInstr.ofWord (vw 0x7F 9 3)).opc = false ∧ (VInstr.ofWord (vw 1 9 8193)).legal = true ∧
    8192 < (VInstr.ofWord (vw 1 9 8193)).count ∧ runs 1 (vw 1 9 3) = true := by decide +kernel

/-- Another instruction waits; a TDRAIN is still to write the bench that a VLD loads. -/
def behindDrain (s : State) : State := core0 (fun k => { k with ops := [{ kind := .drain 0 true true, acc := 0 }] }) s
def loads0 (c : Core) (w : W64) : List (Nat × Nat) := (VInstr.ofWord w).loads c
theorem test_wit_vector_waits : (waitS.core (waitS.phys 0)).waiting ≠ [] ∧
    ((behindDrain vec).core ((behindDrain vec).phys 0)).ops = [{ kind := .drain 0 true true, acc := 0 }] ∧
    loads0 ((behindDrain vec).vecCore 0 {}) (vw 0x30 9 300) ≠ [] ∧
    (loads0 ((behindDrain vec).vecCore 0 {}) (vw 0x30 9 300)).all (fun e => decide (e.1 < 513)) = true ∧
    (vec.core (vec.phys 0)).waiting = [] ∧ (vec.core (vec.phys 0)).ops = [] ∧
    (VInstr.ofWord (vw 0x61 9 9000)).legal = true ∧ (VInstr.ofWord (vw 0x61 9 9000)).countless = true := by decide +kernel

/-- Conversions to FP8, to S16 and with stochastic rounding, plain and scaled. -/
theorem test_wit_conversions : ∀ o ∈ [0x20, 0x21], runs o (ax o 9 3 1) = true ∧ runs o (ax o 9 3 0xE) = true ∧
    runs o (ax o 9 3 1 (1 <<< 34)) = true := by decide +kernel

/-- Some element below COUNT is active. -/
def some1 (w : W64) : Bool := (List.range (VInstr.ofWord w).count).any fun e => (VInstr.ofWord w).activeAt (vec.core 0) e
theorem test_wit_reductions : runs 0x40 (ax 0x40 9 3 0) = true ∧ (VInstr.ofWord (ax 0x40 9 3 0)).aux / 16 % 4 = 0 ∧
    runs 0x40 (ax 0x40 0xB 3 2) = true ∧ (VInstr.ofWord (ax 0x40 0xB 3 2)).aux = 2 ∧ (VInstr.ofWord (ax 0x40 0xB 3 2)).fmt = 0xB ∧
    some1 (ax 0x40 0xB 3 2) = true ∧ runs 0x40 (ax 0x40 9 70 0x10) = true ∧ (VInstr.ofWord (ax 0x40 9 70 0x10)).aux / 16 % 4 = 1 ∧
    runs 0x40 (ax 0x40 9 70 0x20 masked) = true ∧ (VInstr.ofWord (ax 0x40 9 70 0x20 masked)).aux / 16 % 4 = 2 ∧
    runs 0x41 (ax 0x41 9 70 8 masked) = true ∧ some1 (ax 0x41 9 70 8 masked) = true := by decide +kernel
/-- VNORM, VSOFTMAX, VLOSS with its target at COUNT - 1 and at COUNT, VRESADD. -/
theorem test_wit_rows : runs 0x50 (ax 0x50 9 3 0x11) = true ∧ some1 (ax 0x50 9 3 0x11) = true ∧ runs 0x51 (ax 0x51 9 3 0x10) = true ∧
    some1 (ax 0x51 9 3 0x10) = true ∧ runs 0x52 (ax 0x52 9 3 0x11) = true ∧ some1 (ax 0x52 9 3 0x11) = true ∧
    ((vec.core 0).sreg ((VInstr.ofWord (ax 0x52 9 3 0x11)).aux / 16 % 8)).toNat = 2 ∧ (VInstr.ofWord (ax 0x52 9 3 0x11)).activeAt (vec.core 0) 2 = true ∧
    runs 0x52 (ax 0x52 9 3 0x31) = true ∧ ((vec.core 0).sreg ((VInstr.ofWord (ax 0x52 9 3 0x31)).aux / 16 % 8)).toNat = 3 ∧
    runs 0x53 (ax 0x53 9 3 0) = true ∧ (VInstr.ofWord (ax 0x53 9 3 0)).vd ≠ (VInstr.ofWord (ax 0x53 9 3 0)).vc := by decide +kernel
/-- No element below COUNT is active. -/
theorem test_wit_empty : ∀ o ∈ [0x41, 0x50, 0x51, 0x52, 0x53], runs o (ax o 9 1 0 (1 <<< 31)) = true ∧ some1 (ax o 9 1 0 (1 <<< 31)) = false := by
  decide +kernel
/-- The greatest element of VSOFTMAX is a number, and minus infinity. -/
def lows : State := core0 (fun k => { k with overdue := [5], vregs := [(0, 0xFF800000#32), (1, 0xFF800000#32), (2, 0xFF800000#32)] }) vec
def softMax (s : State) (w : W64) : W32 :=
  let i := VInstr.ofWord w
  (rowRed 2 ((List.range i.count).map fun e => if i.activeAt (s.core 0) e then
    some (mulF32 (widen 0x9 ((s.core 0).velem i.va e)) ((s.core 0).sreg (i.aux / 16 % 8))).1 else none)).1
theorem test_wit_softmax : softMax vec (ax 0x51 9 3 0x10) ≠ negInf ∧ softMax lows (ax 0x51 9 3 0x10) = negInf ∧ wfB (lows.core 0) = true := by
  decide +kernel
/-- A lane program, with an element the last active one of its lane; and an element that is overdue. -/
theorem test_wit_lane_programs : runs 0x60 (ax 0x60 9 70 0) = true ∧ (VInstr.ofWord (ax 0x60 9 70 0)).activeAt (vec.core 0) 69 = true ∧
    5 ∈ (lows.core (lows.phys 0)).overdue := by decide +kernel

/-- The lane program starts at the store's last word, and beyond the store: where it ends, every word beyond reads as STOP. -/
def lastWord : State := core0 (fun k => { k with sregs := [(0, 4095)] }) vec
def beyond : State := core0 (fun k => { k with sregs := [(0, 4096)] }) vec
theorem test_wit_lane_program_ends : ((lastWord.vecCore 0 {}).sreg (VInstr.ofWord (ax 0x60 9 70 0)).va).toNat + 1 = 4096 ∧
    ((beyond.vecCore 0 {}).sreg (VInstr.ofWord (ax 0x60 9 70 0)).va).toNat = 4096 ∧ wfB (lastWord.core 0) = true ∧ wfB (beyond.core 0) = true ∧
    (lastWord.core 0).waiting = [] ∧ (lastWord.core 0).ops = [] := by decide +kernel

/-- A dense tile's header, a bench that holds it, and the encoder's commands. -/
def denseTile (nblk total blocks : Nat) : List Byte := leBytes 32 (5 + (1 <<< 4) + (nblk <<< 16) + (total <<< 40) + (blocks <<< 64))
def dense : State := core0 (fun k => { k with bench := (Mem.write [] 0 (denseTile 1 129 1)).write 32 [3, 0, 7, 0x80] }) ctx0
def encW (src dst sreg : Nat) : W64 := BitVec.ofNat 64 (src + (dst <<< 16) + (sreg <<< 32))
def encHdr : TileHdr := TileHdr.ofNat ((dense.core 0).bench.readNat 0 32)
theorem test_wit_encoder : wfB (dense.core (dense.phys 0)) = true ∧ (EncCommand.ofWord (encW 0 1000 2)).resv = 0 ∧ encHdr.fieldsOk = true ∧
    encHdr.dense = true ∧ encHdr.denseGrans ≤ 65536 ∧
    (EncCommand.ofWord (BitVec.ofNat 64 (2 ^ 63))).resv ≠ 0 := by decide +kernel
/-- A TDRAIN is still to write the source; and a destination with no room for the tile. -/
theorem test_wit_encoder_waits : ((behindDrain dense).core ((behindDrain dense).phys 0)).ops ≠ [] ∧
    ((dense.core 0).encodeReads (encW 0 1000 2)).any (fun e => decide (e.1 < 513 ∧ 0 < e.2)) = true ∧
    (dense.core (dense.phys 0)).waiting = [] ∧ (dense.core (dense.phys 0)).ops = [] ∧ 65536 < 65535 + encHdr.total := by decide +kernel
theorem test_wit_encoder_fits :
    1000 + (encodeTile encHdr (denseElems (dense.core 0).bench 0 encHdr) (tileHasFF (dense.core 0).bench 0 encHdr) false).1.total ≤ 65536 := by
  decide +kernel
/-! Witnesses: the core sequencer, barriers and the fabric. -/

/-- The word of a cellar transfer. -/
def xw (dir sreg bench len addr : Nat) : BitVec 128 := BitVec.ofNat 128 (dir + (sreg <<< 24) + (bench <<< 32) + (len <<< 48) + (addr <<< 64))
def xferS (w : BitVec 128) (s : State) : State := core0 (fun k => { k with xfers := [cellarXfer w], bench := Mem.write [] 128 [5, 6, 7] }) s
/-- Crate 5 of context 0 is in the cellar. -/
def cellarS : State := { cellarCrate 5 (stepping (oneVar default)) with cellar := [(cellarBase (3 <<< 10) + 32, 9), (cellarBase (3 <<< 10) + 70, 8)] }
def inS : State := xferS (xw 0 2 4 2 (5 * 65536 + 32)) cellarS
def outS : State := xferS (xw 1 2 4 2 (5 * 65536 + 32)) cellarS
def unmappedS : State := xferS (xw 0 2 4 2 (6 * 65536 + 32)) cellarS
/-- Crate 7 is in the cellar of region 1; an illegal word. -/
def farS : State := xferS (xw 0 2 4 2 (7 * 65536 + 32)) (cellarS.modCtx 0 fun x => { x with map := x.map ++ [(7, BitVec.ofNat 64 (1 + ((1 <<< 6) <<< 32)))] })
def illegalS : State := xferS (xw 2 2 4 2 0) cellarS
/-- What the first transfer of core 0 meets: its direction, its length, its crate retired, in the core's bay, its granules bad. -/
def xferMeets (s : State) : Option (Bool × Nat × Bool × Bool × Bool) := match (s.core (s.phys 0)).xfers with
  | q :: _ => some (q.toBench, q.len, s.crateRetired 0 (q.addr / 65536), s.inBay 0 0 (q.addr / 65536),
      (List.range q.len).any fun i => s.placeBad (meplace (s.entry 0 (q.addr / 65536))) (q.addr % 65536 / 32 + i) 1)
  | [] => none
theorem test_wit_transfers : cellarS.coreCtx 0 = some 0 ∧ (cellarXfer (xw 0 2 4 2 (5 * 65536 + 32))).legal = true ∧
    (cellarXfer (xw 2 2 4 2 0)).legal = false ∧ (cellarS.core (cellarS.phys 0)).waiting = [] ∧
    inS.ownerOf 0 = some 0 ∧ xferMeets inS = some (true, 2, false, true, false) ∧ xferMeets outS = some (false, 2, false, true, false) ∧
    (xferMeets unmappedS).map (·.2.2.1) = some false ∧ meTier (unmappedS.entry 0 6) = 0 ∧
    (xferMeets farS).map (fun e => (e.2.2.1, e.2.2.2.1)) = some (false, false) ∧ meTier (farS.entry 0 7) ≠ 0 ∧
    ((illegalS.core 0).xfers.map (·.legal)) = [false] ∧ (List.range 2).all (fun i => !(outS.core 0).poisoned (4 + i) 1) = true := by
  decide +kernel
theorem test_wit_rdpmc : (put [(CTX_CONTROL 0, 2)] cellarS).regBit (CTX_CONTROL 0) 1 = true ∧ cellarS.regBit (CTX_CONTROL 0) 1 = false ∧
    cellarS.powerOf 0 ≤ 1 ∧ (put [(CTX_CONTROL 0, 2)] cellarS).coreCtx 0 = some 0 := by decide +kernel

/-- A step whose barrier tree has region 0 as its root, alone, and one where region 1 is its parent. -/
def treeVar (l : List Nat) : Variant := { (default : Variant) with tree := l ++ List.replicate (64 - l.length) 0xFE }
def rooted : State := stepping (oneVar (treeVar [0xFF]))
def twoTier : State := stepping (oneVar (treeVar [1, 0xFF]))
theorem test_wit_barrier : rooted.coreCtx 0 = some 0 ∧ (rooted.core (rooted.phys 0)).arrived = false ∧ (rooted.core (rooted.phys 0)).waiting = [] ∧
    ((core0 (fun k => { k with arrived := true }) rooted).core 0).arrived = true ∧ waitS.coreCtx 0 = none := by decide +kernel

def fab (f : Fabric → Fabric) (s : State := ctx0) : State := s.modFabric f
def changing (n : Nat) : State := fab fun b => { b with change := some (2, n), epoch := 5, reqs := [⟨4, 3⟩, ⟨5, 1⟩], latched := [⟨4, 2⟩] }
def realigning (s : State) : State := fab (fun b => { b with realign := true, links := [(3, [])] }) s
def running1 : State := stepping { oneVar (treeVar [0xFF]) with running := true }
theorem test_wit_time : ctx0.fabricMode ≠ 0 ∧ ctx0.snap.asked = false ∧ ({ ctx0 with snap := { ctx0.snap with asked := true } } : State).snap.asked = true ∧
    (changing 1).fabric.change = some (2, 1) ∧ (changing 2).fabric.change = some (2, 2) ∧ (changing 1).fabricMode ≠ 0 ∧
    ((changing 1).fabric.reqs.filter fun q => q.epoch == ((changing 1).epoch + 2 ^ 48 - 1) % 2 ^ 48) = [⟨4, 3⟩] ∧
    (∀ s ∈ [ctx0, changing 1, rooted], (s.contexts.all fun c => !(s.ctx c).stopDue && !(s.ctx c).haltDue &&
      (match (s.ctx c).step with | some st => st.recalled == [] | none => true)) = true) ∧ rooted.stepCores.length = 120 ∧
    ([(RouterId.core 0, (3 : Fin 16)), (.service 1, 0)].map fun x => routerNo x.1) = [0, 7745] := by decide +kernel
theorem test_step_cores : rooted.stepCores.Nodup := by decide +kernel
theorem test_wit_realign : (realigning ctx0).fabric.realign = true ∧ (ctx0.contexts.all fun c => ctx0.atBoundary c) = true ∧
    (realigning running1).fabric.realign = true ∧ running1.contexts.contains 0 = true ∧ running1.atBoundary 0 = false := by decide +kernel

/-- A control frame of a type and code, of context 0. -/
def ctl (ty code : Nat) (rest : Nat := 0) : W256 := stampCtl 0 (ctlFrame ty code 0 7 0 rest)
/-- The BARRIER frame of core 0 for context 0, and the RELEASE of its region. -/
def arrival : W256 := ctl 1 0 1
def release : W256 := ctl 1 0 (1 <<< 64)
def frames (l : List CtlFrame) (s : State) : State := fab (fun b => { b with ctl := l }) s
def queued : State := frames [⟨7744, 1, ctl 3 0, true⟩, ⟨7744, 1, arrival, true⟩, ⟨7744, 2, arrival, true⟩, ⟨7744, 1, ctl 3 1, false⟩] ctx0
def heldS : State := fab (fun b => { b with held := true, epoch := 7, latched := [⟨5, 3⟩], ctl := [⟨7744, 1, ctl 3 0, true⟩] }) rooted
def came (s : State) : State := fab (fun b => { b with came := (List.range 120).drop 1 }) (frames [⟨0, 8, arrival, true⟩] s)
def releasing (s : State) : State := frames [⟨7744, 8, release, true⟩] s
def frameOk (f : W256) : Bool := fld f 240 16 == (crcMsb 16 0x1021#16 0xFFFF#16 (leBytes 30 f.toNat)).toNat
theorem test_wit_slots : queued.fabricMode ≠ 0 ∧ queued.foremanOn = true ∧ queued.fabric.held = false ∧
    (queued.fabric.ctl.all fun f => decide (f.link ≠ 8)) = true ∧ (queued.fabric.ctl.all (·.own)) = false ∧
    heldS.fabric.held = true ∧ heldS.fabric.ackSent = false ∧ (heldS.fabric.ctl.all fun f => decide (fld f.frame 0 4 ≠ 1)) = true ∧
    queued.routerOn 7744 = true ∧ (linkPartner 7744 1).isSome = true := by decide +kernel
/-- A core's arrival, first of its region, last at the root and last where region 1 is its region's parent; and a release. -/
theorem test_wit_arrivals : fld arrival 0 4 = 1 ∧ fld arrival 16 16 = 0 ∧ frameCtxs arrival 104 = [0] ∧ rooted.routerOn 0 = true ∧
    (frames [⟨0, 8, arrival, true⟩] rooted).fabric.came = [] ∧ (rooted.region 0).owner = some 0 ∧ rooted.inStep 0 = true ∧
    ((List.range 120).all fun i => i == 0 || (came rooted).fabric.came.contains i) = true ∧
    treeKids ((came rooted).barrierTree 0) 0 = [] ∧ ((came rooted).barrierTree 0)[0]? = some 0xFF ∧
    treeKids ((came twoTier).barrierTree 0) 0 = [] ∧ ((came twoTier).barrierTree 0)[0]? = some 1 ∧ twoTier.inStep 0 = true ∧
    frameCtxs release 168 = [0] ∧ (releasing twoTier).routerOn 7744 = true ∧ ((releasing twoTier).barrierTree 0)[0]? = some 1 ∧
    ((releasing rooted).ctx 0).step.any (·.mark) = false := by decide +kernel
def wired : State := fab fun b => { b with wire := [⟨7751, 0, ctl 3 0, true⟩] }
def standing (r : Nat) (s : State) : State := { s with foreman := { s.foreman with standbys := [r] } }
/-- The frame of a link whose service router sends a FAULT frame; a frame of each type, its length of a hold right and wrong. -/
theorem test_wit_frames : frameOk 5#256 = false ∧ (linkPartner 7745 2) = some (7751, 0) ∧
    (wired.fabric.wire.find? fun x => x.router == 7751 && x.link == 0) = some ⟨7751, 0, ctl 3 0, true⟩ ∧ fld (ctl 3 0) 0 4 = 3 ∧
    frameOk (ctl 7 0) = true ∧ 6 ≤ fld (ctl 7 0) 0 4 ∧ frameOk (ctl 2 0) = true ∧ fld (ctl 2 0) 0 4 = 2 ∧ fld (ctl 2 0) 4 12 = ctx0.holdLen 7744 ∧
    frameOk (ctl 2 3) = true ∧ fld (ctl 2 3) 4 12 ≠ ctx0.holdLen 7744 ∧ frameOk (ctl 3 0) = true ∧ rooted.foremanOn = true ∧
    rooted.regFld HEALTH_FOREMAN 0 6 = 1 ∧ fld (ctl 3 0) 96 8 = 0 ∧ rooted.inStep 0 = true ∧ frameOk (ctl 5 0) = true ∧
    fld (ctl 5 0) 0 4 = 5 ∧ (standing 2 ctx0).foreman.standbys = [2] ∧ frameOk (ctl 4 0 2) = true ∧ fld (ctl 4 0 2) 0 4 = 4 ∧
    fld (ctl 4 0 2) 104 8 = 2 ∧ ((rooted.ctx 0).step.map (·.judged)) = some [] := by decide +kernel

/-- A segment: at cycle 5 the router sends a word of stream 4 from the core to link 0, and adds the words of links 0 and 1 into the
core's stream 5; and sends the word of link 0 to link 1. -/
def seg0 : HopSeg := ⟨1, [BitVec.ofNat 64 (5 + (1 <<< 8) + (8 <<< 28) + (15 <<< 32) + (1 <<< 36) + (4 <<< 48)),
  BitVec.ofNat 64 (5 + (1 <<< 8) + (0 <<< 28) + (1 <<< 32) + (256 <<< 36) + (2 <<< 45) + (5 <<< 48)),
  BitVec.ofNat 64 (5 + (1 <<< 8) + (0 <<< 28) + (15 <<< 32) + (1 <<< 37))]⟩
def hopRun : StepRun := { oneVar { (default : Variant) with hops := [⟨13, [seg0, ⟨3, []⟩]⟩, ⟨7680, [seg0]⟩] } with running := true }
def sched : State := put [(MOD_FABRIC_STATUS, 2)] (stepping hopRun)
def readyS : State := ((sched.setRouter 7680 { Router.reset with load := bankOf 0 seg0 }).setRouter 13 { Router.reset with load := bankOf 0 seg0 })
def bound (send : Bool) (st : Fin 256) (f : Nat) : StreamBind := ⟨⟨st, send, BitVec.ofNat 16 f, 8, 0#16⟩, 0, false⟩
def live : State := (sched.setRouter 13 { Router.reset with run := bankOf 0 seg0, live := true }).modCore (sched.phys 13) fun k =>
  { k with streams := [bound true 4 2, bound false 5 20], bench := Mem.write [] 64 [1, 2, 3, 4, 5, 6] }
def lw (x : W32) : LinkWord := ⟨List.replicate 32 x, true, false, false, 3, 2, []⟩
def onLinks (l : List (Nat × List LinkWord)) : State := live.modFabric fun b => { b with links := l }
def linked : State := onLinks [(13 * 16, [lw 0x3F800000#32]), (13 * 16 + 1, [lw 0x40000000#32])]
def poisoned : State := onLinks [(13 * 16, [{ lw 0 with poison := true }])]
def tabs (s : State) : List HopTable := (s.hopTables 0).filter fun t => (t.bank 0).isSome && !s.isDark (routerRegion t.router)
theorem test_wit_segment : readyS.fabricMode = 2 ∧ readyS.fabric.held = false ∧ (readyS.ctx 0).step.any (·.running) = true ∧
    (tabs readyS).map (·.router) = [13, 7680] ∧ ((tabs readyS).all fun t => (readyS.router t.router).load.loaded &&
      (readyS.router t.router).load.seg == 0 && readyS.bankReady t) = true ∧
    (tabs sched).map (·.router) = [13, 7680] ∧ (sched.router 13).load.loaded = false ∧ sched.fabricMode = 2 ∧
    (sched.core (sched.phys 13)).time.slack < 7 ∧
    [(0 : Fin 7680), 13].Pairwise (fun a b => readyS.phys a ≠ readyS.phys b) := by decide +kernel
/-- Whether the entry `n` of router 13 runs now, at cycle 5. -/
def goesNow (s : State) (n : Nat) : Bool := match (s.router 13).run.entries[n]? with
  | some e => (runCycles (heCycle e) (heLen e))[0]? == some 5 && s.fabricMode == 2 && !s.heldFor 13 && (s.router 13).live && !s.isDark 0 &&
      s.segEpoch 13 == heEpoch e
  | none => false
def hop (n : Nat) : W64 := seg0.entries.getD n 0#64
def dueOn (s : State) (l : Nat) : List LinkWord := (s.linkWords (13 * 16 + l)).filter fun w => w.due (s.schedEpoch * 256 + 5)
theorem test_wit_hop_send : goesNow live 0 = true ∧ heIn (hop 0) = 8 ∧ heOp (hop 0) = 0 ∧ heOuts (hop 0) = [0] ∧ portPartner 13 0 = some (1, 2) ∧
    live.isDark (routerRegion 1) = false ∧
    (live.core (live.phys 13)).streams.find? (fun b => b.spec.send && b.spec.stream.val == heStream (hop 0)) = some (bound true 4 2) ∧
    0 ≤ (live.core (live.phys 13)).time.slack ∧ (live.core (live.phys 13)).poisoned 2 4 = false := by decide +kernel
theorem test_wit_hop_poison : goesNow poisoned 2 = true ∧ heIn (hop 2) = 0 ∧ heOp (hop 2) = 0 ∧ heOuts (hop 2) = [1] ∧
    (portPartner 13 1).isSome = true ∧ dueOn poisoned 0 = [{ lw 0 with poison := true }] ∧ goesNow linked 2 = true ∧
    dueOn linked 0 = [lw 0x3F800000#32] := by decide +kernel
theorem test_wit_hop_add : goesNow linked 1 = true ∧ heIn (hop 1) = 0 ∧ heIn2 (hop 1) = 1 ∧ heOp (hop 1) = 2 ∧ heOuts (hop 1) = [8] ∧
    dueOn linked 0 = [lw 0x3F800000#32] ∧ dueOn linked 1 = [lw 0x40000000#32] ∧
    (linked.core (linked.phys 13)).streams.find? (fun b => !b.spec.send && b.spec.stream.val == heStream (hop 1)) = some (bound false 5 20) ∧
    wfB (linked.core (linked.phys 13)) = true := by decide +kernel
theorem test_wit_modes : ctx0.fabricMode = 1 ∧ (stepping hopRun).fabricMode = 1 ∧
    ((stepping hopRun).contexts.any fun c => ((stepping hopRun).ctx c).step.any (·.running)) = true ∧ (stepping hopRun).fabric.flying = [] ∧
    (put [(MOD_FABRIC_STATUS, 2)] ctx0).fabricMode = 2 ∧ (put [(MOD_FABRIC_STATUS, 2)] ctx0).anyStep = false ∧ sched.anyStep = true ∧
    neighbours 0 ≠ [] ∧ 2 ∉ neighbours 0 ∧ 0 ∉ entryRegions ∧ 2 ∉ entryRegions ∧ ctx0.routerOn 7744 = true ∧ ctx0.routerOn 7746 = true := by
  decide +kernel

def maps (s : State) : State := put ((REGION_ROWMAP 0, 10) :: (List.range 11).map fun p => (REGION_COLMAP 0 p, 12)) s
def reg0 (f : Region → Region) (s : State := ctx0) : State := s.modRegion 0 f
def dying (f : Nat) : State := reg0 (fun r => { r with newDead := [f] }) (maps ctx0)
theorem test_wit_boundary : ctx0.isDark 0 = false ∧ ctx0.atBoundary 0 = true ∧ (ctx0.region 0).owner = some 0 ∧ (ctx0.region 0).darkDue = false ∧
    (ctx0.region 0).newDead = [] ∧ ((dying 129).region 0).newDead = [129] ∧ ((dying 0).region 0).newDead = [0] ∧ ((dying 0).region 0).dead = [] ∧
    (dying 0).regFld (REGION_ROWMAP 0) 0 4 = 10 ∧ ((List.range 11).all fun p => (dying 0).regFld (REGION_COLMAP 0 p) 0 4 == 12) = true ∧
    ((reg0 fun r => { r with darkDue := true }).region 0).darkDue = true ∧
    (reg0 fun r => { r with dark := some .power }).isDark 0 = true ∧ running1.atBoundary 0 = false := by decide +kernel
/-- Core 3's bench is to be filled again from crate 5, and from crate 6, which is not mapped; a repair of crate 5 goes on. -/
def refill (n : Nat) (s : State) : State := reg0 (fun r => { r with refetch := true, restores := [(3, ⟨2, 2, n, 1⟩)] }) s
def repairing5 : StepRun := { oneVar default with repairs := [⟨0, 5, some 0, 1⟩] }
theorem test_wit_refetch : ((refill 5 cellarS).region 0).refetch = true ∧ ((refill 5 cellarS).region 0).owner = some 0 ∧
    ((refill 5 cellarS).ctx 0).step.all (·.repairs.isEmpty) = true ∧ cellarS.crateRetired 0 5 = false ∧ (ctx0.region 0).refetch = false ∧
    ((stepping repairing5 (refill 5 cellarS)).ctx 0).step = some repairing5 ∧
    ((refill 5 cellarS).modCtx 0 fun x => { x with awaiting := [5] }).crateRetired 0 5 = true := by decide +kernel
/-! Witnesses: weight streaming and the memory tiers. -/

/-- A streamed program: two weight crates, 16 at position 0 and 17 at position 1. -/
def pf : Program := { (default : Program) with
  stream := { (default : StreamHdr) with kmin := 1, kmax := 3, lbase := 100, lsize := 2048, npos := 3, nent := 2, ngrp := 1 },
  groups := [⟨1, 1, 3⟩], entries := [⟨0, true, 0, 16, 0, 1⟩, ⟨1, true, 0, 17, 0, 1⟩], tokens := [5, 4],
  slots := [⟨0, 0, 0, 0xFF, 0xFF⟩, ⟨1, 0, 0, 0xFF, 0xFF⟩], variants := [default] }
def run0 : StepRun := { (default : StepRun) with prog := pf, variant := some 0, k := 1, running := false, pos := none }
def weights (st : StepRun) : State := (crate 17 [9] (crate 16 [1, 2, 3] (stepping st))).setPhase 0 1
def issued0 : StepRun := { run0 with issued := [0] }
def opening : StepRun := { run0 with issued := [0, 1], landed := [0, 1], opened := [0], ended := 1, running := true, slotNo := 0 }
def repairing (peer : Nat) : StepRun := { run0 with issued := [0], repairs := [⟨0, 16, some peer, 1⟩] }
/-- Two modules hold replicas, and repairs are enabled. -/
def repl (s : State) : State := put [(CARAVAN_CTX_REPLICA 0 0, 2 ^ 31 + 5), (CARAVAN_CTX_REPLICA 0 1, 2 ^ 31 + 6), (STREAM_CONTROL 0, 3)] s

theorem test_wit_prefetch : run0.variant ≠ none ∧ (weights run0).phase 0 < 4 ∧ (weights run0).foremanOn = true ∧ pf.stream.resident = false ∧
    pf.entries[0]? = some ⟨0, true, 0, 16, 0, 1⟩ ∧ 0 < pf.stream.npos := by decide +kernel
theorem test_wit_landing : 0 ∈ issued0.issued ∧ 0 ∉ issued0.landed ∧ 16 ∉ issued0.failed ∧ issued0.repairs = [] ∧
    (weights issued0).crateRetired 0 16 = false := by decide +kernel
theorem test_wit_gate : (pf.entries.getD 1 default).pos = 1 ∧ (pf.entries.getD 1 default).wave1 = true ∧ 1 ∉ issued0.landed ∧
    (put [(STREAM_CONTROL 0, 3)] (weights opening)).gateReady 0 1 opening = true ∧
    (put [(STREAM_CONTROL 0, 3)] (weights opening)).effFld (STREAM_CONTROL 0) 0 1 = 1 ∧ (weights opening).gateReady 0 1 opening = true := by
  decide +kernel
theorem test_wit_fetch_end : (repl (weights issued0)).effFld (STREAM_CONTROL 0) 1 1 = 1 ∧ (repl (weights issued0)).replicas 0 = [5, 6] ∧
    (repl (weights issued0)).repairsOn < 16 ∧ ((List.range 64).all fun c => ((repl (weights issued0)).ctx c).step.all fun q => q.repairs.all fun r => r.peer.isSome) = true ∧
    (weights issued0).replicas 0 = [] := by decide +kernel
theorem test_wit_repair_peers : (repairing 0).repairs.find? (fun r => r.crate == 16) = some ⟨0, 16, some 0, 1⟩ ∧
    ((repl (weights (repairing 0))).replicas 0)[1]? = some 6 ∧ (repairing 1).repairs.find? (fun r => r.crate == 16) = some ⟨0, 16, some 1, 1⟩ ∧
    ((repl (weights (repairing 1))).replicas 0)[2]? = none ∧ (0#8).toNat = (repl (weights (repairing 0))).tag 0 ∧
    (1#8).toNat ≠ (repl (weights (repairing 0))).tag 0 := by decide +kernel

/-- A spare crate is left where the pool is not empty, no other crate waits for one and some physical crate is free. -/
theorem rehome_some (s : State) (c n : Nat) (h : s.spares ≠ 0) (hw : s.short = []) (hf : s.refillSpares.freeStock ≠ none) :
    (s.rehome c n).2 = true := by
  have h1 : s.refillSpares.spares ≠ 0 := by unfold State.refillSpares; simp only; omega
  obtain ⟨p, hp⟩ := Option.ne_none_iff_exists'.mp hf
  simp [State.rehome, State.takeSpare, h1, hp, hw]
/-- None is left where the pool cannot be filled. -/
theorem rehome_none (s : State) (c n : Nat) (h : s.refillSpares.spares = 0) : (s.rehome c n).2 = false := by
  have ht : s.takeSpare = (none, s.refillSpares) := by simp [State.takeSpare, h]
  unfold State.rehome
  rw [ht]
  dsimp only
  split
  · rename_i he
    have h0 := congrArg Prod.fst he
    exact absurd h0 (by (repeat' split) <;> simp)
  · rfl
/-- Some crate is free among as many as the search takes in turn. -/
theorem freeStockFrom_some (s : State) (used : List Nat) (fuel k : Nat)
    (h : ∃ j, j < fuel ∧ used.contains ((k + j) % s.stockCrates) = false ∧ s.stockRetired ((k + j) % s.stockCrates) = false) :
    s.freeStockFrom used fuel k ≠ none := by
  induction fuel generalizing k with
  | zero => obtain ⟨j, hj, -⟩ := h; omega
  | succ n ih =>
    unfold State.freeStockFrom
    simp only
    split
    · rename_i hb
      refine ih (k + 1) ?_
      obtain ⟨j, hj, h1, h2⟩ := h
      cases j with
      | zero => simp_all
      | succ j => exact ⟨j, by omega, by rwa [Nat.add_right_comm, Nat.add_assoc] , by rwa [Nat.add_right_comm, Nat.add_assoc]⟩
    · exact Option.some_ne_none _
/-- No crate is in use or retired. -/
theorem freeStock_empty (s : State) (hu : s.stockUsed = []) (hr : s.retired = []) : s.freeStock ≠ none := by
  refine freeStockFrom_some _ _ _ _ ⟨0, ?_, ?_, ?_⟩
  · rw [hu]; simp
  · rw [hu]; rfl
  · simp [State.stockRetired, State.retiredChans, hr]
/-- A channel is retired, and a crate is free. -/
theorem freeStock_free (s : State) (p : Nat) (hp : p < s.stockCrates) (hu : s.stockUsed.contains p = false) (hr : s.stockRetired p = false)
    (hc : s.retiredChans.isEmpty = false) : s.freeStock ≠ none := by
  refine freeStockFrom_some _ _ _ _ ⟨(p + s.stockCrates - Config.stockPick s.fresh % s.stockCrates) % s.stockCrates, ?_, ?_⟩
  · have := Nat.mod_lt (p + s.stockCrates - Config.stockPick s.fresh % s.stockCrates) (Nat.zero_lt_of_lt hp)
    simp only [hc, Bool.false_eq_true, if_false]; omega
  · have : (Config.stockPick s.fresh + (p + s.stockCrates - Config.stockPick s.fresh % s.stockCrates) % s.stockCrates) % s.stockCrates = p := by
      have hk := Nat.mod_lt (Config.stockPick s.fresh) (Nat.zero_lt_of_lt hp)
      rw [Nat.add_mod_mod, ← Nat.mod_add_mod, show Config.stockPick s.fresh % s.stockCrates + (p + s.stockCrates - Config.stockPick s.fresh % s.stockCrates) = p + s.stockCrates by omega]
      rw [Nat.add_mod_right, Nat.mod_eq_of_lt hp]
    rw [this]
    exact ⟨hu, hr⟩
/-- A free slot of an empty row-bay. -/
theorem freeSlot_empty (s : State) (region bay : Nat) (h : s.baySlots region bay = []) : ∃ l, s.freeSlot region bay = some l := by
  unfold State.freeSlot
  rw [h]
  exact ⟨Config.cellarPick s.fresh % 261888, by simp [firstFree]⟩

/-- Crate 5 in the cellar, alone, awaiting rebuild; crate 16 in the stockroom beside it. -/
def cellarOnly : State := (cellarCrate 5 ctx0).modCtx 0 fun x => { x with awaiting := [5] }
def both : State := cellarCrate 5 (crate 16 [1, 2, 3] ctx0)
/-- No spare crate is left: the others are kept for the quotas. -/
def bare (s : State) : State := { put [(QUOTA_KEEP_RESERVE, 0xFFFFFFFF)] s with spares := 0 }
theorem test_wit_repair : (repairing 0).repairs ≠ [] ∧ (List.replicate 65536 3#8).length = 65536 ∧
    (((stepping (repairing 0)).modCtx 0 fun x => { x with awaiting := x.awaiting ++ [16] }).rehome 0 16).2 = true :=
  ⟨by decide, List.length_replicate,
   rehome_some _ _ _ (by decide +kernel) (by decide +kernel) (freeStock_empty _ (by decide +kernel) (by decide +kernel))⟩
theorem test_wit_repair_short : (((bare (stepping (repairing 0))).modCtx 0 fun x => { x with awaiting := x.awaiting ++ [16] }).rehome 0 16).2 = false :=
  rehome_none _ _ _ (by decide +kernel)

def tiersS : State := cellarCrate 5 (crate 16 [1, 2, 3] (stepping default))
def badWord : State := core0 (fun k => { k with uncorr := [4, 0], mb := 1 }) tiersS
/-- A transfer of the core reads crate 5; a granule of the bench is of crate 5. -/
def reading : State := core0 (fun k => { k with xfers := [cellarXfer (BitVec.ofNat 128 ((2 <<< 24) + (4 <<< 32) + (3 <<< 48) + ((5 * 65536 + 32) <<< 64)))] }) tiersS
def homed : State := core0 (fun k => { k with homes := [⟨3, 3, 5, 0⟩], uncorr := [4] }) tiersS
theorem test_wit_tier_errors : (tiersS.ctx 0).step.map (·.judged) = some [] ∧ meTier (tiersS.entry 0 16) = 2 ∧ tiersS.crateRetired 0 16 = false ∧
    meTier (tiersS.entry 0 5) = 1 ∧ tiersS.crateRetired 0 5 = false ∧ tiersS.readerOf 0 5 2047 0 = none ∧ tiersS.coreCtx 0 = some 0 ∧
    (reading.readerOf 0 5 2 0).isSome = true ∧ reading.inBay 0 0 5 = true ∧ meTier (reading.entry 0 5) = 1 ∧
    badWord.coreCtx 0 = some 0 ∧ 4 ∈ (badWord.core (badWord.phys 0)).uncorr ∧
    ((homed.core 0).homes.find? fun h => decide (h.first ≤ 4 ∧ 4 < h.first + h.grans)) = some ⟨3, 3, 5, 0⟩ := by decide +kernel

theorem test_wit_rebuild : 5 ∈ (cellarOnly.ctx 0).awaiting ∧ (cellarOnly.ctx 0).noMap = false ∧ (List.replicate 65536 3#8).length = 65536 ∧
    (cellarOnly.rehome 0 5).2 = true ∧ 5 ∈ ((bare cellarOnly).ctx 0).awaiting ∧ ((bare cellarOnly).ctx 0).noMap = false ∧
    ((bare cellarOnly).rehome 0 5).2 = false :=
  ⟨by decide +kernel, by decide +kernel, List.length_replicate,
   rehome_some _ _ _ (by decide +kernel) (by decide +kernel) (freeStock_empty _ (by decide +kernel) (by decide +kernel)),
   by decide +kernel, by decide +kernel, rehome_none _ _ _ (by decide +kernel)⟩

/-- Give a crate's map entry a home tier, with migration on. -/
def homeIs (n h : Nat) (s : State) : State := put [(CTX_MIG_CONTROL 0, 256)] (s.modCtx 0 fun x => x.setEntry n (setFld (x.entry n) 4 2 h))
def toCellar : State := homeIs 16 1 (crate 16 [1, 2, 3] ctx0)
def toStock : State := homeIs 5 2 (cellarCrate 5 ctx0)
theorem test_wit_migration_start : (∀ e ∈ [(toCellar, 16, true), (toStock, 5, false)],
      e.1.ctxOn 0 = true ∧ e.1.foremanOn = true ∧ mePin (e.1.entry 0 e.2.1) = false ∧ meBound (e.1.entry 0 e.2.1) = false ∧
      e.1.crateRetired 0 e.2.1 = false ∧ (e.1.ctx 0).migrations.length = 0 ∧ e.1.gateWants 0 e.2.1 = false ∧ e.1.trigger 0 e.2.1 = some e.2.2) ∧
    0 < toCellar.cellarRoom 0 ∧ (∃ l, toCellar.homeSlot 0 (toCellar.entry 0 16) = some l) ∧ 0 < toStock.stockRoom 0 ∧ (∃ l, toStock.freeStock = some l) := by
  refine ⟨by decide +kernel, by decide +kernel, ?_, by decide +kernel,
    Option.ne_none_iff_exists'.mp (freeStock_empty _ (by decide +kernel) (by decide +kernel))⟩
  have h : ((toCellar.region (meHRegion (toCellar.entry 0 16))).owner == some 0 && !toCellar.isDark (meHRegion (toCellar.entry 0 16)) &&
      decide (meHBay (toCellar.entry 0 16) < 10)) = true := by decide +kernel
  obtain ⟨l, hl⟩ := freeSlot_empty toCellar (meHRegion (toCellar.entry 0 16)) (meHBay (toCellar.entry 0 16)) (by decide +kernel)
  exact ⟨_, by rw [State.homeSlot, if_pos h, hl]; rfl⟩
/-- A migration in progress, to the cellar and to the stockroom. -/
def moving (m : Migration) : State := both.modCtx 0 fun x => { x with migrations := [m] }
theorem test_wit_migration_switch : ∀ e ∈ [(16, true, 64 + 5 <<< 10), (5, false, 40)],
    ((moving ⟨e.1, e.2.1, e.2.2⟩).ctx 0).migrations.find? (fun m => m.crate == e.1) = some ⟨e.1, e.2.1, e.2.2⟩ ∧ both.crateRetired 0 e.1 = false ∧
    both.isDark (nfld e.2.2 0 6) = false ∧ both.stockRetired e.2.2 = false ∧ meBound (both.entry 0 e.1) = false ∧ (moving ⟨e.1, e.2.1, e.2.2⟩).requested 0 e.1 = false ∧
    meTier (both.entry 0 e.1) = (if e.2.1 then 2 else 1) := by decide +kernel

/-- A channel that holds a piece of crate 16 is retired. -/
def chanGone : State := { crate 16 [1, 2, 3] (ctx0.modCtx 0 fun x => { x with awaiting := [16] }) with retired := [.channel 16 0] }
theorem rehome_fresh (s : State) (f c n p : Nat) (h : s.spares ≠ 0) (hw : s.short = []) (hp : p < s.stockCrates)
    (hu : s.stockUsed.contains p = false) (hr : s.stockRetired p = false) (hc : s.retiredChans.isEmpty = false) :
    ({ s with fresh := f }.rehome c n).2 = true :=
  rehome_some _ _ _ h hw (freeStock_free _ p hp hu hr hc)
theorem test_wit_channel : 16 ∈ (chanGone.ctx 0).awaiting ∧ (chanGone.ctx 0).noMap = false ∧ meTier (chanGone.entry 0 16) = 2 ∧
    (chanGone.lostPieces (meLoc (chanGone.entry 0 16))).length = 1 ∧ (0#8).toNat = chanGone.tag 0 ∧ (List.replicate 4096 7#8).length = 4096 * 1 ∧
    (∀ f, ({ chanGone with fresh := f }.rehome 0 16).2 = true) := by
  refine ⟨by decide +kernel, by decide +kernel, by decide +kernel, by decide +kernel, by decide +kernel, by rw [List.length_replicate], fun f => ?_⟩
  exact rehome_fresh _ f _ _ 20 (by decide +kernel) (by decide +kernel) (by decide +kernel) (by decide +kernel) (by decide +kernel) (by decide +kernel)
theorem rehome_none_fresh (s : State) (f c n : Nat) (h : s.refillSpares.spares = 0) : ({ s with fresh := f }.rehome c n).2 = false :=
  rehome_none _ _ _ h
theorem test_wit_channel_short : ∀ f, ({ bare chanGone with fresh := f }.rehome 0 16).2 = false := by
  intro f
  exact rehome_none_fresh _ f _ _ (by decide +kernel)
/-- A migration whose target is lost: a dark region's slot, a retired crate. -/
theorem test_wit_migration_lost : ((moving ⟨16, true, 2⟩).modRegion 2 fun r => { r with dark := some .power }).isDark (nfld 2 0 6) = true ∧
    ({ moving ⟨5, false, 40⟩ with retired := [.crate 40] } : State).stockRetired 40 = true := by decide +kernel

def wiping : State := { put [(MOD_STATUS, 0)] base with boot := { base.boot with wiping := true } }
def tornDown : State := { put [(CTX_STATUS 0, 2)] (crate 16 [1] ctx0) with wipes := [0] }
theorem test_wit_wipes : wiping.boot.wiping = true ∧ wiping.bringup = 4 ∧ wiping.boot.off = false ∧ wiping.regFld POWER_STATUS 0 3 = 3 ∧
    wiping.boot.inReset = false ∧ (base.boot.wiping = false) ∧ (put [(QUOTA_WIPE_STATUS, 0)] wiping).regFld QUOTA_WIPE_STATUS 0 3 = 0 ∧
    wiping.regBit QUOTA_WIPE_STATUS 1 = true ∧ State.reset.boot.wiping = true ∧ State.reset.bringup ≠ 4 ∧
    ({ wiping with boot := { wiping.boot with inReset := true } } : State).boot.inReset = true ∧
    0 ∈ tornDown.wipes ∧ tornDown.ctxState 0 = 2 ∧ (tornDown.ctx 0).taken = [] := by decide +kernel
def lostMap : State := ctx0.modCtx 0 fun x => { x with noMap := true, mapAt := [5], scaleAt := [5] }
theorem test_wit_copies : (lostMap.ctx 0).noMap = true ∧ lostMap.ctxState 0 = 1 ∧ (lostMap.ctx 0).mapAt = [5] ∧ (lostMap.ctx 0).scaleAt = [5] := by
  decide +kernel
/-! Witnesses: the gradient path, the commit and the ledgers. -/

/-- A sum for tile 0 of a micro-batch, with a tag and elements. -/
def inp (mb tag : Nat) (es : List Int) : SumInput := ⟨sumHdr 0 mb false false false 4 1 tag 5 0x7F00#32, es⟩
def sum0 : SumInput := inp 0 0 [1, 70000, -70000]
def badSum : SumInput := ⟨sum0.hdr ||| (1#256 <<< 51), [1]⟩
def sharded (gate root : Bool) : StepRun := oneVar { (default : Variant) with shards := [⟨0, 2, 9, gate, root, 3, 0⟩] }
def tally (st : StepRun) : State := put [(STREAM_LEDGER_TILES 0, 1)] (stepping st)
def deliveredS : State := (tally (sharded true true)).modCtx 0 fun x => { x with delivered := [⟨3, sum0⟩, ⟨4, inp 1 0 [2]⟩] }
def asked : StepRun := { sharded true false with sums := [⟨0, 0, [(.region 0, sum0)], [], false⟩, ⟨0, 0xFFFF, [], [3], false⟩] }
theorem test_wit_exact : (tallyInt [sum0, sum0]).2 = false ∧ shNULL sum0.hdr = false ∧ shTILE sum0.hdr = 0 ∧ shMB sum0.hdr = 0 := by decide +kernel
theorem test_wit_sums : (tally (sharded true false)).shardOf 0 0 = some ⟨0, 2, 9, true, false, 3, 0⟩ ∧ shTAG sum0.hdr = (tally (sharded true false)).tag 0 ∧
    shGood sum0.hdr = true ∧ shFP sum0.hdr = (tally (sharded true false)).gmode 0 ∧ ((tally (sharded true false)).region 0).owner = some 0 ∧
    (tally (sharded true false)).verdictOn 0 0 (sharded true false) ≠ some false ∧
    (deliveredS.ctx 0).delivered = [⟨3, sum0⟩, ⟨4, inp 1 0 [2]⟩] ∧
    deliveredS.verdictOn 0 0 (sharded true true) ≠ some false ∧ (deliveredS.shardOf 0 0).isSome = true ∧
    deliveredS.tallyFits 0 0 0 (.module 3, sum0) = true ∧ shGood badSum.hdr = false ∧ shTILE badSum.hdr = 0 ∧ shTAG (inp 0 7 [1]).hdr ≠ 0 := by
  decide +kernel
/-- Core 0's stream 5 has received a fabric sum of a micro-batch whole. -/
def fabricIn (mb : Nat) (s : State) : State :=
  core0 (fun k => { k with streams := [⟨⟨5, false, 0#16, 512, BitVec.ofNat 16 mb⟩, 16384, false⟩] }) s
def fabricHdr (tag : Nat) : W256 := sumHdr 0 0 false false false 4 1 tag 5 0x7F00#32
def fabricS : State := fabricIn 0 (tally (sharded true true))
def fabricI (tag : Nat) : SumInput := (fabricS.fabricSum 0 5 (fabricHdr tag)).getD ⟨0#256, []⟩
theorem test_wit_fabric_sum : (∀ n ∈ [0, 7], (fabricS.fabricSum 0 5 (fabricHdr n)).isSome = true ∧ (fabricI n).hdr = fabricHdr n) ∧
    shTAG (fabricHdr 0) = fabricS.tag 0 ∧ shTAG (fabricHdr 7) ≠ fabricS.tag 0 ∧ shGood (fabricHdr 0) = true ∧
    shFP (fabricHdr 0) = fabricS.gmode 0 ∧ shTILE (fabricHdr 0) = 0 ∧ shMB (fabricHdr 0) = 0 ∧ (fabricS.region 0).owner = some 0 ∧
    (sharded true true).regionSent 0 0 0 = false ∧ ((sharded true true).sum 0 0).length = 0 ∧ fabricS.verdictOn 0 0 (sharded true true) ≠ some false ∧
    fabricS.tallyFits 0 0 0 (.fabric 0 5, fabricI 0) = true := by decide +kernel
/-- The state with the region's fabric sums taken out, its own sum put in. -/
def regionTakes : Bool :=
  let src := SumFrom.fabric 0 5
  let sum := (combineSums 0 0 0 (fabricS.gmode 0) (fabricInputs 0 [(src, fabricI 0)])).1
  let u := fabricS.modStep 0 fun st => { st with sums := (putInput 0 0 (src, fabricI 0) st.sums).map fun q => { q with inputs := [] } }
  (fabricInputs 0 [(src, fabricI 0)]).length == 1 && u.tallyFits 0 0 0 (.region 0, sum)
theorem test_wit_region_sum : regionTakes = true := by decide +kernel
/-- A tile word of the first pass from module 3, the shard's parent, at a shard that is the root and at one that is not; tile words of the
module's one region come in at a root with no children. -/
def wordIn : SumInput := { inp 0xFFFF 0 [] with elems := [] }
def first (root : Bool) : StepRun := { oneVar { (default : Variant) with shards := [⟨0, 2, 9, true, root, 3, 0⟩] } with scales := [none] }
def firstS (root : Bool) : State := (put [(CTX_SCALE_ENTRIES 0, 1)] (tally (first root))).modCtx 0 fun x => { x with delivered := [⟨3, wordIn⟩] }
theorem test_wit_first_pass : ∀ root ∈ [true, false], wordIn.elems = [] ∧ shNULL wordIn.hdr = false ∧ (firstS root).gmode 0 = false ∧
    shTAG wordIn.hdr = (firstS root).tag 0 ∧ shGood wordIn.hdr = true ∧ ((firstS root).shardOf 0 0).isSome = true ∧
    (firstS root).weightEntry 0 0 = some 0 ∧ (first root).scales[0]? = some none ∧ (firstS root).sumRegions 0 = [0] ∧ (first root).firsts = [] := by
  decide +kernel
/-- The sealed word of tile 0: MBS micro-batches, or empty. -/
def swd (word : Nat) (mbs : Nat := 1) (e : Bool := false) : W256 := sealedWord (w32 word) 1 0 mbs 5 4 e
theorem test_wit_tallies : (tally (sharded true false)).ctxState 0 = 1 ∧ (sharded true false).verdicts = [] ∧ (tally asked).shardOf 0 0 ≠ none ∧
    (asked.sums.any fun q => q.tile == 0 && q.mb == 0xFFFF && q.again.contains 3) = true ∧
    ((sharded true false).sums.any fun q => q.tile == 0 && q.mb == 0xFFFF) = false ∧ recGood (swd 0x7F00).toNat = true ∧
    swTAG (swd 0x7F00) = (tally asked).tag 0 ∧ 0 < (tally asked).tiles 0 := by decide +kernel
/-- A sealed tile's crate fits the quota, and does not. -/
def sealing (q : Nat) : State := put [(CTX_QUOTA_STOCK 0, q)] (tally asked)
def withSealed (s : State) : State := s.modCtx 0 fun x => { x with sealed := spSet (fun _ => none) x.sealed 0 (some ⟨swd 0x7F00, [1]⟩) }
theorem test_wit_sealed_quota : (withSealed (sealing 9)).useStock 0 ≤ (sealing 9).regFld (CTX_QUOTA_STOCK 0) 0 28 ∧
    ¬ ((withSealed (sealing 0)).useStock 0 ≤ (sealing 0).regFld (CTX_QUOTA_STOCK 0) 0 28) ∧
    ¬ ((withSealed (sealing 0)).useStock 0 ≤ (sealing 0).useStock 0) := by decide +kernel

/-- A job of one micro-batch of five tokens, in a phase, with the sealed tile of ledger tile 0. -/
def stc : StepRun := { oneVar default with desc := 7, prog := { (default : Program) with variants := [default], jobMbs := 1, jobTokens := 5 } }
def q0 : Sealed := ⟨swd 0x7F00, [1]⟩
def cmt (ph : Nat) (st : StepRun := stc) (q : Sealed := q0) : State :=
  ((stepping st job).setPhase 0 ph).modCtx 0 fun x => { x with taken := [desc 7 4 0 1], sealed := [(0, some q)] }
/-- The commit set has modules 0 and 3; the ledger has no tile; the optimiser block has a norm bound. -/
def two (s : State) : State := crate 20 [0, 0, 0, 0, 3, 0, 0, 0] (put [(CARAVAN_CTX_COUNT 0, 2)] s)
def noTiles (s : State) : State := put [(STREAM_LEDGER_TILES 0, 0)] s
def optN : List Byte := leBytes 32 (1 + (0x3F800000 <<< 32)) ++ List.replicate 64 0#8
def bounded : StepRun := { stc with opt := optN }
theorem test_wit_apply_start : (cmt 4).phase 0 = 4 ∧ (cmt 4).foremanOn = true ∧ ((cmt 4).tryGates 0).allSealed 0 = true ∧
    (f32 ((cmt 4).stepOpt 0).normMax).isZero = true ∧ ((two (cmt 4 bounded)).tryGates 0).allSealed 0 = true ∧
    (two (cmt 4 bounded)).phase 0 = 4 ∧ (f32 ((two (cmt 4 bounded)).stepOpt 0).normMax).isZero = false := by decide +kernel
theorem test_wit_norms : (two (cmt 5 { bounded with norms := [(0, 0, 0#32)] })).commitSet 0 = [0, 3] ∧
    ((cmt 5 bounded).commitSet 0) = [0] ∧ bounded.norms = [] := by decide +kernel
/-- A tile whose update is normal, of which the first entry becomes infinite, saturated, not finite, empty and frozen. -/
def infinite (s : State) : State := crate 22 [0x80, 0x7F, 0, 0, 0, 0, 0, 0] s
def frozen (s : State) : State := crate 21 (leBytes 32 (sealRec ((22 <<< 16) + 8))) s
def updated (s : State) (q : Sealed) : List LEntry :=
  applyEntries (s.stepOpt 0) stc.prog.useqs (s.gmode 0) stc.gscale (s.dir 0 0) q (s.tag 0) (s.ledgerTile 0 0)
def kind (s : State) (q : Sealed) : Bool × Bool × Bool := (bitAt (swWord q.word) 16, bitAt (swWord q.word) 17 || (s.gmode 0 && sealedNonfinite q),
  swEMPTY q.word || swMBS q.word == 0 || (s.dir 0 0).frozen)
theorem test_wit_tile : ((cmt 5).ctx 0).sealedTile 0 = some q0 ∧ (cmt 5).phase 0 = 5 ∧ 0 < (cmt 5).tiles 0 ∧ (cmt 5).foremanOn = true ∧
    (cmt 5).scaleKnown 0 stc = true ∧ (cmt 5).tileLost 0 0 = false ∧ (cmt 5).tileTagged 0 0 ((cmt 5).tag 0 + 1) = false ∧
    ((cmt 5).ctx 0).swatch.isNone = true ∧ kind (cmt 5) q0 = (false, false, false) ∧ kind (cmt 5) ⟨swd 0x17F00, [1]⟩ = (true, false, false) ∧
    kind (cmt 5) ⟨swd 0x27F00, [1]⟩ = (false, true, false) ∧ kind (cmt 5) ⟨swd 0x7F00 1 true, []⟩ = (false, false, true) ∧
    kind (frozen (cmt 5)) q0 = (false, false, true) := by decide +kernel
/-- At step 5 no entry of the tile, whose crate 99 is not mapped and so reads as zeros, waits for its update. -/
def later : State := crate 21 (leBytes 32 (sealRec (99 <<< 16))) (put [(STREAM_STEP_COUNT 0, 5)] (cmt 5))
theorem test_wit_tile_bad : (updated (infinite (cmt 5)) q0).any badEntry = true := by decide +kernel
theorem test_wit_tile_good : later.phase 0 = 5 ∧ later.foremanOn = true ∧ later.scaleKnown 0 stc = true ∧ later.tileLost 0 0 = false ∧
    later.tileTagged 0 0 (later.tag 0 + 1) = false ∧ kind later q0 = (false, false, false) := by decide +kernel
theorem tensorRead_unmapped (s : State) (c addr len : Nat) (h1 : addr % 65536 + (len + 1) ≤ 65536) (h2 : s.entry c (addr / 65536) = 0#64)
    (x : Byte) (hx : x ∈ s.tensorRead c addr (len + 1)) : x = 0#8 := by
  have hn : (addr % 65536 + (len + 1) + 65535) / 65536 = 1 := by omega
  simp only [State.tensorRead, hn, List.range_one, List.flatMap_cons, List.flatMap_nil, List.append_nil, Nat.add_zero, h2] at hx
  split at hx
  · exact List.eq_of_mem_replicate hx
  · rw [show meplace 0#64 = Place.none by decide] at hx
    exact List.eq_of_mem_replicate hx
theorem zipWith_mem {α β γ : Type} (f : α → β → γ) (l : List α) (m : List β) (x : γ) (h : x ∈ List.zipWith f l m) : ∃ a ∈ l, ∃ b, x = f a b := by
  induction l generalizing m with
  | nil => simp at h
  | cons a l ih =>
    cases m with
    | nil => simp at h
    | cons b m =>
      rcases List.mem_cons.mp h with h | h
      · exact ⟨a, by simp, b, h⟩
      · obtain ⟨a', ha, b', hb⟩ := ih m h
        exact ⟨a', by simp [ha], b', hb⟩
/-- A ledger tile, not wide, in a crate that is not mapped holds zero entries. -/
def zeroTile (s : State) : Prop := (s.dir 0 0).wide = false ∧ s.entry 0 ((s.dir 0 0).addr 0 / 65536) = 0#64 ∧
  (s.dir 0 0).addr 0 % 65536 + (32767 + 1) ≤ 65536
theorem entries_of_zeroTile (s : State) (h : zeroTile s) (e : LEntry) (he : e ∈ s.ledgerTile 0 0) : e = ⟨0#32, 0#32, 0#32, 0⟩ := by
  unfold State.ledgerTile at he
  simp only [h.1] at he
  exact decode_zeros _ (fun x hx => tensorRead_unmapped s 0 _ 32767 h.2.2 h.2.1 x hx) e he
theorem test_wit_tile_good_update : (updated later q0).any badEntry = false := by
  rw [List.any_eq_false]
  intro x hx
  obtain ⟨e, he, m, rfl⟩ := zipWith_mem _ _ _ _ hx
  have h : later.tag 0 = 5 ∧ (later.dir 0 0).wide = false ∧ later.entry 0 ((later.dir 0 0).addr 0 / 65536) = 0#64 ∧
      (later.dir 0 0).addr 0 % 65536 + (32767 + 1) ≤ 65536 := by decide +kernel
  rw [entries_of_zeroTile later h.2 e he, h.1, if_pos (by decide)]
  decide
theorem test_wit_apply_complete : (noTiles (two (cmt 5))).phase 0 = 5 ∧ (noTiles (two (cmt 5))).foremanOn = true ∧
    ((noTiles (two (cmt 5))).ctx 0).listen = .member ∧ (noTiles (two (cmt 5))).allTagged 0 ((noTiles (two (cmt 5))).tag 0 + 1) = true ∧
    ((noTiles (two (cmt 5))).ctx 0).held = [] ∧ (noTiles (two (cmt 5))).commitSet 0 = [0, 3] ∧ (noTiles (two (cmt 5))).moduleId = 0 ∧
    stc.beacons = [] ∧ (noTiles (cmt 5)).commitSet 0 = [0] ∧ (noTiles (cmt 5)).allTagged 0 ((noTiles (cmt 5)).tag 0 + 1) = true ∧
    ((noTiles (cmt 5)).desc 0 7).map (·.result) = some none := by decide +kernel
def beac (m step mbs tok : Nat) : W256 := commitBeacon m 0 step mbs tok false
theorem test_wit_beacons : beaconGood 1#256 = false ∧ beaconGood (beac 3 0 1 5) = true ∧ cbMODULE (beac 3 0 1 5) = 3 ∧
    (two (cmt 6)).commitSet 0 = [0, 3] ∧ (two (cmt 6)).ctxState 0 = 1 ∧ (two (cmt 6)).phase 0 = 6 ∧ cbSTEP (beac 3 0 1 5) = 0 ∧
    (two (cmt 6)).reg (STREAM_STEP_COUNT 0) = 0#32 ∧ cbMBS (beac 3 0 1 5) = ((two (cmt 6)).sealedCounts 0).1 % 2 ^ 24 ∧
    cbTOKENS (beac 3 0 1 5) = ((two (cmt 6)).sealedCounts 0).2 % 2 ^ 48 ∧ cbMBS (beac 3 0 2 5) ≠ ((two (cmt 6)).sealedCounts 0).1 % 2 ^ 24 ∧
    cbSTEP (beac 3 1 1 5) = 1 ∧ beaconGood (beac 3 1 1 5) = true ∧ (two (cmt 5)).phase 0 ≠ 6 ∧
    (two (cmt 6 { stc with beacons := [0] })).commitSet 0 = [0, 3] := by decide +kernel
/-! Witnesses: recovery, pipeline stages and swatches. -/

/-- A walk over two tiles, whose crate 99 is not mapped, at a step count. -/
def walk (n : Nat) : State := put [(STREAM_LEDGER_TILES 0, 2), (STREAM_STEP_COUNT 0, n)]
  (crate 21 (leBytes 32 (sealRec (99 <<< 16)) ++ leBytes 32 (sealRec (99 <<< 16))) (cmt 5))
def lostWalk : State := (cmt 5).modCtx 0 fun x => { x with awaiting := [22] }
theorem walk_zero (n : Nat) (h : zeroTile (walk n)) (ht : (0 == (walk n).tag 0 % 256 || 0 == ((walk n).tag 0 + 1) % 256) = true) :
    ((walk n).ledgerTile 0 0).all (inWindow ((walk n).tag 0)) = true := by
  rw [List.all_eq_true]
  intro e he
  rw [entries_of_zeroTile _ h e he]
  exact ht
theorem test_wit_walk : (walk 255).phase 0 = 5 ∧ (walk 255).foremanOn = true ∧ (walk 255).scaleKnown 0 stc = true ∧ stc.applied + 1 < (walk 255).tiles 0 ∧
    (walk 255).tileLost 0 0 = false ∧ ((walk 255).ledgerTile 0 0).all (inWindow ((walk 255).tag 0)) = true ∧
    (walk 255).tileTagged 0 0 ((walk 255).tag 0 + 1) = true := by
  have h : zeroTile (walk 255) := by unfold zeroTile; decide +kernel
  refine ⟨by decide +kernel, by decide +kernel, by decide +kernel, by decide +kernel, by decide +kernel, walk_zero _ h (by decide +kernel), ?_⟩
  unfold State.tileTagged
  rw [List.all_eq_true]
  intro e he
  rw [entries_of_zeroTile _ h e he]
  decide +kernel
theorem test_wit_walk_apply : (walk 0).phase 0 = 5 ∧ (walk 0).foremanOn = true ∧ (walk 0).scaleKnown 0 stc = true ∧
    (walk 0).tileLost 0 0 = false ∧ ((walk 0).ledgerTile 0 0).all (inWindow ((walk 0).tag 0)) = true ∧
    (walk 0).tileTagged 0 0 ((walk 0).tag 0 + 1) = false ∧ ((walk 0).ctx 0).sealedTile 0 = some q0 ∧ swTAG q0.word = (walk 0).tag 0 :=
  ⟨by decide +kernel, by decide +kernel, by decide +kernel, by decide +kernel, walk_zero _ (by unfold zeroTile; decide +kernel) (by decide +kernel),
   by decide +kernel, by decide +kernel, by decide +kernel⟩
theorem test_wit_walk_lost : lostWalk.phase 0 = 5 ∧ lostWalk.tileLost 0 0 = true ∧ lostWalk.tileTagged 0 0 (lostWalk.tag 0 + 1) = false ∧
    (lostWalk.ctx 0).cellarDue = [] ∧ lostWalk.foremanOn = true ∧ lostWalk.scaleKnown 0 stc = true ∧ stc.applied < lostWalk.tiles 0 := by
  decide +kernel
def listener (n : Nat) : State := job.modCtx 0 fun x => { x with listen := .listener n [] }
theorem test_wit_rebuild_members : job.ctxState 0 = 1 ∧ (job.ctx 0).listen = .member ∧ (job.ctx 0).step.isNone = true ∧
    ((listener 15).ctx 0).listen = .listener 15 [] ∧ ((listener 16).ctx 0).listen = .listener 16 [] ∧ 0 < (listener 15).tiles 0 ∧
    (listener 15).ctxState 0 = 1 := by decide +kernel
/-- A replica's DATA for a tile: its directory record, zero entries and a zero scale entry. -/
def replicaData : List Byte := leBytes 32 (sealRec (22 <<< 16)) ++ (List.replicate 32768 0#8 ++ List.replicate 32 0#8)
theorem test_wit_rebuild_data : ∃ v tb e, rebuildParts replicaData = some (v, tb, e) ∧
    (decodeTile (dirRec v).wide tb).all (inWindow ((listener 15).tag 0)) = true := by
  have hl : (leBytes 32 (sealRec (22 <<< 16))).length = 32 := by decide +kernel
  have hv : leNat (leBytes 32 (sealRec (22 <<< 16))) = sealRec (22 <<< 16) := by decide +kernel
  have hd : (dirRec (sealRec (22 <<< 16))).good = true ∧ (dirRec (sealRec (22 <<< 16))).wide = false := by decide +kernel
  have ht : replicaData.take 32 = leBytes 32 (sealRec (22 <<< 16)) := by
    unfold replicaData; rw [List.take_append_of_le_length (by omega), List.take_of_length_le (by omega)]
  have hr : (replicaData.drop 32).take 32768 = List.replicate 32768 0#8 := by
    unfold replicaData
    rw [List.drop_append_of_le_length (by omega), List.drop_of_length_le (by omega), List.nil_append,
      List.take_append_of_le_length (by rw [List.length_replicate]), List.take_of_length_le (by rw [List.length_replicate])]
  have hs : tileSize false = 32768 := by decide
  have hn : replicaData.length = 64 + 32768 := by unfold replicaData; simp only [List.length_append, List.length_replicate, hl]
  refine ⟨sealRec (22 <<< 16), List.replicate 32768 0#8, BitVec.ofNat 256 (leNat (replicaData.drop (32 + 32768))), ?_, ?_⟩
  · unfold rebuildParts
    simp only [ht, hv, hd.1, hd.2, hs, hn, hr, Bool.true_and, beq_self_eq_true, if_true]
  · rw [hd.2, List.all_eq_true]
    intro e he
    rw [decode_zeros _ (fun x hx => List.eq_of_mem_replicate hx) e he]
    decide +kernel

/-- A step of one slot, with a receive channel 0 and a send channel 1 as bound by the slot. -/
def slotted (inC outC : Nat) : StepRun := { oneVar default with opened := [0], prog := { (default : Program) with
  variants := [default], tokens := [5], stream := { (default : StreamHdr) with resident := true, npos := 1 }, slots := [⟨0, 0, 0, inC, outC⟩],
  chans := [⟨5, false, 2, 30, 1⟩, ⟨5, true, 2, 40, 1⟩] } }
def waiting (st : StepRun) : State := (stepping st).setPhase 0 1
/-- A handoff whose first crate the pass has not yet written, and has. -/
def handoff (done : Bool) : Handoff := ⟨0, 0, if done then [(0, 2 ^ 2048 - 1)] else [], [], [], false, false⟩
def handing (done : Bool) : StepRun := { slotted 255 0 with running := true, handoffs := [handoff done] }
theorem test_wit_slots_gates : (waiting (slotted 255 255)).waitsSlot 0 (slotted 255 255) = true ∧ (slotted 255 255).readyOpen = true ∧
    (slotted 255 255).handoffOpen = true ∧ (waiting (slotted 255 255)).sendOpen (slotted 255 255) = true ∧
    ({ slotted 255 255 with opened := [] } : StepRun).readyOpen = false ∧ (waiting (slotted 1 255)).waitsSlot 0 (slotted 1 255) = true ∧
    (slotted 1 255).readyOpen = true ∧ (waiting (slotted 1 255)).sendOpen (slotted 1 255) = true ∧ (slotted 1 255).handoffOpen = false := by
  decide +kernel
theorem test_wit_handoff : ∀ done ∈ [true, false], (handing done).handoffs.find? (fun h =>
      h.chan == 0 && decide (h.crates.length < ((handing done).prog.chans.getD 0 default).slotc)) = some (handoff done) ∧
    (handoff done).ready = done ∧ ((handing done).prog.chans.getD 0 default).recv = false ∧
    ((handing done).prog.chans.getD 0 default).peer ≠ (waiting (handing done)).moduleId ∧
    (handing done).prog.slotOfHandoff 0 0 = some ⟨0, 0, 0, 255, 0⟩ := by decide +kernel
theorem test_wit_held_slot : (fab (fun b => { b with held := true }) (waiting (slotted 255 255))).fabric.held = true ∧
    (waiting (slotted 255 255)).fabric.held = false ∧ ((waiting (handing true)).modCtx 0 fun x => { x with awaiting := [30] }).crateRetired 0 30 = true := by
  decide +kernel

/-- A swatch of one tile to host address 0x40000, and the states that it passes. -/
def swr (ph next miss stp : Nat) : SwatchRun :=
  { desc := 7, plan := BitVec.ofNat 512 ((1 <<< 96) + (0x40000 <<< 128)), step := w32 stp, phase := ph, next := next, missing := miss,
    spill := [], reserve := 1 }
def swS (w : SwatchRun) : State := put [(STREAM_STEP_COUNT 0, 1)] (job.modCtx 0 fun x => { x with swatch := some w, taken := [desc 7 4 0 5] })
def spilt : SwatchRun := { swr 3 0 0 0 with spill := [(0, [1, 2, 3])] }
theorem test_wit_swatch_read : (swS (swr 1 0 0 0)).swatchOpen 0 (swr 1 0 0 0) = true ∧ (swS (swr 1 0 0 1)).swatchOpen 0 (swr 1 0 0 1) = false ∧
    (swr 1 0 0 0).phase = 1 ∧ (swr 2 0 0 0).next < spNTILES (swr 2 0 0 0).plan ∧ spDEST (swr 2 0 0 0).plan = 0 ∧
    (swS spilt).nextRecord 0 spilt = some [1, 2, 3] ∧ ((swr 2 0 0 0).spill.any fun e => e.1 == 0) = false := by decide +kernel
theorem test_wit_swatch_end : spNTILES (swr 2 1 0 0).plan ≤ (swr 2 1 0 0).next ∧ (swr 2 1 1 0).missing ≠ 0 ∧
    ((swS (swr 2 1 0 0)).desc 0 7).map (·.result) = some none := by decide +kernel
/-! Witnesses: losses, health and securing. -/

def fl : StepRun := { oneVar { (default : Variant) with tree := 0xFF :: List.replicate 63 0xFE } with desc := 7, slotNo := 0, running := true }
def fm (f : Foreman → Foreman) (s : State) : State := { s with foreman := f s.foreman }
/-- A step in flight in a phase. -/
def stp (ph : Nat) : State := ((stepping fl).setPhase 0 ph).modCtx 0 fun x => { x with taken := [desc 7 4 0 1] }
def silent (s : State) : State := s.modFabric fun b => { b with epoch := 100 }
def alone : State := silent (fm (fun f => { f with standbys := [] }) (stp 2))
def taking : State := fm (fun f => { f with takeover := some 22, lost := some 1 }) (put [(REGION_POWER 22, 1)] (stp 5))
def ready22 : State := put1 (REGION_POWER 22) 1 (silent (stp 2))
def silence (s : State) : Nat := (s.epoch + 2 ^ 48 - s.foreman.mirror) % 2 ^ 48
theorem test_wit_losses : (stp 2).isDark 0 = false ∧ (stp 2).owing 0 0 ≠ [] ∧ ready22.foreman.active = true ∧
    ready22.foreman.takeover = none ∧ 64 ≤ silence ready22 ∧ ready22.nextStandby = some 22 ∧
    alone.foreman.active = true ∧ alone.foreman.takeover = none ∧ alone.nextStandby = none ∧ 64 ≤ silence alone ∧
    alone.ctxState 0 ≠ 0 ∧ (alone.desc 0 fl.desc).map (·.result) = some none ∧
    (ctx0.modRegion 1 fun r => { r with dark := some .power }).foremanRegionLost = true := by decide +kernel
theorem test_wit_takeover : taking.foreman.active = true ∧ taking.foreman.takeover = some 22 ∧ taking.foremanRegionLost = false ∧
    taking.ctxState 0 ≠ 0 ∧ taking.phase 0 = 5 := by decide +kernel
def worn : State := ctx0.modRegion 0 fun r => { r with svcFailed := 2 }
theorem test_wit_units : 0 < ctx0.stackCount ∧ (ctx0.die 0).failed .tally = false ∧ (worn.region 0).svcFailed < min 4 ((worn.region 0).svcFailed + 1) ∧
    min 4 ((worn.region 0).svcFailed + 4) = 4 := by decide +kernel

theorem test_wit_health : ctx0.foremanOn = true ∧ (∀ u, (ctx0.monitor u).level ≤ 7) ∧ (fm (fun f => { f with active := false }) ctx0).foremanOn = false := by
  refine ⟨by decide +kernel, fun u => ?_, by decide +kernel⟩
  have h : ctx0.monitors = [] := by decide +kernel
  show (spGet _ ctx0.monitors u).level ≤ 7
  rw [h]
  exact Nat.zero_le 7
/-- A channel at level 7, and a region whose temperature puts it there with darkness allowed. -/
def hot : State := put [(HEALTH_CONTROL, 16), (REGION_TEMP 0, 110)] ctx0
theorem test_wit_health7 : hot.foremanOn = true ∧ ((hot.inputLevels 0).any fun e => e.2 == 7) = true ∧ hot.effFld HEALTH_CONTROL 4 1 = 1 ∧
    hot.isDark 0 = false := by decide +kernel

def secS (s : State) : State := put [(HEALTH_SEC_CONTROL 0, 5 + 2 <<< 16), (HEALTH_SEC_STATUS 0, 7 <<< 16), (STREAM_STEP_COUNT 0, 1), (HEALTH_SEC_ADDR_LO 0, 0x40000)] s
def secJob : State := secS (put [(STREAM_LEDGER_TILES 0, 0)] job)
theorem test_wit_secure_start : secJob.ctxState 0 = 1 ∧ secJob.effFld (HEALTH_SEC_CONTROL 0) 16 2 = 2 ∧ (secJob.ctx 0).secure = none ∧
    secJob.phase 0 < 5 ∧ secJob.secureDue 0 ≠ none ∧ secJob.tiles 0 = 0 := by decide +kernel
def run1 (d : Nat) : SecureRun := ⟨3, [7], 0#32, List.replicate 40 5#8, d, 0, 0x40000, true, []⟩
def secd (q : SecureRun) : State := ctx0.modCtx 0 fun x => { x with secure := some q, taken := [desc 7 4 0 6] }
theorem test_wit_secured : ((secd (run1 2)).ctx 0).secure = some (run1 2) ∧ (run1 2).lost = [] ∧ (run1 2).dest = 2 ∧ 7 ∈ (run1 2).waits ∧
    ((secd (run1 2)).desc 0 7).map (·.result) = some none ∧ ((1 : Fin 5).val) ≠ 3 := by decide +kernel
def keeping : State := { put [(QUOTA_KEEP_RESERVE, 1), (QUOTA_KEEP_CLIENTS, 2)] ctx0 with keep := [⟨0, [], []⟩] }
theorem test_wit_keep : keeping.keepRoom 3 7 = true ∧ 2 + ([1, 2, 3] : List Byte).length ≤ 7 ∧ ctx0.keepRoom 3 7 = false ∧
    7 < 6 + ([1, 2, 3] : List Byte).length := by decide +kernel
/-! Witnesses: frames as they arrive. -/

/-- A frame with the header `h` but for its CRC, for port 0 of its destination, as that module's peer makes it. -/
def fr (h : Nat) (sub : W256) (data : List Byte := []) : Frame :=
  ⟨macOf (nfld h 64 17) 0, BitVec.ofNat 3 (State.reset.pcp (nfld h 4 2)), 0, 0x88B6#16,
   BitVec.ofNat 256 h ||| BitVec.ofNat 256 ((frameCrc (BitVec.ofNat 256 h) sub data).toNat <<< 224), sub, data⟩
/-- A header: class, type, destination, SEQ, PART, NPART, LEN and transfer identifier; the sender is module 3, the job 0. -/
def hd (cls ty dst seq part npart len xid : Nat) : Nat :=
  1 + (cls <<< 4) + (ty <<< 8) + (3 <<< 32) + (dst <<< 64) + (seq <<< 96) + (part <<< 120) + (npart <<< 124) + (len <<< 128) + (xid <<< 160)
theorem or_bit (h c i : Nat) (hi : i < 224) : (BitVec.ofNat 256 h ||| BitVec.ofNat 256 (c <<< 224)).getLsbD i = (BitVec.ofNat 256 h).getLsbD i := by
  have : ¬ 224 ≤ i := by omega
  rw [BitVec.getLsbD_or, BitVec.getLsbD_ofNat (i := i) (x := c <<< 224), Nat.testBit_shiftLeft]
  simp [this]
theorem fr_hdr (h : Nat) (sub : W256) (data : List Byte) : (fr h sub data).hdr =
    BitVec.ofNat 256 h ||| BitVec.ofNat 256 ((frameCrc (BitVec.ofNat 256 h) sub data).toNat <<< 224) := rfl
theorem fr_fld (h : Nat) (sub : W256) (data : List Byte) (lo len : Nat) (hl : lo + len ≤ 224) :
    fld (fr h sub data).hdr lo len = fld (BitVec.ofNat 256 h) lo len := by
  refine Nat.eq_of_testBit_eq fun i => ?_
  rw [fld_testBit, fld_testBit]
  by_cases hi : i < len
  · rw [fr_hdr, or_bit _ _ _ (by omega)]
  · simp [hi]
theorem leBytes_mod (n v w : Nat) (h : v % 256 ^ n = w % 256 ^ n) : leBytes n v = leBytes n w := by
  induction n generalizing v w with
  | zero => rfl
  | succ n ih =>
    have h1 : v % 256 = w % 256 := by
      have := congrArg (· % 256) h
      simpa [Nat.pow_succ, Nat.mod_mul_left_mod] using this
    have h2 : v / 256 % 256 ^ n = w / 256 % 256 ^ n := by
      have := congrArg (· / 256) h
      simpa [Nat.pow_succ, Nat.mul_comm _ 256, Nat.mod_mul_right_div_self] using this
    rw [leBytes, leBytes, ih _ _ h2]
    congr 1
    exact BitVec.eq_of_toNat_eq (by simpa using h1)
/-- Its CRC is right, whatever its data: the checks that are left are those of its fields. -/
theorem fr_crc (h : Nat) (sub : W256) (data : List Byte) (hh : h < 2 ^ 224) :
    fld (fr h sub data).hdr 224 32 = (frameCrc (fr h sub data).hdr (fr h sub data).sub (fr h sub data).data).toNat := by
  have hc : frameCrc (fr h sub data).hdr (fr h sub data).sub (fr h sub data).data = frameCrc (BitVec.ofNat 256 h) sub data := by
    unfold frameCrc
    rw [leBytes_mod 28 (fr h sub data).hdr.toNat (BitVec.ofNat 256 h).toNat]
    · rfl
    · have := fr_fld h sub data 0 224 (by omega)
      simpa [fld] using this
  rw [hc]
  refine Nat.eq_of_testBit_eq fun i => ?_
  rw [fld_testBit, fr_hdr, BitVec.getLsbD_or, BitVec.getLsbD_ofNat, BitVec.getLsbD_ofNat, Nat.testBit_shiftLeft]
  have h0 : h.testBit (224 + i) = false := Nat.testBit_lt_two_pow (Nat.lt_of_lt_of_le hh (Nat.pow_le_pow_right (by omega) (by omega)))
  by_cases hi : i < 32
  · simp [h0, hi, show 224 + i < 256 by omega]
  · have := Nat.testBit_lt_two_pow (i := i) (Nat.lt_of_lt_of_le (frameCrc (BitVec.ofNat 256 h) sub data).isLt (Nat.pow_le_pow_right (by omega) (by omega : 32 ≤ i)))
    simp [hi, this]
/-- The checks of R482 on a header and a subheader. -/
def formOk (h : Nat) (sub : W256) (n : Nat) : Bool :=
  let f : Frame := ⟨0, 0, 0, 0, BitVec.ofNat 256 h, sub, []⟩
  decide (h < 2 ^ 224) && nfld h 0 4 == 1 && nfld h 6 2 == 0 && nfld h 53 11 == 0 && nfld h 81 15 == 0 && nfld h 141 19 == 0 && nfld h 192 32 == 0 &&
  (typeClasses f.type_).contains f.cls && nfld h 128 13 == n && decide (n ≤ 4096) && decide (f.part ≤ f.npart) && subGood f
theorem fr_good (s : State) (h : Nat) (sub : W256) (data : List Byte) (hf : formOk h sub data.length = true)
    (hp : (BitVec.ofNat 3 (State.reset.pcp (nfld h 4 2))).toNat = s.pcp (nfld h 4 2)) : s.frameGood (fr h sub data) = true := by
  unfold formOk at hf
  simp only [Bool.and_eq_true, decide_eq_true_eq] at hf
  obtain ⟨⟨⟨⟨⟨⟨⟨⟨⟨⟨⟨hh, h0⟩, h1⟩, h2⟩, h3⟩, h4⟩, h5⟩, h6⟩, h7⟩, h8⟩, h9⟩, h10⟩ := hf
  have hn : ∀ lo len, lo + len ≤ 224 → fld (fr h sub data).hdr lo len = nfld h lo len := fun lo len hl => by
    rw [fr_fld _ _ _ _ _ hl, fld, nfld, BitVec.toNat_ofNat, Nat.mod_eq_of_lt (Nat.lt_of_lt_of_le hh (by decide))]
  have hs : subGood (fr h sub data) = true := by
    unfold subGood at h10 ⊢
    rw [show (fr h sub data).type_ = _ from fr_fld _ _ _ _ _ (by decide)]
    exact h10
  unfold State.frameGood
  simp only [Bool.and_eq_true, decide_eq_true_eq, hn _ _ (by decide : 0 + 4 ≤ 224), hn _ _ (by decide : 6 + 2 ≤ 224), hn _ _ (by decide : 53 + 11 ≤ 224),
    hn _ _ (by decide : 81 + 15 ≤ 224), hn _ _ (by decide : 141 + 19 ≤ 224), hn _ _ (by decide : 192 + 32 ≤ 224), hn _ _ (by decide : 128 + 13 ≤ 224),
    hs, fr_crc h sub data hh, beq_self_eq_true, and_true, h0, h1, h2, h3, h4, h5, true_and]
  have hc : (fr h sub data).cls = nfld h 4 2 := hn 4 2 (by decide)
  rw [hc, show (fr h sub data).type_ = _ from fr_fld _ _ _ _ _ (by decide), show (fr h sub data).part = _ from fr_fld _ _ _ _ _ (by decide),
    show (fr h sub data).npart = _ from fr_fld _ _ _ _ _ (by decide)]
  have h6' : (typeClasses (fld (BitVec.ofNat 256 h) 8 8)).contains (nfld h 4 2) = true := by
    rw [← hc, show (fr h sub data).cls = _ from fr_fld _ _ _ _ _ (by decide)]; exact h6
  exact ⟨⟨⟨⟨h6', beq_iff_eq.mpr hp⟩, h7⟩, of_decide_eq_true (decide_eq_true h8)⟩, h9⟩

/-- The other checks of a frame that a port delivers. -/
def toOk (s : State) (p ty c : Nat) (h : Nat) (sub : W256) (n : Nat) : Bool :=
  formOk h sub n && s.ready && s.portUp p && (0x88B6#16).toNat == s.regFld CARAVAN_ETHERTYPE 0 16 && nfld h 64 17 == s.moduleId &&
  macOf (nfld h 64 17) 0 == macOf s.moduleId p && nfld h 8 8 == ty && s.caravan.peers.any (fun e => e.module == nfld h 32 17) &&
  s.jobCtx (nfld h 16 16) == some c && (BitVec.ofNat 3 (State.reset.pcp (nfld h 4 2))).toNat == s.pcp (nfld h 4 2)
theorem fr_nfld (h : Nat) (sub : W256) (data : List Byte) (hh : h < 2 ^ 224) (lo len : Nat) (hl : lo + len ≤ 224) :
    fld (fr h sub data).hdr lo len = nfld h lo len := by
  rw [fr_fld _ _ _ _ _ hl, fld, nfld, BitVec.toNat_ofNat, Nat.mod_eq_of_lt (Nat.lt_of_lt_of_le hh (by decide))]
theorem accepts_fr (s : State) (p ty c : Nat) (h : Nat) (sub : W256) (data : List Byte) (n : Nat) (hn : data.length = n)
    (ht : toOk s p ty c h sub n = true) : s.accepts p ty c (fr h sub data) = true := by
  subst hn
  unfold toOk at ht
  simp only [Bool.and_eq_true] at ht
  obtain ⟨⟨⟨⟨⟨⟨⟨⟨⟨hf, h1⟩, h2⟩, h3⟩, h4⟩, h5⟩, h6⟩, h7⟩, h8⟩, h9⟩ := ht
  have hh : h < 2 ^ 224 := by unfold formOk at hf; simp only [Bool.and_eq_true, decide_eq_true_eq] at hf; exact hf.1.1.1.1.1.1.1.1.1.1.1
  have e (lo len) (hl : lo + len ≤ 224) := fr_nfld h sub data hh lo len hl
  unfold State.accepts
  rw [show (fr h sub data).dst = _ from e 64 17 (by decide), show (fr h sub data).type_ = _ from e 8 8 (by decide),
    show (fr h sub data).src = _ from e 32 17 (by decide), show (fr h sub data).job = _ from e 16 16 (by decide),
    fr_good s h sub data hf (beq_iff_eq.mp h9)]
  simp only [Bool.and_eq_true]
  exact ⟨⟨⟨⟨⟨⟨⟨⟨h1, h2⟩, h3⟩, h4⟩, h5⟩, h6⟩, trivial⟩, h7⟩, h8⟩

/-- Module 0 of the caravan, in direct topology, with ports 0 and 1 UP; module 3 is the peer on port 0. -/
def car (s : State) : State := { put [(CARAVAN_TOPO, 0), (CARAVAN_MODULE_ID, 2^31), (CARAVAN_PORT_STATUS 0, 2), (CARAVAN_PORT_STATUS 1, 2)] s with
  caravan := { s.caravan with peers := [⟨3, 7, 0⟩], routes := [(3, 1#16)] } }
def sub (l : List (Nat × Nat)) : W256 := BitVec.ofNat 256 (fields l)
/-- Frames of a type: in class, empty, for a module. -/
def plain (ty dst : Nat) : Nat := hd ((typeClasses ty).getD 0 0) ty dst 0 0 0 0 0
def allTypes : List ((Fin 16 → Frame → Instr) × Nat) := [(Instr.verdict, 0x03), (Instr.beacon, 0x04), (Instr.norm, 0x05), (Instr.sum, 0x10), (Instr.handoff, 0x20),
  (Instr.put, 0x21), (Instr.fetch, 0x22), (Instr.data, 0x23)]
/-- A frame that the checks refuse, for its version. -/
def badFr (ty : Nat) : Frame := fr (plain ty 0 + 1) 0
theorem test_wit_frame_bad : ∀ e ∈ allTypes, (car ctx0).ready = true ∧ (car ctx0).portUp 0 = true ∧
    (badFr e.2).etype.toNat = (car ctx0).regFld CARAVAN_ETHERTYPE 0 16 ∧ (badFr e.2).type_ = e.2 ∧ (badFr e.2).dst = (car ctx0).moduleId ∧
    (badFr e.2).dmac = macOf (car ctx0).moduleId 0 ∧ (car ctx0).frameGood (badFr e.2) = false := by
  intro e he
  have hb : ∀ ty ∈ [3, 4, 5, 0x10, 0x20, 0x21, 0x22, 0x23], fld (badFr ty).hdr 8 8 = ty ∧ fld (badFr ty).hdr 64 17 = 0 ∧ fld (badFr ty).hdr 0 4 = 2 := by
    intro ty hty
    unfold badFr
    rw [fr_fld _ _ _ _ _ (by decide), fr_fld _ _ _ _ _ (by decide), fr_fld _ _ _ _ _ (by decide)]
    revert ty
    decide +kernel
  have ht : e.2 ∈ [3, 4, 5, 0x10, 0x20, 0x21, 0x22, 0x23] := by
    simp only [allTypes, List.mem_cons, List.not_mem_nil, or_false] at he
    rcases he with rfl | rfl | rfl | rfl | rfl | rfl | rfl | rfl <;> decide
  obtain ⟨h1, h2, h3⟩ := hb e.2 ht
  have hm : (car ctx0).moduleId = 0 := by decide +kernel
  have he : (0x88B6#16).toNat = (car ctx0).regFld CARAVAN_ETHERTYPE 0 16 := by decide +kernel
  refine ⟨by decide +kernel, by decide +kernel, he, h1, h2.trans hm.symm, ?_, by simp [State.frameGood, h3]⟩
  rw [hm]
  generalize e.2 = ty at ht
  revert ty
  decide +kernel
/-- A frame for module 3, to which the route is on port 0, and one for module 5, to which there is none. -/
theorem test_wit_frame_forward : ∀ ty ∈ [3, 4, 5, 0x10, 0x20, 0x21, 0x22, 0x23],
    (∀ m ∈ [3, 5], (fr (plain ty m) 0).type_ = ty ∧ (fr (plain ty m) 0).dst = m ∧ (car ctx0).frameGood (fr (plain ty m) 0) = true) ∧
    (fr (plain ty 3) 0).etype.toNat = (car ctx0).regFld CARAVAN_ETHERTYPE 0 16 ∧
    (car ctx0).moduleId = 0 ∧ (car ctx0).switched = false ∧ (car ctx0).allowed 3 = [0] ∧ (car ctx0).allowed 5 = [] := by
  intro ty ht
  have he : (0x88B6#16).toNat = (car ctx0).regFld CARAVAN_ETHERTYPE 0 16 := by decide +kernel
  refine ⟨fun m hm => ?_, he, by decide +kernel, by decide +kernel, by decide +kernel, by decide +kernel⟩
  have hb : ∀ ty ∈ [3, 4, 5, 0x10, 0x20, 0x21, 0x22, 0x23], ∀ m ∈ [3, 5], plain ty m < 2 ^ 224 ∧ nfld (plain ty m) 8 8 = ty ∧ nfld (plain ty m) 64 17 = m ∧
      formOk (plain ty m) 0 0 = true ∧ (BitVec.ofNat 3 (State.reset.pcp (nfld (plain ty m) 4 2))).toNat = (car ctx0).pcp (nfld (plain ty m) 4 2) := by
    decide +kernel
  obtain ⟨h0, h1, h2, h3, h4⟩ := hb ty ht m hm
  exact ⟨(fr_nfld _ _ _ h0 8 8 (by decide)).trans h1, (fr_nfld _ _ _ h0 64 17 (by decide)).trans h2, fr_good _ _ _ _ h3 h4⟩

/-- The caravan of context 0 when its step has a receive channel 0 from module 3; crates 16 and 17 are carMapped, 18 awaits rebuild. -/
def carMapped (s : State) : State := put [(CARAVAN_CTX_COUNT 0, 2), (CARAVAN_CTX_LIST 0, 20)]
  ((crate 20 [0, 0, 0, 0, 3] (crate 18 [] (crate 17 [9] (crate 16 [1, 2, 3] s)))).modCtx 0 fun x => { x with awaiting := [18] })
def hoff : StepRun := { oneVar default with prog := { (default : Program) with variants := [default], tokens := [5], slots := [⟨0, 0, 0, 0, 255⟩], chans := [⟨3, true, 2, 40, 1⟩] } }
def carS : State := car (carMapped (stepping hoff))
/-- The same after it has taken transfer 0 of module 3. -/
def carSeen : State := { carS with caravan := { carS.caravan with seen := [(3, 0)] } }
/-- Class 0 frames: a verdict, a beacon, a norm, a notice of a join, of a removal and of withheld micro-batches. -/
def express : List (Nat × W256) := [(3, sub [(0, 0), (16, 1)]), (4, commitBeacon 3 0 1 1 5 false), (5, sub [(0, 0), (32, 9)]), (6, sub [(0, 2), (32, 3)]),
  (6, sub [(0, 1), (32, 3)]), (6, sub [(0, 3), (64, 0xFFFF)])]
theorem test_wit_express : ∀ e ∈ express, carS.accepts 0 e.1 0 (fr (plain e.1 0) e.2) = true ∧ carSeen.accepts 0 e.1 0 (fr (plain e.1 0) e.2) = true ∧
    (fr (plain e.1 0) e.2).src = 3 ∧ (fr (plain e.1 0) e.2).xid = 0 ∧ carS.allowed 3 ≠ [] ∧ carS.caravan.seen = [] ∧ (3, 0) ∈ carSeen.caravan.seen := by
  intro e he
  have hb : ∀ e ∈ express, plain e.1 0 < 2 ^ 224 ∧ nfld (plain e.1 0) 32 17 = 3 ∧ nfld (plain e.1 0) 160 32 = 0 ∧ toOk carS 0 e.1 0 (plain e.1 0) e.2 0 = true ∧
      toOk carSeen 0 e.1 0 (plain e.1 0) e.2 0 = true := by decide +kernel
  obtain ⟨h0, h1, h2, h3, h4⟩ := hb e he
  exact ⟨accepts_fr _ _ _ _ _ _ _ 0 rfl h3, accepts_fr _ _ _ _ _ _ _ 0 rfl h4, (fr_nfld _ _ _ h0 32 17 (by decide)).trans h1,
    (fr_nfld _ _ _ h0 160 32 (by decide)).trans h2, by decide +kernel, by decide +kernel, by decide +kernel⟩
theorem test_wit_express_of : ((carS.ctx 0).step.map fun st => (st.verdicts, st.norms)) = some ([], []) ∧ fld (sub [(0, 0), (16, 1)]) 24 8 = carS.tag 0 ∧
    (let b := commitBeacon 3 0 1 1 5 false
     beaconGood b = true ∧ cbMODULE b ∈ carS.commitSet 0 ∧ cbMODULE b ≠ carS.moduleId ∧
      cbSTEP b = ((carS.reg (STREAM_STEP_COUNT 0)).toNat + 1) % 2 ^ 32) ∧
    (express.map fun e => fld e.2 0 8).drop 3 = [2, 1, 3] := by decide +kernel
/-- The first frame of a flow, in turn. -/
theorem inTurn_first (s : State) (h : Nat) (sub : W256) (data : List Byte) (hh : h < 2 ^ 224) (hr : s.caravan.rx = []) (hs : nfld h 96 24 = 0)
    (ht : s.caravan.tx.length + s.caravan.rx.length < 16384) : s.inTurn (fr h sub data) := by
  unfold State.inTurn
  rw [hr]
  exact ⟨(fr_nfld _ _ _ hh 96 24 (by decide)).trans hs, by rw [hr] at ht; exact ht⟩
/-- The flows' next frames have number 1, and frames of number 0 arrive again. -/
def turnS : State := { carS with caravan := { carS.caravan with rx := [⟨0, 3, 1, 1, 0⟩, ⟨0, 3, 2, 1, 0⟩] } }
theorem test_wit_out_of_turn : ∀ ty ∈ [0x10, 0x20, 0x21, 0x22, 0x23], turnS.accepts 0 ty 0 (fr (plain ty 0) 0) = true ∧
    ∃ r, turnS.caravan.rx.find? (fun r => r.job == (fr (plain ty 0) 0).job && r.src == (fr (plain ty 0) 0).src && r.cls == (fr (plain ty 0) 0).cls) = some r ∧
      (fr (plain ty 0) 0).seq ≠ r.expect := by
  intro ty ht
  have hb : ∀ ty ∈ [0x10, 0x20, 0x21, 0x22, 0x23], plain ty 0 < 2 ^ 224 ∧ toOk turnS 0 ty 0 (plain ty 0) 0 0 = true ∧ nfld (plain ty 0) 96 24 = 0 ∧
      (turnS.caravan.rx.find? (fun r => r.job == nfld (plain ty 0) 16 16 && r.src == nfld (plain ty 0) 32 17 && r.cls == nfld (plain ty 0) 4 2)).map (·.expect) =
        some 1 := by decide +kernel
  obtain ⟨h0, h1, h2, h3⟩ := hb ty ht
  refine ⟨accepts_fr _ _ _ _ _ _ _ 0 rfl h1, ?_⟩
  have e (lo len) (hl : lo + len ≤ 224) := fr_nfld (plain ty 0) 0 [] h0 lo len hl
  rw [show (fr (plain ty 0) 0).job = _ from e 16 16 (by decide), show (fr (plain ty 0) 0).src = _ from e 32 17 (by decide),
    show (fr (plain ty 0) 0).cls = _ from e 4 2 (by decide), show (fr (plain ty 0) 0).seq = _ from e 96 24 (by decide), h2]
  obtain ⟨r, hr, hx⟩ := Option.map_eq_some_iff.mp h3
  exact ⟨r, hr, by omega⟩

/-- A transfer of one frame is whole at once. -/
theorem collect_one (s : State) (f : Frame) (hp : s.caravan.partials = []) (h0 : f.part = 0) (h1 : f.npart = 0) : (s.collect f).2 = some [f] := by
  simp [State.collect, hp, h0, h1]
theorem collect_none (s : State) (f : Frame) (hp : s.caravan.partials = []) (h0 : f.part = 0) (h1 : f.npart ≠ 0) : (s.collect f).2 = none := by
  have : ¬ f.npart + 1 ≤ 1 := by omega
  simp only [State.collect, hp, List.find?_nil, List.filter_nil, List.nil_append, h0]
  rw [if_neg]
  rw [List.all_eq_true]
  intro h
  have := h 1 (List.mem_range.mpr (by omega))
  simp at this
/-- Sums: a NULL one and one of four elements, each whole, and the first of five parts. -/
def sumH (null : Bool) : W256 := sumHdr 0 0 false false null 4 1 0 5 0x7F00#32
def sumFr (null : Bool) (npart : Nat) : Frame := fr (hd 1 0x10 0 0 0 npart (if null then 0 else 16) 0) (sumH null) (if null then [] else List.replicate 16 1#8)
theorem test_wit_sum : (∀ e ∈ [(true, 0), (false, 0), (false, 4)], carS.accepts 0 0x10 0 (sumFr e.1 e.2) = true ∧ carS.inTurn (sumFr e.1 e.2)) ∧
    (∀ x ∈ carS.caravan.tx, x.port ≤ 16) ∧ (∀ n, (carS.collect (sumFr n 0)).2 = some [sumFr n 0]) ∧ (carS.collect (sumFr false 4)).2 = none ∧
    shNULL (sumFr true 0).sub = true ∧ shNULL (sumFr false 0).sub = false := by
  have ht : carS.caravan.rx = [] ∧ carS.caravan.tx = [] ∧ carS.caravan.partials = [] := by decide +kernel
  have hb : ∀ e ∈ [(true, 0), (false, 0), (false, 4)], (hd 1 0x10 0 0 0 e.2 (if e.1 then 0 else 16) 0) < 2 ^ 224 ∧
      nfld (hd 1 0x10 0 0 0 e.2 (if e.1 then 0 else 16) 0) 96 24 = 0 ∧
      nfld (hd 1 0x10 0 0 0 e.2 (if e.1 then 0 else 16) 0) 120 4 = 0 ∧ nfld (hd 1 0x10 0 0 0 e.2 (if e.1 then 0 else 16) 0) 124 4 = e.2 ∧
      toOk carS 0 0x10 0 (hd 1 0x10 0 0 0 e.2 (if e.1 then 0 else 16) 0) (sumH e.1) (if e.1 then 0 else 16) = true := by decide +kernel
  have hp : ∀ e ∈ [(true, 0), (false, 0), (false, 4)], (sumFr e.1 e.2).part = 0 ∧ (sumFr e.1 e.2).npart = e.2 := fun e he =>
    ⟨(fr_nfld _ _ _ (hb e he).1 120 4 (by decide)).trans (hb e he).2.2.1, (fr_nfld _ _ _ (hb e he).1 124 4 (by decide)).trans (hb e he).2.2.2.1⟩
  refine ⟨fun e he => ⟨accepts_fr _ _ _ _ _ _ _ _ (by cases e.1 <;> rfl) (hb e he).2.2.2.2, inTurn_first _ _ _ _ (hb e he).1 ht.1 (hb e he).2.1 ?_⟩, ?_, fun n => ?_, ?_, ?_, ?_⟩
  · rw [ht.1, ht.2.1]; decide
  · rw [ht.2.1]; intro x hx; cases hx
  · exact collect_one _ _ ht.2.2 (hp (n, 0) (by cases n <;> decide)).1 (hp (n, 0) (by cases n <;> decide)).2
  · exact collect_none _ _ ht.2.2 (hp (false, 4) (by decide)).1 (by rw [(hp (false, 4) (by decide)).2]; decide)
  · decide +kernel
  · decide +kernel
/-! Witnesses: transfers. -/

/-- PUT into crate 16, and FETCH of crate 16 and of crate 18, which awaits rebuild. -/
def putFr : Frame := fr (hd 2 0x21 0 0 0 0 3 0) (sub [(0, 16), (32, 64)]) [1, 2, 3]
def fetchFr (n : Nat) : Frame := fr (hd 2 0x22 0 0 0 0 0 0) (sub [(32, n)])
theorem test_wit_put_fetch : carS.accepts 0 0x21 0 putFr = true ∧ carS.inTurn putFr ∧ (∀ n ∈ [16, 18], carS.accepts 0 0x22 0 (fetchFr n) = true ∧ carS.inTurn (fetchFr n)) ∧
    carS.caravan.tx = [] ∧ bitAt putFr.sub 48 = false ∧ fld putFr.sub 0 32 = 16 ∧ fld putFr.sub 32 16 + putFr.data.length ≤ 65536 ∧
    meTier (carS.entry 0 16) = 2 ∧ carS.crateRetired 0 16 = false ∧
    (∀ n ∈ [16, 18], fld (fetchFr n).sub 0 8 = 0 ∧ fld (fetchFr n).sub 32 32 = n) ∧ hoff.repairs = [] ∧
    carS.placeBad (meplace (carS.entry 0 16)) 0 2048 = false ∧ carS.crateRetired 0 18 = true := by
  have ht : carS.caravan.rx = [] ∧ carS.caravan.tx = [] := by decide +kernel
  have hl : carS.caravan.tx.length + carS.caravan.rx.length < 16384 := by rw [ht.1, ht.2]; decide
  have hb : toOk carS 0 0x21 0 (hd 2 0x21 0 0 0 0 3 0) (sub [(0, 16), (32, 64)]) 3 = true ∧
      ∀ n ∈ [16, 18], toOk carS 0 0x22 0 (hd 2 0x22 0 0 0 0 0 0) (sub [(32, n)]) 0 = true := by decide +kernel
  refine ⟨accepts_fr _ _ _ _ _ _ _ 3 rfl hb.1, inTurn_first _ _ _ _ (by decide) ht.1 (by decide) hl,
    fun n hn => ⟨accepts_fr _ _ _ _ _ _ _ 0 rfl (hb.2 n hn), inTurn_first _ _ _ _ (by decide) ht.1 (by decide) hl⟩, ht.2, ?_⟩
  refine ⟨?_, ?_, ?_, ?_, ?_, ?_, ?_, ?_, ?_⟩ <;> decide +kernel

/-- The last of the sixteen frames of a crate that a repair has asked module 3 for. -/
def piece (n : Nat) : Frame := fr (hd 2 0x23 0 n n 15 4096 9) 0 (List.replicate 4096 1#8)
def rep : StepRun := { oneVar default with repairs := [⟨0, 17, some 0, 1⟩] }
def dataS : State := { car (carMapped (stepping rep)) with retired := [.channel 5 3], caravan := { (car ctx0).caravan with
  fetches := [⟨9, 0, .repair 17⟩], rx := [⟨0, 3, 2, 15, 0⟩], partials := [⟨3, 9, 0x23, (List.range 15).map fun i => (i, piece i)⟩] } }
theorem piece_fld (n lo len : Nat) (h : n < 16) (hl : lo + len ≤ 224) : fld (piece n).hdr lo len = nfld (hd 2 0x23 0 n n 15 4096 9) lo len := by
  refine fr_nfld _ _ _ ?_ lo len hl
  revert n; decide +kernel
theorem inTurn_next (s : State) (f : Frame) (n t : Nat) (hr : s.caravan.rx = [⟨0, 3, 2, n, t⟩]) (hj : f.job = 0) (hs : f.src = 3) (hc : f.cls = 2)
    (hq : f.seq = n) : s.inTurn f := by
  unfold State.inTurn
  simp [hr, hj, hs, hc, hq]
theorem collect_last (s : State) (f : Frame) (fs : Nat → Frame) (hp : s.caravan.partials = [⟨f.src, f.xid, f.type_, (List.range 15).map fun i => (i, fs i)⟩])
    (h0 : f.part = 15) (h1 : f.npart = 15) : (s.collect f).2 = some ((List.range 15).map fs ++ [f]) := by
  simp only [State.collect, hp, h0, h1, List.find?_cons, beq_self_eq_true, Bool.and_self]
  rfl
theorem piece_is (n : Nat) (h : n < 16) : (piece n).xid = 9 ∧ (piece n).src = 3 ∧ (piece n).type_ = 0x23 ∧ (piece n).job = 0 ∧ (piece n).cls = 2 ∧
    (piece n).seq = n ∧ (piece n).part = n ∧ (piece n).npart = 15 := by
  have e (lo len) (hl : lo + len ≤ 224) := piece_fld n lo len h hl
  have hb : ∀ n < 16, nfld (hd 2 0x23 0 n n 15 4096 9) 160 32 = 9 ∧ nfld (hd 2 0x23 0 n n 15 4096 9) 32 17 = 3 ∧ nfld (hd 2 0x23 0 n n 15 4096 9) 8 8 = 0x23 ∧
      nfld (hd 2 0x23 0 n n 15 4096 9) 16 16 = 0 ∧ nfld (hd 2 0x23 0 n n 15 4096 9) 4 2 = 2 ∧ nfld (hd 2 0x23 0 n n 15 4096 9) 96 24 = n ∧
      nfld (hd 2 0x23 0 n n 15 4096 9) 120 4 = n ∧ nfld (hd 2 0x23 0 n n 15 4096 9) 124 4 = 15 := by decide +kernel
  obtain ⟨h1, h2, h3, h4, h5, h6, h7, h8⟩ := hb n h
  exact ⟨(e 160 32 (by decide)).trans h1, (e 32 17 (by decide)).trans h2, (e 8 8 (by decide)).trans h3, (e 16 16 (by decide)).trans h4,
    (e 4 2 (by decide)).trans h5, (e 96 24 (by decide)).trans h6, (e 120 4 (by decide)).trans h7, (e 124 4 (by decide)).trans h8⟩
theorem dataS_turn (f : Frame) (hj : f.job = 0) (hs : f.src = 3) (hc : f.cls = 2) (hq : f.seq = 15) : dataS.inTurn f :=
  inTurn_next _ _ _ _ rfl hj hs hc hq
theorem dataS_collect (f : Frame) (hx : f.xid = 9) (hs : f.src = 3) (ht : f.type_ = 0x23) (hp : f.part = 15) (hn : f.npart = 15) :
    (dataS.collect f).2 = some ((List.range 15).map piece ++ [f]) :=
  collect_last _ _ piece (by rw [hx, hs, ht]; rfl) hp hn
theorem dataS_fetch (x : Nat) (h : x = 9) : dataS.caravan.fetches.find? (fun e => e.xid == x) = some ⟨9, 0, .repair 17⟩ := by subst h; rfl
theorem pieces_length : (dataOf ((List.range 15).map piece ++ [piece 15])).length = 65536 := by
  have hl : ∀ n, (piece n).data.length = 4096 := fun n => List.length_replicate
  rw [dataOf, List.length_flatMap, List.map_append, List.map_map, show ((fun x : Frame => x.data.length) ∘ piece) = fun _ => 4096 from funext hl,
    List.map_singleton, hl]
  rfl
theorem test_wit_data : ∃ f, dataS.accepts 0 0x23 0 f = true ∧ dataS.inTurn f ∧ (∀ x ∈ dataS.caravan.tx, x.port ≤ 16) ∧
    (∃ fs, (dataS.collect f).2 = some fs ∧ (dataOf fs).length = 65536) ∧ bitAt f.sub 8 = false ∧ fld f.sub 0 8 = dataS.tag 0 ∧
    dataS.caravan.fetches.find? (fun e => e.xid == f.xid) = some ⟨9, 0, .repair 17⟩ ∧
    (dataS.ctx 0).step = some rep ∧ (∃ r ∈ rep.repairs, r.crate = 17 ∧ r.peer ≠ none) ∧ 
    ((if (dataS.ctx 0).awaiting.contains 17 then dataS else
      dataS.modCtx 0 fun x => { x with awaiting := x.awaiting ++ [17] }).rehome 0 17).2 = true := by
  obtain ⟨hx, hs, ht, hj, hc, hq, hp, hn⟩ := piece_is 15 (by decide)
  have ha : dataS.accepts 0 0x23 0 (piece 15) = true := accepts_fr _ _ _ _ _ _ _ 4096 List.length_replicate (by decide +kernel)
  have hl := pieces_length
  have hb : bitAt (piece 15).sub 8 = false ∧ fld (piece 15).sub 0 8 = dataS.tag 0 := ⟨by decide +kernel, by decide +kernel⟩
  generalize piece 15 = f at hx hs ht hj hc hq hp hn ha hl hb
  exact ⟨f, ha, dataS_turn f hj hs hc hq, by decide +kernel, ⟨_, dataS_collect f hx hs ht hp hn, hl⟩, hb.1, hb.2, dataS_fetch _ hx,
    by decide +kernel, ⟨_, List.mem_singleton.mpr rfl, rfl, by decide⟩,
    rehome_some _ _ _ (by decide +kernel) (by decide +kernel) (freeStock_free _ 40 (by decide +kernel) (by decide +kernel) (by decide +kernel) (by decide +kernel))⟩

/-- A piece of handoff 0 of channel 0, expected, and one for a micro-batch that the schedule has not. -/
def handFr (mb : Nat) : Frame := fr (hd 2 0x20 0 0 0 0 4096 0) (sub [(64, mb), (96, 1)]) (List.replicate 4096 1#8)
theorem test_wit_handoff_in : (∀ mb ∈ [0, 1], carS.accepts 0 0x20 0 (handFr mb) = true ∧ carS.inTurn (handFr mb)) ∧ (carS.ctx 0).step = some hoff ∧
    (hoff.prog.chans.getD 0 default).peer = (handFr 0).src ∧ (handFr 0).data.length = 4096 ∧ 0 < hoff.prog.chans.length ∧
    (hoff.prog.chans.getD 0 default).recv = true ∧ hoff.prog.slotOfHandoff 0 0 = some ⟨0, 0, 0, 0, 255⟩ ∧
    (∀ mb ∈ [0, 1], fld (handFr mb).sub 64 16 = mb ∧ fld (handFr mb).sub 0 64 = 0 ∧ fld (handFr mb).sub 80 16 = 0) ∧ carS.tag 0 = 0 ∧
    0 < (hoff.prog.chans.getD 0 default).slotc ∧ (hoff.chan 0).released = 0 ∧ 0 < (hoff.prog.chans.getD 0 default).depth ∧
    hoff.handoff? 0 0 = none := by
  have ht : carS.caravan.rx = [] ∧ carS.caravan.tx = [] := by decide +kernel
  have hl : carS.caravan.tx.length + carS.caravan.rx.length < 16384 := by rw [ht.1, ht.2]; decide
  have hb : ∀ mb ∈ [0, 1], toOk carS 0 0x20 0 (hd 2 0x20 0 0 0 0 4096 0) (sub [(64, mb), (96, 1)]) 4096 = true := by decide +kernel
  refine ⟨fun mb hm => ⟨accepts_fr _ _ _ _ _ _ _ 4096 List.length_replicate (hb mb hm), inTurn_first _ _ _ _ (by decide) ht.1 (by decide) hl⟩,
    by decide +kernel, ?_, List.length_replicate, ?_⟩
  · exact ((fr_nfld _ _ _ (by decide) 32 17 (by decide)).trans (by decide : nfld (hd 2 0x20 0 0 0 0 4096 0) 32 17 = 3)).symm
  refine ⟨?_, ?_, ?_, ?_, ?_, ?_, ?_, ?_, ?_⟩ <;> decide +kernel
/-- The handoff's slot has ended. -/
def endedS : State := car (carMapped (stepping { hoff with handoffs := [⟨0, 0, [], [], [], false, true⟩] }))
theorem test_wit_handoff_ended : ((endedS.ctx 0).step.bind fun st => st.handoff? 0 0) = some ⟨0, 0, [], [], [], false, true⟩ ∧
    endedS.accepts 0 0x20 0 (handFr 0) = true := by
  refine ⟨by decide +kernel, ?_⟩
  exact accepts_fr _ _ _ _ _ _ _ 4096 List.length_replicate (by decide +kernel)
/-! Witnesses: flows, peers and ports. -/

def cv (f : Caravan → Caravan) (s : State) : State := s.modCaravan f
def pst (n lanes : Nat) (s : State) : State := put [(CARAVAN_PORT_STATUS 0, n + (lanes <<< 4))] s
/-- HELLO from a port of a module with a serial number, of this product's part number. -/
def hel (m ser : Nat) : W256 := sub [(0, 0xA640), (16, m), (96, ser)]
def lone : State := pst 1 4 (cv (fun v => { v with peers := [] }) (car ctx0))
def heard : State := pst 1 4 (car ctx0)
def helFr (ser : Nat) : Frame := fr (plain 1 0) (hel 3 ser)
theorem test_wit_hello : lone.ready = true ∧ lone.switched = false ∧ lone.portState 0 = 1 ∧ lone.regFld (CARAVAN_PORT_STATUS 0) 4 4 ≠ 0 ∧
    heard.ready = true ∧ heard.portState 0 = 1 ∧ heard.regFld (CARAVAN_PORT_STATUS 0) 4 4 ≠ 0 ∧ lone.caravan.seen = [] ∧ heard.caravan.seen = [] ∧
    (∀ ser ∈ [7, 8], (helFr ser).type_ = 1 ∧ lone.frameGood (helFr ser) = true ∧ heard.frameGood (helFr ser) = true) ∧
    lone.helloGood (hel 3 7) = true ∧ heard.helloGood (hel 0 8) = false := by
  have hb : plain 1 0 < 2 ^ 224 ∧ nfld (plain 1 0) 8 8 = 1 ∧ (∀ ser ∈ [7, 8], formOk (plain 1 0) (hel 3 ser) 0 = true) ∧
    (BitVec.ofNat 3 (State.reset.pcp (nfld (plain 1 0) 4 2))).toNat = lone.pcp (nfld (plain 1 0) 4 2) ∧
    (BitVec.ofNat 3 (State.reset.pcp (nfld (plain 1 0) 4 2))).toNat = heard.pcp (nfld (plain 1 0) 4 2) := by decide +kernel
  refine ⟨by decide +kernel, by decide +kernel, by decide +kernel, by decide +kernel, by decide +kernel, by decide +kernel, by decide +kernel, by decide +kernel,
    by decide +kernel, fun ser h => ⟨(fr_nfld _ _ _ hb.1 8 8 (by decide)).trans hb.2.1, fr_good _ _ _ _ (hb.2.2.1 ser h) hb.2.2.2.1,
      fr_good _ _ _ _ (hb.2.2.1 ser h) hb.2.2.2.2⟩, by decide +kernel, by decide +kernel⟩

/-- A frame of this module's bulk flow to module 3, and the flow. -/
def bul (seq : Nat) (xid : Nat := 5) : Frame := fr (1 + (2 <<< 4) + (0x23 <<< 8) + (3 <<< 64) + (seq <<< 96) + (xid <<< 160)) 0
def flow (tries : Nat) (un wa : List Frame) : TxFlow := ⟨0, 3, 2, 0, 6, un, wa, tries⟩
def sending : State := cv (fun v => { v with tx := [flow 0 [bul 0, bul 1, bul 2] [bul 3]] }) (car ctx0)
/-- ACK of transfer 9, and of the flow's frames before 2. -/
def ackX : Frame := fr (hd 0 2 0 0 0 0 0 9) 0
def ackF : Frame := fr (plain 2 0) (sub [(0, 1), (4, 2), (8, 2)])
theorem test_wit_ack : sending.accepts 0 2 0 ackX = true ∧ bitAt ackX.sub 0 = false ∧ ackX.xid = 9 ∧ sending.accepts 0 2 0 ackF = true ∧
    bitAt ackF.sub 0 = true ∧ bitAt ackF.sub 32 = false ∧ sending.txFlow ackF.job ackF.src (fld ackF.sub 4 2) = some (flow 0 [bul 0, bul 1, bul 2] [bul 3]) ∧
    (fld ackF.sub 8 24 + 2 ^ 24 - (bul 0).seq) % 2 ^ 24 ≤ 3 := by
  have hx : ackX.xid = 9 := (fr_nfld _ _ _ (by decide) 160 32 (by decide)).trans (by decide)
  have hj : ackF.job = 0 := (fr_nfld _ _ _ (by decide) 16 16 (by decide)).trans (by decide)
  have hs : ackF.src = 3 := (fr_nfld _ _ _ (by decide) 32 17 (by decide)).trans (by decide)
  have hq : (bul 0).seq = 0 := (fr_nfld _ _ _ (by decide) 96 24 (by decide)).trans (by decide)
  refine ⟨accepts_fr _ _ _ _ _ _ _ 0 rfl (by decide +kernel), by decide +kernel, hx, accepts_fr _ _ _ _ _ _ _ 0 rfl (by decide +kernel), by decide +kernel,
    by decide +kernel, ?_, ?_⟩
  · rw [hj, hs]; rfl
  · rw [hq]; decide +kernel

/-- A class 0 transfer of one type, and a flow's first frame, tried so often. -/
def exf (tries : Nat) : Express := ⟨9, fr (1 + (4 <<< 8) + (3 <<< 64) + (9 <<< 160)) 0, 0, tries⟩
def expS (tries : Nat) : State := cv (fun v => { v with express := [exf tries] }) (car ctx0)
def bulS (tries : Nat) : State := cv (fun v => { v with tx := [flow tries [bul 1] []], rx := [⟨0, 3, 2, 7, 0⟩] }) (car ctx0)
theorem test_wit_retry : (∀ n, (expS n).caravan.express.find? (fun e => e.xid == 9) = some (exf n)) ∧ (∀ n, (exf n).frame.type_ ≤ 6) ∧
    (exf 0).tries < (expS 0).retryCount ∧ (expS 9).retryCount ≤ (exf 9).tries ∧
    (∀ n, (bulS n).caravan.express.find? (fun e => e.xid == 5) = none) ∧
    (∀ n, (bulS n).caravan.tx.findSome? (fun x => match x.unacked with | f :: _ => if f.xid = 5 then some (x, f) else none | [] => none) =
      some (flow n [bul 1] [], bul 1)) ∧ (bul 1).type_ = 0x23 ∧
    (flow 0 [bul 1] []).tries < (bulS 0).retryCount ∧ (bulS 9).retryCount ≤ (flow 9 [bul 1] []).tries := by
  have hx : (bul 1).xid = 5 := (fr_nfld _ _ _ (by decide) 160 32 (by decide)).trans (by decide)
  have he : (car ctx0).caravan.express = [] := by decide +kernel
  refine ⟨fun _ => rfl, fun n => ?_, by decide +kernel, by decide +kernel, fun n => ?_, fun n => ?_, ?_, by decide +kernel, by decide +kernel⟩
  · have : (exf n).frame.type_ = 4 := (fr_nfld _ _ _ (by decide) 8 8 (by decide)).trans (by decide)
    omega
  · show List.find? _ (car ctx0).caravan.express = none
    rw [he]; rfl
  · show List.findSome? _ [flow n [bul 1] []] = _
    simp [flow, hx]
  · exact (fr_nfld _ _ _ (by decide) 8 8 (by decide)).trans (by decide)
def paused : State := put [(CARAVAN_PORT_CONTROL 0, 257)] (car ctx0)
theorem test_wit_pause : paused.portUp 0 = true ∧ paused.regBit (CARAVAN_PORT_CONTROL 0) 8 = true ∧ bitAt (0xFF#8) (paused.pcp 1) = true ∧
    (pst 4 0 (car ctx0)).portState 0 = 4 := by decide +kernel

/-- Port 0 in its states: down with a module that fits or does not, training, UP with flows, retraining. -/
def osf (w : Nat) (ok : Bool) (s : State) : State := cv (fun v => { v with osfp := [(0, some (w, ok))] }) (put [(CARAVAN_PORT_CONTROL 0, 0x30)] s)
def up0 (n lanes : Nat) : State := put [(CARAVAN_PORT_CONTROL 0, 0x31)] (pst n lanes (car ctx0))
def fits : State := osf 20 true (pst 0 0 (car ctx0))
def unfit : State := put [(CARAVAN_PORT_STATUS 0, 1 <<< 16)] (osf 40 true (car ctx0))
theorem test_wit_port_open : fits.portOpen .steward 0 = true ∧ fits.portState 0 = 0 ∧ fits.moduleIdValid = true ∧ fits.osfpFit 0 = true ∧
    unfit.portOpen .steward 0 = true ∧ unfit.portState 0 = 0 ∧ unfit.moduleIdValid = true ∧ unfit.osfpFit 0 = false ∧
    unfit.regBit (CARAVAN_PORT_STATUS 0) 16 = true ∧ (up0 2 8).portOpen .steward 0 = true ∧ (up0 2 8).portState 0 ≠ 0 := by decide +kernel
theorem test_wit_port_lock : (up0 1 8).portState 0 = 1 ∧ (∀ lanes ∈ [1, 2, 4, 8], lanes ≤ (up0 1 8).widest 0) ∧ (up0 1 8).helloGood (hel 3 7) = true ∧
    (up0 1 8).switched = false ∧ (up0 3 8).portState 0 = 3 ∧ (up0 3 8).widest 0 = 8 ∧ (up0 1 0).portState 0 = 1 ∧
    (up0 1 0).regFld (CARAVAN_PORT_STATUS 0) 4 4 = 0 ∧ (up0 2 8).portState 0 = 2 := by decide +kernel
/-- Seven lanes of the port are lost already. -/
def worn1 : State := put [(CARAVAN_PORT_CONTROL 0, 0x31), (CARAVAN_PORT_STATUS 0, 2 + (0x7F <<< 8))] (car ctx0)
theorem test_wit_port_lanes : worn1.portState 0 = 2 ∧ (after (.laneLoss 0 7) worn1).widest 0 = 0 ∧ (after (.laneLoss 0 0) (up0 2 8)).widest 0 ≠ 0 ∧
    0 < ctx0.ports ∧ spGet (fun _ => none) ctx0.caravan.osfp 0 = none := by decide +kernel
/-- An ACK of more frames than wait; a port of the switched topology; a port without pause, and one that is not UP. -/
def ackFar : Frame := fr (plain 2 0) (sub [(0, 1), (4, 2), (8, 9)])
def switchedS : State := put [(CARAVAN_TOPO, 1)] (up0 1 8)
theorem test_wit_ports_else : 3 < (fld (sub [(0, 1), (4, 2), (8, 9)]) 8 24 + 2 ^ 24 - 0) % 2 ^ 24 ∧ switchedS.switched = true ∧
    switchedS.portState 0 = 1 ∧ (∀ lanes ∈ [1, 2, 4, 8], lanes ≤ switchedS.widest 0) ∧
    (car ctx0).regBit (CARAVAN_PORT_CONTROL 0) 8 = false ∧ (up0 1 8).portUp 0 = false ∧ (up0 1 8).portState 0 ≠ 4 := by decide +kernel
theorem test_wit_ack_far : sending.accepts 0 2 0 ackFar = true := accepts_fr _ _ _ _ _ _ _ 0 rfl (by decide +kernel)
/-! Witnesses: power, clocks and cooling. -/

def pwr (f : Power → Power) (s : State) : State := { s with power := f s.power }
def inputS (n : Nat) (s : State) : State := s.setInput n
/-- At 400 V and above with the loop closed; preS-charging; running, with the coolant out of its limits for 1,000 samples. -/
def auxS : State := inputS 1 (put [(POWER_STATUS, 8)] State.reset)
def preS : State := inputS 2 (put [(MOD_BRINGUP_STATUS, 4)] ctx0)
def dry : State := pwr (fun p => { p with coolBad := 1000 }) ctx0
def bt15 (s : State) : State := { s with boot := { s.boot with off := true } }
def inOf (s : State) : Nat := s.regFld POWER_STATUS 0 3
theorem test_wit_input : inOf (inputS 0 State.reset) = 0 ∧ inOf auxS = 1 ∧ auxS.power.preFail = false ∧ auxS.regBit POWER_STATUS 3 = true ∧
    2 ≤ inOf ctx0 ∧ inOf ctx0 = 3 ∧ inOf preS = 2 ∧ preS.boot.off = false ∧ preS.bringup ≠ 5 ∧ preS.power.coolBad < 1000 ∧ preS.power.oscA = true ∧
    ctx0.power.offForce = false ∧ 1000 ≤ dry.power.coolBad ∧ dry.power.offForce = false ∧ inOf dry = 3 ∧
    ((7000#14).toNat, (8800#14).toNat, (3999#14).toNat, (5999#14).toNat, (9001#14).toNat) = (7000, 8800, 3999, 5999, 9001) := by decide +kernel

/-- Region 0 with failed phases in group 0, and regions 0 and 2 with ramps that wait or run. -/
def phs (n : Nat) : State := put [(REGION_PHASE_LO 0, n)] ctx0
def rmp (q : List RampWait) (on : List (Nat × Bool)) (s : State) : State := pwr (fun p => { p with rampQ := q, ramps := on }) s
def dozing : State := ctx0.setPower 0 2
def leaving : State := ctx0.setPower 2 1
theorem test_wit_region_power : ctx0.powerOf 0 ≤ 1 ∧ ctx0.isDark 0 = false ∧ bitAt ((phs 2).phasesOff 0) 0 = false ∧ (phs 0).groupFailed 0 0 = 0 ∧
    (phs 2).groupFailed 0 0 = 1 ∧ (phs 6).groupFailed 0 0 = 2 ∧ bitAt ((phs 6).phasesOff 0) 0 = false ∧ (phs 6).powerOf 0 ≤ 1 := by decide +kernel
theorem test_wit_ramp_request : dozing.rampWanted 0 true = true ∧ leaving.rampWanted 2 false = true ∧ dozing.power.ramps = [] ∧ dozing.power.rampQ = [] ∧
    leaving.power.ramps = [] ∧ leaving.power.rampQ = [] := by decide +kernel
theorem test_wit_ramp_grant : (∀ e ∈ [(rmp [⟨0, true, true, true⟩] [] dozing, (⟨0, true, true, true⟩ : RampWait)), (rmp [⟨2, false, false, false⟩] [] leaving, ⟨2, false, false, false⟩)],
      e.1.power.rampQ = [e.2] ∧ e.1.rampWanted e.2.region e.2.up = true ∧ e.1.power.ramps.length < 2 ∧ (e.2.late = true ∨ e.2.deferred = false)) ∧
    (rmp [⟨0, true, true, false⟩] [(5, true), (6, true)] dozing).rampWanted 0 true = true ∧
    ((ctx0.setPower 2 2).setPower 0 2).loadedBeside 0 = false := by decide +kernel
theorem test_wit_ramp_complete : (rmp [] [(0, true)] dozing).power.ramps.find? (fun e => e.1 == 0) = some (0, true) ∧
    (rmp [] [(2, false)] leaving).power.ramps.find? (fun e => e.1 == 2) = some (2, false) := by decide +kernel

/-- Nine samples over the cap, a cap of 20 kW, a reading of each kind, and one oscillator. -/
def capped : State := pwr (fun p => { p with samples := List.replicate 9 21000 }) (put [(POWER_CAP, 20000)] ctx0)
theorem test_wit_power_sample : inOf ctx0 = 3 ∧ ctx0.power.samples.length < 9 ∧ 4 < ctx0.ceiling ∧ 11 * ctx0.effCap < 10 * 40000 ∧
    10 * 300 ≤ 11 * ctx0.effCap ∧ inOf capped = 3 ∧ 9 ≤ capped.power.samples.length ∧ 10 * 21000 ≤ 11 * capped.effCap ∧
    10 * capped.effCap < ((21000 :: capped.power.samples).take 10).foldl (· + ·) 0 ∧ capped.power.stepWait ≤ 1 ∧ 4 < capped.ceiling := by decide +kernel
theorem test_wit_thermal_sample : ctx0.powerOf 0 ≠ 3 ∧ (∀ t ∈ ([50, 90] : List Nat), t < 110) ∧ (ctx0.region 0).thermal ≤ 16 ∧ ctx0.power.offForce = false ∧
    ctx0.power.oscA = true ∧ ctx0.power.oscB = true ∧ (pwr (fun p => { p with oscB := false }) ctx0).power.oscA = true ∧
    (pwr (fun p => { p with oscB := false }) ctx0).power.oscB = false := by decide +kernel
/-- R522: at 32 kW of cap a sample of 35.2 kW leaves the ceiling and one above it lowers it by four steps. -/
theorem test_fast_cap : (after (.powerSample 35200 8000) (put [(POWER_CAP, 32000)] ctx0)).ceiling = ctx0.ceiling ∧
    (after (.powerSample 35201 8000) (put [(POWER_CAP, 32000)] ctx0)).ceiling = ctx0.ceiling - 4 := by decide +kernel
/-- A foreman's region that no context holds keeps its voltage at step 4 (R65), and a module that POWER_OFF switched off pre-charges. -/
theorem test_wit_step_held : ctx0.powerOf 0 ≤ 1 ∧ ctx0.vlogHeld 0 = false ∧ ({ ctx0 with foreman := { ctx0.foreman with active := true, takeover := some 2 } } : State).vlogHeld 2 = true ∧
    (bt15 preS).boot.off = true ∧ inOf (bt15 preS) = 2 ∧ (∀ q ∈ dozing.power.rampQ, ¬ (q.region = 0 ∧ q.up = true)) ∧
    dozing.power.ramps.contains (0, true) = false ∧ ctx0.phasesOff 0 = 0#64 := by decide +kernel
/-! Witnesses: bring-up and lifecycle. -/

def fwi (k : Fin 4) (svn : Nat) (sig : Bool) (v : Nat := 1) : FwImage := ⟨k, v, svn, 0, sig⟩
def bt (f : Boot → Boot) (s : State) : State := { s with boot := f s.boot }
def fws (l : List FwSlots) (s : State) : State := bt (fun b => { b with fw := l.zipIdx.map fun e => (e.2, e.1) }) s
def okS (k : Fin 4) : FwSlots := ⟨some (fwi k 1 true), some (fwi k 2 true 2), true, none⟩
def badS (k : Fin 4) : FwSlots := ⟨none, some (fwi k 2 false 2), true, none⟩
def inv1 : Inventory := Inventory.fresh 4
def bring (n : Nat) (s : State) : State := put [(MOD_BRINGUP_STATUS, n)] s
def fresh : State := bring 1 (bt (fun b => { b with booted := false, invA := inv1 }) ctx0)
def badCrc (i : Inventory) : Inventory := { i with crc := i.crc ^^^ 1#32 }
def noInv (s : State) : State := bt (fun b => { b with invA := badCrc b.invA, invB := badCrc b.invB }) s
/-- Whether a slot of a component holds a valid image. -/
def boots (s : State) (k : Nat) : Bool := [(s.fwSlots k).a, (s.fwSlots k).b].any fun i => i.any s.imageValid
theorem test_wit_boot : ∀ e ∈ [(fws [badS 0, okS 1, okS 2, okS 3] fresh, false, true), (fws [okS 0, okS 1, okS 2, okS 3] fresh, true, true),
      (fws [okS 0, okS 1, badS 2, okS 3] fresh, true, false), (noInv (fws [okS 0, okS 1, okS 2, okS 3] fresh), true, true)],
    inOf e.1 ≠ 0 ∧ e.1.bringup = 1 ∧ e.1.boot.booted = false ∧ (e.1.fwSlots 0).running = none ∧ boots e.1 0 = e.2.1 ∧
    ([1, 2, 3].all fun k => boots e.1 k) = e.2.2 := by decide +kernel
theorem test_wit_inventory : (fws [okS 0, okS 1, okS 2, okS 3] fresh).latestInv.map (·.1) = some inv1 ∧
    (noInv (fws [okS 0, okS 1, okS 2, okS 3] fresh)).latestInv = none := by decide +kernel
/-- The CRC-32 of a fresh region record's 60 bytes (R544, R12). -/
theorem test_record_crc : InvRegion.reset.good = true := by
  have h : leBytes 60 InvRegion.reset.bits = (leBytes 60 InvRegion.reset.bits).take 30 ++ (leBytes 60 InvRegion.reset.bits).drop 30 :=
    (List.take_append_drop 30 _).symm
  have a : crcLsb 32 0xEDB88320#32 0xFFFFFFFF#32 ((leBytes 60 InvRegion.reset.bits).take 30) = 3870739731#32 := by decide +kernel
  have b : crcLsb 32 0xEDB88320#32 3870739731#32 ((leBytes 60 InvRegion.reset.bits).drop 30) = 0xFBAC2699#32 := by decide +kernel
  simp only [InvRegion.good, crc32]
  rw [h, show ∀ x y : List Byte, crcLsb 32 0xEDB88320#32 0xFFFFFFFF#32 (x ++ y) = crcLsb 32 0xEDB88320#32 (crcLsb 32 0xEDB88320#32 0xFFFFFFFF#32 x) y from
    fun x y => List.foldl_append, a, b]
  decide

/-- Repair maps: no dead core, one in a row, two in a row with its skip column among them and not, and two such rows (R542). -/
def noSkip : List Nat := List.replicate 11 12
theorem test_repair : decideRepair ⟨10, noSkip, []⟩ = some ⟨10, noSkip, []⟩ ∧ (decideRepair ⟨10, noSkip, [17]⟩).map (·.skipCol.getD 1 12) = some 4 ∧
    (decideRepair ⟨10, noSkip.set 1 7, [17, 18, 20]⟩).map (fun m => (m.skipRow, m.skipCol.getD 1 12)) = some (1, 7) ∧
    (decideRepair ⟨10, noSkip.set 1 2, [17, 18, 20]⟩).map (fun m => (m.skipRow, m.skipCol.getD 1 12)) = some (1, 4) ∧
    decideRepair ⟨10, noSkip, [3, 5, 17, 18]⟩ = none := by decide +kernel

/-- Before wave 0, between waves, in a wave, after the last one, and with the inventory to be written. -/
def booted1 : State := bring 1 (bt (fun b => { b with booted := true }) ctx0)
def between : State := bring 2 (bt (fun b => { b with booted := true, testing := [], proven := [1], tested := [1, 22, 41, 62], gained := 1 }) ctx0)
def wave (full : Bool) : State := put [(REGION_TEST 0, if full then 1 <<< 14 else 0)] (bring 2 (bt (fun b => { b with booted := true, testing := [0, 2], invDue := true }) ctx0))
def overS (wiping : Bool) (proven : List Nat) : State :=
  bring 2 (bt (fun b => { b with booted := true, testing := [], stockDone := true, proven := proven, tested := [1, 22, 41, 62, 0], gained := 0, wiping := wiping }) ctx0)
def invDue : State := bt (fun b => { b with invDue := true }) (bring 4 ctx0)
theorem test_wit_wave_start : inOf booted1 = 3 ∧ booted1.boot.booted = true ∧ booted1.bringup = 1 ∧ inOf between = 3 ∧ between.boot.booted = true ∧
    between.bringup = 2 ∧ between.boot.testing = [] ∧ between.wavesOver = false ∧ between.regFld MOD_BRINGUP_STATUS 3 4 < 12 := by decide +kernel
def res : RegionTestResult := ⟨true, false, 0, true, 1, [17], true, true, 1, [7], true, 100⟩
theorem test_wit_region_test : 0 ∈ (wave false).boot.testing ∧ (wave false).regBit (REGION_TEST 0) 14 = false ∧ (wave true).regBit (REGION_TEST 0) 14 = true ∧
    4000 < ({ res with millis := 5000 } : RegionTestResult).millis ∧ res.millis ≤ 4000 ∧ (∀ g < 8, (wave false).groupFailed 0 g ≤ 2) ∧
    (decideRepair { (wave false).repairMap 0 with dead := res.deadCores.foldl (fun d k => insertNew k d) ((wave false).region 0).dead }).isSome = true ∧
    decideRepair { (wave false).repairMap 0 with dead := [1, 2, 30, 31].foldl (fun d k => insertNew k d) ((wave false).region 0).dead } = none := by decide +kernel
theorem test_wit_finish : booted1.boot.stockDone = false ∧ ∀ e ∈ [overS false [1], overS true [1]], e.bringup = 2 ∧ e.boot.testing = [] ∧ e.wavesOver = true ∧
    e.boot.stockDone = true ∧ ([1, 22, 41, 62].filter fun r => (e.region r).proven && e.boot.tested.contains r) = [1] := by decide +kernel
theorem test_wit_finish_none : ([1, 22, 41, 62].filter fun r => ((overS true [] |>.modRegion 1 fun x => { x with proven := false }).region r).proven) = [] ∧
    (overS false [1]).boot.wiping = false ∧ (overS false [1]).boot.off = false ∧ inOf (overS false [1]) = 3 ∧ (overS true [1]).boot.wiping = true ∧
    invDue.boot.invDue = true ∧ invDue.bringup = 4 := by decide +kernel

/-- A module with no context and one live nonce, busy or not. -/
def idle0 : State := bt (fun b => { b with nonces := [5], busy := false }) base
def busy0 : State := bt (fun b => { b with busy := true }) idle0
def ok0 (s : State) (src : MgmtPort) (k : ReqKind) : Bool := s.hears src k == some true && s.carries src k && (src != .mg || s.mgServes)
theorem test_wit_lifecycle : ok0 idle0 .smb .update = true ∧ ok0 idle0 .mg .other = true ∧ idle0.boot.busy = false ∧ idle0.ready = true ∧ idle0.contexts = [] ∧
    5#64 ∈ idle0.boot.nonces ∧ mayTransit (idle0.regFld MOD_LIFECYCLE 0 3) .service .owner = true ∧ ok0 busy0 .mg .other = true ∧
    ok0 busy0 .smb .update = true ∧ busy0.boot.busy = true ∧ (idle0.setInput 0).hears .smb .other = none ∧ (bring 5 idle0).hears .smb .other = some false ∧
    ok0 ctx0 .smb .update = true ∧ ctx0.boot.busy = false ∧ ctx0.contexts ≠ [] := by decide +kernel
theorem test_wit_firmware : idle0.imageValid (fwi 0 1 true) = true ∧ idle0.imageValid (fwi 1 2 false) = false ∧ idle0.power.offForce = false ∧ inOf idle0 = 3 ∧
    idle0.power.oscA = true ∧ idle0.regFld MOD_LIFECYCLE 0 3 ≠ 4 ∧ idle0.bringup ≠ 5 ∧ idle0.boot.revoked = [] ∧
    (bt (fun b => { b with revoked := [1, 2, 3] }) idle0).boot.revoked = [1, 2, 3] := by decide +kernel
/-! Witnesses: requests and sampling. -/

/-- The mailbox of H0 with a request of 8 bytes at work. -/
def mbxBell : W32 := BitVec.ofNat 32 (8 + (1 <<< 20) + (9 <<< 24))
def busyMb : State := after (.mbxDoorbell .h0 mbxBell) ctx0
theorem test_wit_mailbox : ctx0.hostOpen = true ∧ busyMb.hostOpen = true ∧ (ctx0.mail 0).busy = false ∧ (busyMb.mail 0).busy = true ∧ fld mbxBell 17 3 = 0 ∧
    fld mbxBell 20 4 = 1 ∧ fld mbxBell 0 17 = 8 ∧ fld (0#32) 0 17 = 0 := by decide +kernel
theorem test_wit_requests : ok0 ctx0 .smb .spdm = true ∧ ctx0.spdmServed .getVersion = true ∧ ctx0.spdmServed (.getMeasurements 9) = false ∧
    ok0 ctx0 .smb .monitor = true ∧ ctx0.sensor .vin ≠ none ∧ ({ ctx0 with variant := .s24c16 } : State).sensor (.stack 47) = none ∧
    ok0 { ctx0 with variant := .s24c16 } .smb .monitor = true ∧ ok0 ctx0 .mg .other = true ∧ ctx0.clientOk .owner = true ∧ ctx0.clientOk .none = false := by decide +kernel
/-- A taken descriptor that has started, and a swatch of one. -/
def begun (s : State) : State := s.modCtx 0 fun x => { x with taken := x.taken.map fun d => { d with started := true } }
def swatchS : State := (begun (took 5 [])).modCtx 0 fun x => { x with swatch := some { (default : SwatchRun) with desc := 7, phase := 2, missing := 1 } }
theorem test_wit_host_error : ctx0.ringCtx 4 = 0 ∧ ctx0.ctxState 0 ≠ 0 ∧ (∀ e ∈ [took 1 [], took 4 [], took 3 [(64, 0), (192, 16 * 65536), (256, 3)], begun (took 4 [])],
      e.named 0 4 0 = some (head e) ∧ (head e).result = none ∧ (e.ctx 0).swatch = none ∧ (e.ctx 0).secure = none) ∧
    (head (took 1 [])).opc = 1 ∧ (head (took 4 [])).opc = 4 ∧ (head (took 3 [(256, 3)])).opc = 3 ∧ (head (took 4 [])).started = false ∧
    (head (begun (took 4 []))).started = true ∧ swatchS.named 0 4 0 = some (head swatchS) ∧ (head swatchS).result = none ∧
    (swatchS.ctx 0).swatch.map (·.desc) = some 7 ∧ (head swatchS).no = 7 := by decide +kernel

/-- A core of a step that samples, with a tagged instruction, and records in its buffer. -/
def tagged0 : SampleTagged := ⟨5, 0, 1, 2, 3, 4, 0, 7, 8⟩
def smp (f : Core → Core) : State := core0 f (cellarCrate 0 (stepping { oneVar default with sample := true }))
def rec0 : W512 := BitVec.ofNat 512 (5 <<< 288)
def recS : State := put [(PERF_CTX_SAMPLE_BASE 0, 16)] (crate 16 [1] (smp fun k => { k with records := [rec0] }))
theorem test_wit_sampling : (smp id).coreCtx 0 = some 0 ∧ ((smp id).ctx 0).step.any (·.sample) = true ∧ (smp id).regBit PERF_STATUS 0 = false ∧
    ((smp id).core ((smp id).phys 0)).countdown = 0 ∧ (smp id).powerOf (regionOfPhys ((smp id).phys 0)) ≤ 1 ∧
    (let s := smp fun k => { k with tagged := [tagged0] }; (s.core (s.phys 0)).tagged[0]? = some tagged0 ∧ (s.core (s.phys 0)).records.length < 4) ∧
    (let s := smp fun k => { k with tagged := [tagged0], records := [rec0, 1, 2, 3] }; (s.core (s.phys 0)).tagged[0]? = some tagged0 ∧ 4 ≤ (s.core (s.phys 0)).records.length) ∧
    (recS.core (recS.phys 0)).records = [rec0] ∧ recS.coreCtx 0 = some 0 ∧
    meTier (recS.entry 0 ((recS.sampleCrate 0 0 + 5 % (1024 * recS.sampleC 0) / 1024) % 2 ^ 32)) = 2 ∧
    recS.crateRetired 0 ((recS.sampleCrate 0 0 + 5 % (1024 * recS.sampleC 0) / 1024) % 2 ^ 32) = false := by decide +kernel

/-! The interface of a block: no word spells a command, and the queue is taken in order. -/

theorem test_decode : decodeTableWord 32 0 = none ∧ (State.reset.withFetchWord 32 0 == State.reset) = true := by decide +kernel
theorem test_queue : (match step { State.reset with pending := [.epochStart, .boot] } with | .next t => t.pending | _ => []) = [.boot] := by decide +kernel
/-! Values that the spec works out. -/

/-- The checksums over the nine bytes of 123456789 (00_scope.md, R12). -/
theorem test_checksums : (crcMsb 16 0x1021#16 0xFFFF#16 (leBytes 9 0x393837363534333231)).toNat = 0x29B1 ∧ crc32 9 0x393837363534333231 = 0xCBF43926 := by
  decide +kernel
/-- The address of port CV5 of module 139 (R478). -/
theorem test_mac : macOf 139 5 = 0x0254570008B5#48 := by decide
/-- 0.375 × 2^-21 with exponent byte 0x6A (R171), and the seal of 1,234,567 (R348). -/
theorem test_s16 : (toS16 (decodeElem 9 0x34400000) 0x6A).1 = 12288 ∧ sealShift [1234567] 48 0 = 6 ∧
    (sealTile false 0 ⟨sumHdr 0 0xFFFF false false false 4 1 0 5 0x6A00#32, [1234567]⟩).elems = [19290] := by decide +kernel
/-- Core 23.4.7 before and after the repairs of region 23 (R47, R48), and its counter window. -/
def region23 (skip col4 : Nat) : State := put [(REGION_ROWMAP 23, skip), (REGION_COLMAP 23 4, col4)] State.reset
theorem test_region_23 : (region23 10 7).phys 2815 = 3349 ∧ (region23 4 7).phys 2815 = 3361 ∧ CORE_PMC 3349 0 = 0x010D1510 := by decide +kernel
/-- The pieces of crate 1,000,003 of a full configuration (R276). -/
theorem test_crate_pieces : crateOn 48 1000003 19 1 = true ∧ crateOn 48 1000003 34 0 = true ∧ crateOn 48 1000003 18 1 = false := by decide +kernel
/-- POWER_OFF by the steward overrides PAUSE by H0 (R470). -/
theorem test_conflict : (after (.powerOff .steward [(.h0, .pause)]) base).reg MOD_CONFLICT = 0x00010621#32 := by decide +kernel
/-- One sum, three ways: VRED gives 16,777,314 (R219). -/
def sumS : State := core0 fun k => { k with vregs := (2 * 8192, 0x4B800000#32) :: (List.range 99).map fun i => (2 * 8192 + 1 + i, 0x3F800000#32) }
theorem test_vred : ((after (.vred 0 (BitVec.ofNat 64 (0x40 + (9 <<< 8) + (4 <<< 12) + (2 <<< 16) + (100 <<< 35))) {}) sumS).core (sumS.phys 0)).sregs =
    [(4, 0x4B800031#32)] := by decide +kernel

end Sys2Proof.Tests
end

section
/-! What the foreman's reads for a STEP leave as it was, and which STEPs its check of the quotas refuses (R21, R455). -/

namespace Sys2Proof.Machine

variable {s t u : State} {c : Nat}

/-- The two states differ at most in what a read of context `c` marks: the entries of its crate map, CTX_MEM_STATUS and
CTX_TIER_ENDS (R288, R291, R307). -/
structure ReadMarksOnly (c : Nat) (s t : State) : Prop where
  cellar : t.cellar = s.cellar
  stock  : t.stock = s.stock
  reg    : ∀ a, a ≠ CTX_MEM_STATUS c → a ≠ CTX_TIER_ENDS c → t.reg a = s.reg a
  ctx    : ∃ m, t.ctx c = { s.ctx c with map := m }

namespace ReadMarksOnly

theorem refl (c : Nat) (s : State) : ReadMarksOnly c s s := ⟨rfl, rfl, fun _ _ _ => rfl, _, rfl⟩

theorem trans (a : ReadMarksOnly c s t) (b : ReadMarksOnly c t u) : ReadMarksOnly c s u := by
  obtain ⟨m, hm⟩ := a.ctx
  obtain ⟨n, hn⟩ := b.ctx
  exact ⟨b.cellar.trans a.cellar, b.stock.trans a.stock, fun r h h' => (b.reg r h h').trans (a.reg r h h'), n, by rw [hn, hm]⟩

theorem foldl {α : Type} {f : State → α → State} (h : ∀ t a, ReadMarksOnly c t (f t a)) (l : List α) (s : State) :
    ReadMarksOnly c s (l.foldl f s) := by
  induction l generalizing s with
  | nil => exact refl c s
  | cons a l ih => exact (h s a).trans (ih (f s a))

/-- The registers that a read may mark. -/
theorem setReg {a : Nat} (v : W32) (ha : a = CTX_MEM_STATUS c ∨ a = CTX_TIER_ENDS c) : ReadMarksOnly c s (s.setReg a v) where
  cellar := rfl
  stock  := rfl
  reg    := fun _ h h' => s.reg_setReg_ne v (by rintro rfl; exact ha.elim h h')
  ctx    := ⟨(s.ctx c).map, s.ctx_setReg a v c⟩

theorem orReg_memStatus (m : Nat) : ReadMarksOnly c s (s.orReg (CTX_MEM_STATUS c) m) := setReg _ (.inl rfl)
theorem bump_tierEnds (n : Nat) : ReadMarksOnly c s (s.bump (CTX_TIER_ENDS c) n) := setReg _ (.inr rfl)

theorem countAccess (n : Nat) : ReadMarksOnly c s (s.countAccess c n) := by
  unfold State.countAccess
  dsimp only
  split
  · exact refl c s
  · exact ⟨rfl, rfl, fun _ _ _ => rfl, _, s.ctx_modCtx_self c _⟩

/-- A read of a retired crate ends with code 6, RETIRED, which CTX_TIER_ENDS counts (R307). -/
theorem noteEnd_retired : ReadMarksOnly c s (s.noteEnd c 6) := (bump_tierEnds 1).trans (orReg_memStatus 16)

theorem foremanReads (addr len : Nat) : ReadMarksOnly c s (s.foremanReads c addr len) := by
  unfold State.foremanReads
  split
  · exact refl c s
  · refine foldl (fun t i => ?_) _ s
    dsimp only
    split
    · exact noteEnd_retired
    · split
      · exact orReg_memStatus 8
      · exact countAccess _

theorem stepReads (d : Desc) : ReadMarksOnly c s (s.stepReads c d) := by
  unfold State.stepReads
  split
  · exact (foldl (fun _ _ => foremanReads _ _) _ s).trans
      ((foremanReads _ _).trans ((foremanReads _ _).trans (foremanReads _ _)))
  · exact refl c s

theorem desc_eq (h : ReadMarksOnly c s t) (no : Nat) : t.desc c no = s.desc c no := by
  obtain ⟨m, hm⟩ := h.ctx
  simp only [State.desc, hm]

theorem step_eq (h : ReadMarksOnly c s t) : (t.ctx c).step = (s.ctx c).step := by
  obtain ⟨m, hm⟩ := h.ctx
  rw [hm]

/-- STREAM_STEP_COUNT is none of the marks of a read, whatever the context. -/
theorem stepCount_eq (h : ReadMarksOnly c s t) (hc : c < 64) : t.reg (STREAM_STEP_COUNT c) = s.reg (STREAM_STEP_COUNT c) := by
  refine h.reg _ ?_ ?_ <;> unfold STREAM_STEP_COUNT
  · unfold CTX_MEM_STATUS; omega
  · unfold CTX_TIER_ENDS; omega

end ReadMarksOnly

/-! A descriptor's start and completion change nothing but the descriptor. -/

@[simp] theorem State.step_modDesc (no : Nat) (f : Desc → Desc) : ((s.modDesc c no f).ctx c).step = (s.ctx c).step := by
  simp [State.modDesc]
@[simp] theorem State.slots_modDesc (no : Nat) (f : Desc → Desc) : ((s.modDesc c no f).ctx c).slots = (s.ctx c).slots := by
  simp [State.modDesc]
@[simp] theorem State.reg_modDesc (no : Nat) (f : Desc → Desc) (a : Nat) : (s.modDesc c no f).reg a = s.reg a := rfl
@[simp] theorem State.cellar_modDesc (no : Nat) (f : Desc → Desc) : (s.modDesc c no f).cellar = s.cellar := rfl
@[simp] theorem State.stock_modDesc (no : Nat) (f : Desc → Desc) : (s.modDesc c no f).stock = s.stock := rfl

/-! The check of the quotas. -/

/-- The context of a ring is one of the 64. -/
theorem State.ringCtx_lt (s : State) (ring : Nat) : s.ringCtx ring < 64 := Nat.mod_lt _ (by decide)

/-- An image taken for a context's region declares what it declared. -/
theorem State.placed_declares {p q : Program} (h : s.placed c p = some q) : q.cellar = p.cellar ∧ q.stock = p.stock := by
  unfold State.placed at h
  dsimp only at h
  split at h
  · split at h
    · cases h; exact ⟨rfl, rfl⟩
    · cases h
  · split at h <;> cases h
    exact ⟨rfl, rfl⟩

/-- A STEP whose image declares more than a quota is refused, with reason REGION when the context holds no region and else
with reason QUOTA. -/
theorem State.stepRefusal_of_quota {d : Desc} {p : Program} (hp : spGet (fun _ => none) (s.ctx c).slots (d.f 64 2) = some p)
    (hq : s.regFld (CTX_QUOTA_CELLAR c) 0 28 < p.cellar ∨ s.regFld (CTX_QUOTA_STOCK c) 0 28 < p.stock) :
    s.stepRefusal c d = some (if s.ctxRegions c = [] then 0x0D else 0x02) := by
  unfold State.stepRefusal
  rw [hp]
  dsimp only
  split
  · rfl
  · split
    · rfl
    · rename_i q hpl
      obtain ⟨hcellar, hstock⟩ := State.placed_declares hpl
      rw [if_pos]
      rw [hcellar, hstock]
      omega

/-- A STEP that the foreman refuses completes REFUSED, and before that nothing but its start and the marks of the foreman's
reads has changed. -/
theorem exec_step_of_refusal {ring : Fin 16384} {index : Fin 65536} {d : Desc} {reason : Nat}
    (hr : s.ready? ring index 1 = some (c, d)) (hf : s.regBit HEALTH_FOREMAN 6 = false)
    (href : (s.start c d.no).stepRefusal c d = some reason) :
    ∃ t, ReadMarksOnly c (s.start c d.no) t ∧ exec (.step ring index) s = .next (t.complete c d.no 3 reason) := by
  have hf' : (s.start c d.no).regBit HEALTH_FOREMAN 6 = false := hf
  have he : exec (.step ring index) s = execStep ring index s := rfl
  rw [he]
  simp only [execStep, hr, hf', href, Bool.false_eq_true, if_false]
  refine ⟨_, ?_, rfl⟩
  split
  · exact (ReadMarksOnly.stepReads d).trans (ReadMarksOnly.orReg_memStatus _)
  · exact ReadMarksOnly.stepReads d

/-- Settles O14: the check of the quotas refuses the STEP, and the foreman's reads mark neither the step count nor a byte of
the tiers. -/
theorem stepBeyondQuotaIsRefused : Obligations.StepBeyondQuotaIsRefused := by
  intro ring index s c d p hr hf hp hq
  obtain ⟨hc, hd, -, -, hres, -⟩ := State.ready_spec hr
  have href := State.stepRefusal_of_quota (s := s.start c d.no) (c := c) (d := d) (p := p)
    (by simpa [State.start] using hp) hq
  obtain ⟨t, ht, hexec⟩ := exec_step_of_refusal hr hf href
  have hdt : t.desc c d.no = some { d with started := true } := (ht.desc_eq d.no).trans (State.desc_start c d.no hd)
  refine ⟨_, hexec, ⟨_, State.resultOf_complete c d.no _ _ _ _ hdt hres, rfl⟩, ?_, ?_, fun a => ?_, fun a => ?_⟩
  · simpa [State.complete, State.start] using ht.step_eq
  · simpa [State.complete, State.start] using ht.stepCount_eq (hc ▸ s.ringCtx_lt ring)
  · simpa [State.complete, State.start] using congrArg (·.byte a) ht.cellar
  · simpa [State.complete, State.start] using congrArg (·.byte a) ht.stock

end Sys2Proof.Machine
end

section
/-! When a ready SWATCH waits (R387). -/

namespace Sys2Proof.Machine

/-- The test for a swatch in progress stands before the descriptor's start, so a ready SWATCH of a busy context is not even
started. -/
theorem execSwatch_of_busy {s : State} {ring : Fin 16384} {index : Fin 65536} {c : Nat} {d : Desc}
    (hready : s.ready? ring index 5 = some (c, d)) (hbusy : (s.ctx c).swatch.isSome = true) :
    execSwatch ring index s = .next s := by
  simp only [execSwatch, hready]
  exact if_pos hbusy

/-- Settles O15: the swatch in progress makes the context busy. -/
theorem secondSwatchWaits : Obligations.SecondSwatchWaits := by
  intro ring index s c d w hready hrun
  have hexec : exec (.swatch ring index) s = execSwatch ring index s := rfl
  have hbusy : (s.ctx c).swatch.isSome = true := Option.isSome_of_eq_some hrun
  exact hexec.trans (execSwatch_of_busy hready hbusy)

end Sys2Proof.Machine
end
